-- ==== Sys2Proof/Word.lean ====
section
/-! DEFINITION. The byte and the 16-bit word of the record memory and the wing line (chapter 12). -/

namespace Sys2Proof

/-- One byte of the record memory, or the eight data bits of a line character. -/
abbrev Byte := BitVec 8

/-- A 16-bit register: the backoff generator, a check value, a fault set. -/
abbrev Word := BitVec 16

end Sys2Proof
end

