-- ==== Sys2Proof/Syntax.lean ====
section
/-! DEFINITION. The commands: one constructor per row of spec/opcode_table.json, with the operands its rule names. -/

namespace Sys2Proof

/-- The two axis channels (R41). -/
inductive AxisName where
  | travel
  | lift
  deriving DecidableEq, Repr

/-- The four end limit switches (R43). -/
inductive LimitSwitch where
  | tll
  | tlh
  | vll
  | vlh
  deriving DecidableEq, Repr

/-- Outcomes carried by a HOLD (12.2). -/
inductive HoldOutcome where
  | queued
  | alreadyCalled
  | queueFull
  | returning
  | unavailable
  deriving DecidableEq, Repr

/-- Levels of the field inputs whose changes have no row of their own in every direction; `true` is active (00_scope.md,
signal abbreviations). DESIGN CHOICE (log 3): every command carries the levels read at its moment. -/
structure Sensors where
  ths : Bool := false
  vhs : Bool := false
  tll : Bool := false
  tlh : Bool := false
  vll : Bool := false
  vlh : Bool := false
  drdy : Bool := false
  fkl : Bool := false
  fkr : Bool := false
  fkc : Bool := false
  fbn : Bool := false
  fpr : Bool := false
  sop : Bool := false
  deriving DecidableEq, Repr

/-- One character of the wing line as sampled: eight data bits and the mark bit (R188); `charBits` gives its
11 bits on the line. -/
structure LineChar where
  data : Byte
  mark : Bool
  deriving DecidableEq, Repr

/-- What the wing line has shown by a command's moment: the characters read back in the attempt in progress that no
CHARACTER_RECEIVED has given (log 18), and for how many µs the line has stood at 1 (log 27). FRAME_SENT and COLLISION take
the first, HUNT_REARM the second. -/
structure LineInput where
  readBack : List LineChar := []
  high : Nat := 0
  deriving DecidableEq, Repr

/-- When a command comes: µs of the station clock since the command before it (log 1), the sensor levels then, and what
the wing line has shown. -/
structure Now where
  elapsed : Nat
  sensors : Sensors
  line : LineInput := {}
  deriving DecidableEq, Repr

/-- The levels the station finds on the inputs it follows by their changes, when the supply comes up (R68, R139, R185). -/
structure PowerPins where
  mpi : Bool := false
  mpo : Bool := false
  scl : Bool := false
  fin : Bool := false
  prk : Bool := false
  ta : Bool := false
  tb : Bool := false
  va : Bool := false
  vb : Bool := false
  sensors : Sensors := {}
  deriving DecidableEq, Repr

/-- The commands. Frame rows carry the frame's source and payload fields (12.2); SLOTSET its five fields as received. -/
inductive Instr where
  | powerOn (pins : PowerPins)
  | nrstActive
  | configRead (now : Now) (record : List Byte)
  | memoryReadTimeout (now : Now)
  | imageRecordRead (now : Now) (b0 b1 b2 b3 : Byte)
  | keyTurn (now : Now)
  | writeDoneReport (now : Now)
  | readbackDone (now : Now) (b0 b1 b2 b3 : Byte)
  | writeTimeout (now : Now)
  | slotset (now : Now) (src face bay level state bin : Nat)
  | fetch (now : Now) (src bin tag : Nat)
  | cancel (now : Now) (src bin tag : Nat)
  | hold (now : Now) (src bin tag requester : Nat) (outcome : HoldOutcome) (estimate : Nat)
  | storePromotion (now : Now) (job : Nat)
  | encoderEdge (now : Now) (axis : AxisName) (a b : Bool)
  | endLimitSwitch (now : Now) (switch : LimitSwitch)
  | axisAtRest (now : Now) (axis : AxisName)
  | dutyPeriodStart (now : Now) (axis : AxisName)
  | stallExpiry (now : Now) (axis : AxisName)
  | drdyInactive (now : Now)
  | forkSensorReached (now : Now)
  | forkTimerExpiry (now : Now)
  | fkcLost (now : Now)
  | fprObstruction (now : Now)
  | binLost (now : Now)
  | homeSwitchEdge (now : Now) (axis : AxisName)
  | homeSwitchReleased (now : Now) (axis : AxisName)
  | homeTimerExpiry (now : Now)
  | carrierPassage (now : Now) (chm cld : Bool)
  | loopStoppedTimeout (now : Now)
  | intakeOccupancyChange (now : Now) (occupied : Bool)
  | dispatchOccupancyChange (now : Now) (occupied : Bool)
  | pusherPulseEnd (now : Now)
  | pusherLimitExpiry (now : Now)
  | loaded (now : Now) (src carrier bin destination tag : Nat)
  | emptied (now : Now) (src carrier bin : Nat)
  | offer (now : Now) (src carrier bin tag : Nat)
  | bid (now : Now) (src carrier tag offerer cost : Nat)
  | claim (now : Now) (src carrier tag offerer cost : Nat)
  | bidWindowEnd (now : Now) (carrier : Nat)
  | finActive (now : Now)
  | finInactive (now : Now)
  | finSettled (now : Now)
  | alarmRepeatTimer (now : Now)
  | alarm (now : Now) (src zoneMask cause : Nat)
  | allclear (now : Now) (src zoneMask : Nat)
  | deadlineTimerExpiry (now : Now)
  | shutterTimerExpiry (now : Now)
  | sclActive (now : Now)
  | sclInactive (now : Now)
  | sopActive (now : Now)
  | beaconTimerExpiry (now : Now)
  | loopTestDone (now : Now) (readBack : List LineChar)
  | huntStartTimed (now : Now) (low : Nat) (char : LineChar) (stop : Bool)
  | silentLineFallback (now : Now)
  | unreadableLineFallback (now : Now)
  | framingError (now : Now)
  | frameGapAbort (now : Now)
  | frameReceived (now : Now)
  | stats (now : Now) (src clear : Nat)
  | txAttemptStart (now : Now)
  | frameSent (now : Now)
  | collision (now : Now)
  | bothPhasesChanged (now : Now) (axis : AxisName)
  | finReadActive (now : Now)
  | prkInputChange (now : Now) (active : Bool)
  | lrxFallingEdge (now : Now)
  | characterReceived (now : Now) (char : LineChar)
  | huntRearm (now : Now)
  | powerOff
  deriving DecidableEq, Repr

end Sys2Proof
end

