-- ==== Sys2Proof/WellFormed.lean ====
section
/-! DEFINITION. Which commands can come about: operands that fit the fields they stand for (Conventions; 12.2; R202). -/

namespace Sys2Proof

/-- A station address, 1..30 (R202). -/
def addressOk (n : Nat) : Bool := 1 ≤ n && n ≤ 30

/-- A one-byte field. -/
def byteOk (n : Nat) : Bool := n < 256

/-- A two-byte field. -/
def wordOk (n : Nat) : Bool := n < 65536

/-- A bin number field of three bytes; 0 is "no bin". -/
def binFieldOk (n : Nat) : Bool := n < 16777216

/-- A bin number, 1..16,777,215. -/
def binOk (n : Nat) : Bool := 1 ≤ n && n < 16777216

/-- A carrier number; N is at most 64 (R179). -/
def carrierOk (n : Nat) : Bool := n < 64

/-- The operands fit their fields. The carrier is tested against the configured N when the frame is taken. -/
def Instr.wellFormed : Instr → Bool
  | .configRead _ record => record.length == 116
  | .slotset _ src face bay level state bin =>
      addressOk src && byteOk face && byteOk bay && byteOk level && byteOk state && binFieldOk bin
  | .fetch _ src bin tag => addressOk src && binFieldOk bin && byteOk tag
  | .cancel _ src bin tag => addressOk src && binFieldOk bin && byteOk tag
  | .hold _ src bin tag requester _ estimate =>
      addressOk src && binFieldOk bin && byteOk tag && addressOk requester && wordOk estimate
  | .storePromotion _ job => byteOk job
  | .loaded _ src carrier bin destination tag =>
      addressOk src && carrierOk carrier && binOk bin && addressOk destination && byteOk tag
  | .emptied _ src carrier bin => addressOk src && carrierOk carrier && binOk bin
  | .offer _ src carrier bin tag => addressOk src && carrierOk carrier && binOk bin && byteOk tag
  | .bid _ src carrier tag offerer cost =>
      addressOk src && carrierOk carrier && byteOk tag && addressOk offerer && wordOk cost
  | .claim _ src carrier tag offerer cost =>
      addressOk src && carrierOk carrier && byteOk tag && addressOk offerer && wordOk cost
  | .bidWindowEnd _ carrier => carrierOk carrier
  | .alarm _ src zoneMask cause => addressOk src && byteOk zoneMask && byteOk cause
  | .allclear _ src zoneMask => addressOk src && byteOk zoneMask
  | .stats _ src clear => addressOk src && clear ≤ 1
  | .powerOn _ | .nrstActive | .powerOff => true
  | .memoryReadTimeout _ | .imageRecordRead _ _ _ _ _ | .keyTurn _ | .writeDoneReport _ | .readbackDone _ _ _ _ _
  | .writeTimeout _ | .encoderEdge _ _ _ _ | .endLimitSwitch _ _ | .axisAtRest _ _ | .dutyPeriodStart _ _
  | .stallExpiry _ _ | .drdyInactive _ | .forkSensorReached _ | .forkTimerExpiry _ | .fkcLost _ | .fprObstruction _
  | .binLost _ | .homeSwitchEdge _ _ | .homeSwitchReleased _ _ | .homeTimerExpiry _ | .carrierPassage _ _ _
  | .loopStoppedTimeout _ | .intakeOccupancyChange _ _ | .dispatchOccupancyChange _ _ | .pusherPulseEnd _
  | .pusherLimitExpiry _ | .finActive _ | .finInactive _ | .finSettled _ | .alarmRepeatTimer _ | .deadlineTimerExpiry _
  | .shutterTimerExpiry _ | .sclActive _ | .sclInactive _ | .sopActive _ | .beaconTimerExpiry _ | .loopTestDone _ _
  | .huntStartTimed _ _ _ _ | .silentLineFallback _ | .unreadableLineFallback _ | .framingError _ | .frameGapAbort _
  | .frameReceived _ | .txAttemptStart _ | .frameSent _ | .collision _ | .bothPhasesChanged _ _ | .finReadActive _
  | .prkInputChange _ _ | .lrxFallingEdge _ | .characterReceived _ _ | .huntRearm _ => true

end Sys2Proof
end

