-- ==== Sys2Proof/Decode.lean ====
section
/-! DEFINITION. The host's decoder over the opcode table's bits. Every row of spec/opcode_table.json has an empty
"fields" list and no fixed bits: no word spells a command, so every word is refused (log 6). The bytes the part itself
decodes, those of a frame and of the records, are read in Machine/Operands.lean. -/

namespace Sys2Proof

/-- The command that a word spells by the table's bits: the table gives no row any bits. -/
def decodeTableWord (_nbits _w : Nat) : Option Instr := none

end Sys2Proof
end

