-- ==== Sys2Proof/Config.lean ====
section
/-! DEFINITION. The configuration record as the station holds it once read (R178, R179, chapter 12.3). It is fixed
while the station runs. Fields stored in seconds are held in ms, as the Conventions ask. -/

namespace Sys2Proof

/-- One value for each of the four speed steps; step 0 is creep. -/
structure PerStep where
  s0 : Nat
  s1 : Nat
  s2 : Nat
  s3 : Nat
  deriving DecidableEq, Repr

/-- The configured values of one axis: home count, duties in ‰, slowdown thresholds (step 0 has threshold 0),
minimum encoder periods in µs, stall times in ms. -/
structure AxisConfig where
  home : Nat
  duty : PerStep
  threshold : PerStep
  minPeriod : PerStep
  stall : PerStep
  deriving DecidableEq, Repr

/-- The configuration record, field by field in the order of 12.3. -/
structure Config where
  address : Nat
  groupMask : Byte
  zone : Nat
  panel : Nat
  maintenance : Nat
  preferredRate : Nat
  faces : Nat
  bays : Nat
  levels : Nat
  clearBay : Nat
  t0 : Nat
  cb : Nat
  v0 : Nat
  cl : Nat
  lo : Nat
  travel : AxisConfig
  lift : AxisConfig
  window : Nat
  carriers : Nat
  tb : Nat
  tl : Nat
  rt : Nat
  rl : Nat
  fork : Nat
  forkLimit : Nat
  homeLimit : Nat
  pusherPulse : Nat
  pusherLimit : Nat
  fillWeight : Nat
  bidWindow : Nat
  storePatience : Nat
  fireDeadline : Nat
  shutterLimit : Nat
  finSettle : Nat
  beaconPeriod : Nat
  deriving DecidableEq, Repr

end Sys2Proof
end

