-- ==== Sys2Proof/Machine/State.lean ====
section
/-! DEFINITION. The station's state, block by block as 00_scope.md's block overview divides it, as plain data; the
reasons a step can stop; the state right after power-on. Moments are µs of the station clock unless a field says ms. -/

namespace Sys2Proof.Machine

/-- Why a step stops with a fault. No command of this block stops it: the sixteen faults of R161 are recorded in the
fault sets and the station goes on, so there is no such reason. -/
inductive Fault where
  deriving DecidableEq, Repr

/-- Why a step is refused. -/
inductive Refusal where
  /-- Raised by `exec` for a row that has no meaning yet; safe. Every row has one, so nothing raises it. -/
  | notModelled (mnemonic : String)
  deriving DecidableEq, Repr

/-! ## Names the rules give -/

/-- The eight station states (R176). -/
inductive StationState where
  | start
  | loading
  | acquiring
  | homing
  | run
  | shutdown
  | faulted
  | halted
  deriving DecidableEq, Repr

/-- The seven fire states (chapter 8). -/
inductive FireState where
  | calm
  | halting
  | clearing
  | sealing
  | sealed
  | breached
  | reopening
  deriving DecidableEq, Repr

/-- The sixteen faults in priority order (R161). -/
inductive FaultName where
  | memory
  | drive
  | limit
  | encoder
  | overspeed
  | stall
  | position
  | binLost
  | forkJam
  | forkTimeout
  | home
  | pusher
  | shutter
  | loop
  | directory
  | line
  deriving DecidableEq, Repr

/-- The rack side. -/
inductive Face where
  | left
  | right
  deriving DecidableEq, Repr

/-- A slot address (face, bay, level). -/
structure SlotAddr where
  face : Face
  bay : Nat
  level : Nat
  deriving DecidableEq, Repr

/-! ## Directory unit (chapter 1) -/

/-- Why a slot is BLOCKED (R1). -/
inductive BlockReason where
  | corrupt
  | duplicate
  | missing
  | obstructed
  deriving DecidableEq, Repr

/-- The five slot states (R1). -/
inductive SlotState where
  | empty
  | held
  | outbound
  | inbound
  | blocked (reason : BlockReason)
  deriving DecidableEq, Repr

/-- What the record memory holds for a slot: a lasting state and a bin (R1). -/
structure Image where
  state : SlotState
  bin : Nat
  deriving DecidableEq, Repr

/-- A slot record with its write-owed mark (R1, R12). -/
structure SlotRec where
  state : SlotState
  bin : Nat
  owed : Bool
  deriving DecidableEq, Repr

/-- An entry of the write list (R10). -/
structure WriteEntry where
  slot : SlotAddr
  image : Image
  job : Option Nat
  acks : Nat
  deriving DecidableEq, Repr

/-- The memory port's states (R13). -/
inductive PortState where
  | idle
  | reading
  | writing
  | checking
  deriving DecidableEq, Repr

structure Directory where
  /-- the records in slot order (R2); none before a load has ended -/
  records : List SlotRec
  emptyCount : Nat
  /-- oldest first; the first is under write while the port is WRITING or CHECKING -/
  writeList : List WriteEntry
  port : PortState
  /-- when the access in progress began (the 20 ms of R13 and R16) -/
  portSince : Nat
  /-- the attempt of the write in progress, 1 or 2 -/
  attempt : Nat
  /-- the records a load has read so far (R16) -/
  staging : List SlotRec
  deriving DecidableEq, Repr

/-! ## Job queue unit (chapter 2) -/

inductive JobKind where
  | fetch
  | store
  deriving DecidableEq, Repr

/-- The stages of R25 and R26. -/
inductive Stage where
  | awaitCarrier
  | waiting
  | toPick
  | picking
  | toPlace
  | placing
  | dispatching
  | committing
  deriving DecidableEq, Repr

/-- A start estimate in cs with its start moment in ms (R92). -/
structure StartEstimate where
  estimate : Nat
  moment : Nat
  deriving DecidableEq, Repr

/-- A job record (R23). `pulledSince` is in ms. -/
structure Job where
  num : Nat
  kind : JobKind
  bin : Nat
  slot : Option SlotAddr
  requester : Nat
  tag : Nat
  carrier : Option Nat
  stage : Stage
  start : Option StartEstimate
  pulledSince : Option Nat
  promoted : Bool
  reoffer : Bool
  deriving DecidableEq, Repr

/-- Outcomes carried by a FAILED (12.2). -/
inductive FailOutcome where
  | cancelled
  | notFound
  | fireStop
  | stationFault
  | duplicate
  | reOffered
  deriving DecidableEq, Repr

/-- What a held request asks for (R83). -/
inductive RequestKind where
  | yield
  | fail (outcome : FailOutcome)
  deriving DecidableEq, Repr

/-- A request held until a pull's action ends (R83). `pulled` is the model's own: the STORE's bin was off its carrier when
the request came (log 42). -/
structure HeldRequest where
  job : Nat
  kind : RequestKind
  pulled : Bool
  deriving DecidableEq, Repr

structure JobQueue where
  jobs : List Job
  counter : Nat
  held : List HeldRequest
  deriving DecidableEq, Repr

/-! ## Crane unit (chapter 3) -/

inductive Dir where
  | up
  | down
  deriving DecidableEq, Repr

/-- A move's phase (R41, 3.3). -/
inductive MoveState where
  | none
  | driving
  | settling
  deriving DecidableEq, Repr

/-- An axis channel (R41). -/
structure Axis where
  count : Nat
  homed : Bool
  move : MoveState
  target : Option Nat
  dir : Option Dir
  step : Nat
  cap : Nat
  reversals : Nat
  /-- the stall one-shot: its expiry moment while it runs (R49) -/
  stall : Option Nat
  /-- the period meter: the last A-phase rising edge and the first-period mark (R50) -/
  lastRise : Option Nat
  firstMark : Bool
  /-- the speed output: duty in ‰ and direction -/
  duty : Nat
  outDir : Dir
  /-- a duty that takes effect at the start of the next duty period (R46) -/
  nextDuty : Option Nat
  /-- brake applied -/
  brake : Bool
  /-- the encoder pair that the next sample is compared with (R42) -/
  phaseA : Bool
  phaseB : Bool
  /-- the moment from which the 20 ms of rest are counted (R47; log 15) -/
  quietSince : Nat
  deriving DecidableEq, Repr

/-- The crane unit's modes (R58). -/
inductive CraneMode where
  | idle
  | homing
  | step
  | writeWait
  | clearing
  | stopping
  | stopped
  deriving DecidableEq, Repr

/-- The fork actions, each with the output it asserts (R53): FXL, FXR, FRT. -/
inductive ForkAction where
  | extendL
  | extendR
  | retract
  deriving DecidableEq, Repr

/-- The position P a step names (R59). -/
inductive Place where
  | slot (addr : SlotAddr)
  | intake
  | dispatch
  deriving DecidableEq, Repr

/-- The four kinds of step (R59). -/
inductive StepKind where
  | movePick
  | pick
  | movePlace
  | place
  deriving DecidableEq, Repr

/-- Where a step in progress stands (R59 to R62). -/
inductive StepPhase where
  | begin
  | openingRetract
  | moving
  | waitEmpty
  | extend
  | liftMove
  | retract
  | retractObstructed
  deriving DecidableEq, Repr

structure CraneStep where
  job : Nat
  kind : StepKind
  place : Place
  phase : StepPhase
  deriving DecidableEq, Repr

/-- The results of a cycle (R60, R61, R62). -/
inductive StepResult where
  | pickVerified
  | noBin
  | placeVerified
  | obstructed
  deriving DecidableEq, Repr

/-- A step whose result waits for a place on the write list (R12). -/
structure HeldStep where
  step : CraneStep
  result : StepResult
  deriving DecidableEq, Repr

/-- The step a stop report names, and whether its own action had finished (R66). -/
structure NamedStep where
  job : Nat
  kind : StepKind
  done : Bool
  deriving DecidableEq, Repr

/-- The stop report (R66). -/
structure StopReport where
  fbn : Bool
  travel : Nat
  lift : Nat
  step : Option NamedStep
  homing : Bool
  deriving DecidableEq, Repr

/-- Homing's drives (R56) and the moves to the front (R57). -/
inductive HomingPhase where
  | away (axis : AxisName)
  | awayRest (axis : AxisName)
  | toward (axis : AxisName)
  | towardRest (axis : AxisName)
  | front
  deriving DecidableEq, Repr

/-- The clearing move (R67): a retract when the fork is out, then the travel move. -/
inductive ClearPhase where
  | retract
  | moving
  deriving DecidableEq, Repr

structure Crane where
  mode : CraneMode
  travel : Axis
  lift : Axis
  fork : Option ForkAction
  /-- expiry of the fork timer while it runs (R53) -/
  forkTimer : Option Nat
  step : Option CraneStep
  held : Option HeldStep
  /-- the step in progress when the stop was ordered, or kept named after a fault ended it (R52, R66) -/
  named : Option NamedStep
  report : Option StopReport
  homing : Option HomingPhase
  /-- expiry of the home timer while it runs (R55) -/
  homeTimer : Option Nat
  clearing : Option ClearPhase
  /-- a carry is in progress (R63) -/
  carry : Bool
  /-- homing was abandoned by the stop being carried out (R57) -/
  homingStopped : Bool
  deriving DecidableEq, Repr

/-! ## Front unit (chapter 4) -/

inductive DispatchOwner where
  | none
  | fetch (job : Nat)
  | reOffer (bin tag : Nat)
  deriving DecidableEq, Repr

inductive Pusher where
  | intake
  | dispatch
  deriving DecidableEq, Repr

/-- Whose bin an action moves (R79). The STORE's bin is kept for the EMPTIED of R82 (log 36). -/
inductive ActionOwner where
  | store (job bin : Nat)
  | dispatch (owner : DispatchOwner)
  deriving DecidableEq, Repr

/-- The pusher action record (R79). -/
structure PusherAction where
  pusher : Pusher
  carrier : Nat
  owner : ActionOwner
  fired : Nat
  pulseEnded : Bool
  confirmed : Bool
  deriving DecidableEq, Repr

/-- An entry of the loop view (R74). -/
inductive ViewEntry where
  | free
  | unknown
  | laden (bin destination loader : Option Nat)
  deriving DecidableEq, Repr

/-- The front unit's items (R68). `period` and `previous` are in ms. -/
structure Front where
  intake : Bool
  dispatch : Bool
  owner : DispatchOwner
  action : Option PusherAction
  index : Nat
  indexValid : Bool
  view : List ViewEntry
  period : Option Nat
  discard : Bool
  stopped : Bool
  stopEdges : Nat
  /-- expiry of the loop-stopped timer while it runs (R73) -/
  stopTimer : Option Nat
  previous : Option Nat
  reofferTag : Nat
  slips : Nat
  corrections : Nat
  deriving DecidableEq, Repr

/-! ## Offer unit (chapter 7) -/

inductive OwnState where
  | none
  | bidPending
  | bidSent
  | claimed
  deriving DecidableEq, Repr

/-- A withdrawal held while the BID is under an attempt (R197, R125; log 17). -/
inductive HeldWithdrawal where
  | suppress
  | windowEnd
  deriving DecidableEq, Repr

/-- A bid as it is compared (R101). -/
structure BidPair where
  cost : Nat
  address : Nat
  deriving DecidableEq, Repr

/-- An open entry of the offer table (R119). `windowEnd` is in ms; `serial` is the model's own (log 17). -/
structure OfferEntry where
  serial : Nat
  carrier : Nat
  bin : Nat
  tag : Nat
  offerer : Nat
  windowEnd : Nat
  ownCost : Option Nat
  own : OwnState
  best : Option BidPair
  heard : Nat
  job : Option Nat
  withheld : Option HeldWithdrawal
  deriving DecidableEq, Repr

structure OfferTable where
  entries : List OfferEntry
  nextSerial : Nat
  deriving DecidableEq, Repr

/-! ## Fire unit (chapter 8) -/

inductive StartPoint where
  | none
  | loading
  | homing
  deriving DecidableEq, Repr

/-- The fire unit's items (R139). The timers are expiry moments while they run. -/
structure FireUnit where
  state : FireState
  allClear : Bool
  fin : Bool
  filtered : Bool
  finRun : Option Nat
  finLast : Nat
  alarmTimer : Option Nat
  deadline : Option Nat
  shutter : Option Nat
  forced : Bool
  rehome : Bool
  recordMark : Bool
  parked : Bool
  startPoint : StartPoint
  scl : Bool
  deriving DecidableEq, Repr

/-! ## Fault unit (chapter 9) -/

inductive SuspKind where
  | quiet
  | laden
  deriving DecidableEq, Repr

inductive Cause where
  | fire
  | fault
  deriving DecidableEq, Repr

/-- A suspension record of a kind other than NONE (R168). `step` and `homed` are the model's own (log 19). -/
structure Suspension where
  kind : SuspKind
  job : Nat
  stage : Stage
  done : Bool
  cause : Cause
  travel : Nat
  lift : Nat
  primary : Option FaultName
  step : StepKind
  homed : Bool
  deriving DecidableEq, Repr

structure FaultUnit where
  current : Word
  accrued : Word
  reported : Word
  /-- kind NONE is `none` -/
  suspension : Option Suspension
  /-- expiry of the beacon timer while it runs (R173) -/
  beacon : Option Nat
  deriving DecidableEq, Repr

/-! ## Line unit (chapter 11) -/

/-- The line unit's modes (R187). -/
inductive LineMode where
  | off
  | loopTest
  | hunting
  | locked
  deriving DecidableEq, Repr

/-- The receiver's states (R194). -/
inductive RxState where
  | awaitLead
  | awaitAddress
  | header
  | payload
  | check
  deriving DecidableEq, Repr

/-- What a received frame says, for the kinds that reach a block (R196). -/
inductive RxBody where
  | fetch (bin tag : Nat)
  | cancel (bin tag : Nat)
  | hold (bin tag requester : Nat) (outcome : HoldOutcome) (estimate : Nat)
  | offer (carrier bin tag : Nat)
  | bid (carrier tag offerer cost : Nat)
  | claim (carrier tag offerer cost : Nat)
  | loaded (carrier bin destination tag : Nat)
  | emptied (carrier bin : Nat)
  | alarm (zoneMask cause : Nat)
  | allclear (zoneMask : Nat)
  | stats (clear : Nat)
  | slotset (face bay level state bin : Nat)
  deriving DecidableEq, Repr

structure RxFrame where
  src : Nat
  body : RxBody
  deriving DecidableEq, Repr

/-- Results carried by a SLOTACK (12.2). -/
inductive SlotResult where
  | accepted
  | refusedSource
  | refusedRange
  | refusedBusy
  | refusedDuplicate
  deriving DecidableEq, Repr

/-- What the station sends (12.2). -/
inductive TxBody where
  | hold (bin tag requester : Nat) (outcome : HoldOutcome) (estimate : Nat)
  | offer (carrier bin tag : Nat)
  | bid (carrier tag offerer cost : Nat)
  | claim (carrier tag offerer cost : Nat)
  | loaded (carrier bin destination tag : Nat)
  | emptied (carrier bin : Nat)
  | stored (bin tag : Nat) (slot : SlotAddr)
  | failed (bin tag : Nat) (outcome : FailOutcome)
  | beacon (station : StationState) (fire : FireState) (depth emptyCount capacity : Nat) (primary : Option FaultName)
      (accrued current : Word)
  | alarm (zone : Nat)
  | parked (zone : Nat) (forced breached : Bool) (kind : Option SuspKind)
  | statsReply (counters : List Nat)
  | slotack (face bay level : Nat) (result : SlotResult)
  deriving DecidableEq, Repr

/-- An addressee: one station, or all. -/
inductive Dest where
  | all
  | station (address : Nat)
  deriving DecidableEq, Repr

/-- An entry of the transmit queue (R197). `offer` is the serial of the offer entry that awaits a report, `reported` the
reported set a BEACON keeps (R175), `withdrawn` a withdrawal held while the frame is under an attempt. -/
structure TxEntry where
  body : TxBody
  dest : Dest
  offer : Option Nat
  reported : Word
  attempts : Nat
  backoff : Nat
  order : Nat
  withdrawn : Bool
  deriving DecidableEq, Repr

/-- The attempt in progress (R198, R199): the entry sent, by its queuing order, the characters not yet read back, and the
moment at which the first of them began to be driven. -/
structure Attempt where
  order : Nat
  remaining : List LineChar
  since : Nat
  deriving DecidableEq, Repr

/-- The line unit's ten counters (R200). -/
structure LineCounters where
  check : Nat
  aborted : Nat
  tooLong : Nat
  framing : Nat
  notMine : Nat
  rxOverrun : Nat
  collision : Nat
  txLost : Nat
  acqFail : Nat
  ignoredOffer : Nat
  deriving DecidableEq, Repr

structure LineUnit where
  mode : LineMode
  rate : Option Nat
  rx : RxState
  /-- the characters of the frame in progress from its address on -/
  rxBuf : List Byte
  /-- a complete frame whose CHECK matched, ADDR through payload (R195) -/
  rxDone : Option (List Byte)
  rxQueue : List RxFrame
  /-- the general entries in queuing order, and the reserved entry -/
  general : List TxEntry
  reserved : Option TxEntry
  nextOrder : Nat
  attempt : Option Attempt
  backoffGen : Word
  counters : LineCounters
  /-- the framing tally: moments of recent framing errors, oldest first (R192) -/
  tally : List Nat
  armed : Bool
  huntEntry : Nat
  run : Nat
  runEntry : Nat
  huntStart : Nat
  lastFall : Nat
  /-- the moment from which the line is idle (R198) -/
  idleFrom : Nat
  everLocked : Bool
  deriving DecidableEq, Repr

/-! ## The whole station -/

structure State where
  powered : Bool
  clock : Nat
  sensors : Sensors
  station : StationState
  config : Option Config
  prk : Bool
  prkArmed : Bool
  prkRun : Option Nat
  dir : Directory
  queue : JobQueue
  crane : Crane
  front : Front
  offers : OfferTable
  fire : FireUnit
  faults : FaultUnit
  line : LineUnit
  /-- the bytes known to stand in the record memory, by address (R203, R204; log 9) -/
  memory : List Host.Cell
  /-- the commands waiting, first in, first out -/
  pending : List Instr
  deriving DecidableEq, Repr

/-! ## Values after power-on -/

/-- An axis channel after power-on (R41). -/
def Axis.reset : Axis :=
  { count := 0, homed := false, move := .none, target := none, dir := none, step := 0, cap := 3, reversals := 0,
    stall := none, lastRise := none, firstMark := true, duty := 0, outDir := .up, nextDuty := none, brake := true,
    phaseA := false, phaseB := false, quietSince := 0 }

/-- The directory unit after power-on (R18). -/
def Directory.reset : Directory :=
  { records := [], emptyCount := 0, writeList := [], port := .idle, portSince := 0, attempt := 0, staging := [] }

/-- The job queue unit after power-on (R39, R83). -/
def JobQueue.reset : JobQueue := { jobs := [], counter := 0, held := [] }

/-- The crane unit after power-on (R41, R53, R58). -/
def Crane.reset : Crane :=
  { mode := .idle, travel := Axis.reset, lift := Axis.reset, fork := none, forkTimer := none, step := none, held := none,
    named := none, report := none, homing := none, homeTimer := none, clearing := none, carry := false,
    homingStopped := false }

/-- The front unit after power-on (R68). -/
def Front.reset : Front :=
  { intake := false, dispatch := false, owner := .none, action := none, index := 0, indexValid := false, view := [],
    period := none, discard := false, stopped := false, stopEdges := 0, stopTimer := none, previous := none,
    reofferTag := 0, slips := 0, corrections := 0 }

/-- The offer unit after power-on (R119). -/
def OfferTable.reset : OfferTable := { entries := [], nextSerial := 0 }

/-- The fire unit after power-on (R139). -/
def FireUnit.reset : FireUnit :=
  { state := .calm, allClear := false, fin := false, filtered := false, finRun := none, finLast := 0, alarmTimer := none,
    deadline := none, shutter := none, forced := false, rehome := false, recordMark := false, parked := false,
    startPoint := .none, scl := false }

/-- The fault unit after power-on (R163, R168, R173). -/
def FaultUnit.reset : FaultUnit :=
  { current := 0, accrued := 0, reported := 0, suspension := none, beacon := none }

/-- All line counters at 0. -/
def LineCounters.reset : LineCounters :=
  { check := 0, aborted := 0, tooLong := 0, framing := 0, notMine := 0, rxOverrun := 0, collision := 0, txLost := 0,
    acqFail := 0, ignoredOffer := 0 }

/-- The line unit after power-on (R187). -/
def LineUnit.reset : LineUnit :=
  { mode := .off, rate := none, rx := .awaitLead, rxBuf := [], rxDone := none, rxQueue := [], general := [],
    reserved := none, nextOrder := 0, attempt := none, backoffGen := 1, counters := LineCounters.reset, tally := [],
    armed := true, huntEntry := 0, run := 0, runEntry := 0, huntStart := 0, lastFall := 0, idleFrom := 0,
    everLocked := false }

/-- The station right after power-on with every input inactive (R177; log 7). Commands are put into `pending` from
outside (log 6). -/
def State.reset : State :=
  { powered := true, clock := 0, sensors := {}, station := .start, config := none, prk := false, prkArmed := false,
    prkRun := none, dir := Directory.reset, queue := JobQueue.reset, crane := Crane.reset, front := Front.reset,
    offers := OfferTable.reset, fire := FireUnit.reset, faults := FaultUnit.reset, line := LineUnit.reset,
    memory := [], pending := [] }

end Sys2Proof.Machine
end

