-- ==== Sys2Proof/Machine/Ops.lean ====
section
/-! DEFINITION. Arithmetic of the Conventions and chapter 5.1, the named updates of the state, time, and the record
memory's bytes. -/

namespace Sys2Proof.Machine

/-! ## Arithmetic -/

/-- Sums of estimates saturate at 65,535 (R87). -/
def satAdd (a b : Nat) : Nat := min (a + b) 65535

/-- A product taken as a term: the smaller of its exact value and 65,535 (R87). -/
def satMul (a b : Nat) : Nat := min (a * b) 65535

/-- Event counters saturate at 65,535 (Conventions). -/
def satInc (n : Nat) : Nat := min (n + 1) 65535

/-- round-half-even(x ÷ y) (R88). -/
def roundHalfEven (x y : Nat) : Nat :=
  let q := x / y
  let r := x % y
  if y < 2 * r then q + 1 else if 2 * r < y then q else if q % 2 = 0 then q else q + 1

/-- |a − b|. -/
def dist (a b : Nat) : Nat := (a - b) + (b - a)

/-- The step's value of a per-step field. -/
def stepValue (p : PerStep) (step : Nat) : Nat :=
  match step with
  | 0 => p.s0
  | 1 => p.s1
  | 2 => p.s2
  | _ => p.s3

/-- A duration in ms as µs of the station clock. -/
def msec (n : Nat) : Nat := n * 1000

/-! ## Named updates -/

def State.setStation (s : State) (x : StationState) : State := { s with station := x }
def State.setSensors (s : State) (x : Sensors) : State := { s with sensors := x }
def State.setClock (s : State) (t : Nat) : State := { s with clock := t }
def State.setMemory (s : State) (m : List Host.Cell) : State := { s with memory := m }
def State.setKey (s : State) (level armed : Bool) (run : Option Nat) : State :=
  { s with prk := level, prkArmed := armed, prkRun := run }
def State.setConfig (s : State) (c : Config) : State := { s with config := some c }
def State.onDir (s : State) (f : Directory → Directory) : State := { s with dir := f s.dir }
def State.onQueue (s : State) (f : JobQueue → JobQueue) : State := { s with queue := f s.queue }
def State.onCrane (s : State) (f : Crane → Crane) : State := { s with crane := f s.crane }
def State.onFront (s : State) (f : Front → Front) : State := { s with front := f s.front }
def State.onOffers (s : State) (f : OfferTable → OfferTable) : State := { s with offers := f s.offers }
def State.onFire (s : State) (f : FireUnit → FireUnit) : State := { s with fire := f s.fire }
def State.onFaults (s : State) (f : FaultUnit → FaultUnit) : State := { s with faults := f s.faults }
def State.onLine (s : State) (f : LineUnit → LineUnit) : State := { s with line := f s.line }

/-- The channel of an axis. -/
def Crane.axis (c : Crane) : AxisName → Axis
  | .travel => c.travel
  | .lift => c.lift

def Crane.onAxis (c : Crane) (a : AxisName) (f : Axis → Axis) : Crane :=
  match a with
  | .travel => { c with travel := f c.travel }
  | .lift => { c with lift := f c.lift }

def State.axis (s : State) (a : AxisName) : Axis := s.crane.axis a
def State.onAxis (s : State) (a : AxisName) (f : Axis → Axis) : State := s.onCrane (fun c => c.onAxis a f)

def LineUnit.onCounters (l : LineUnit) (f : LineCounters → LineCounters) : LineUnit :=
  { l with counters := f l.counters }

def State.onCounters (s : State) (f : LineCounters → LineCounters) : State := s.onLine (fun l => l.onCounters f)

/-! ## Time -/

/-- The station clock in ms. -/
def State.msNow (s : State) : Nat := s.clock / 1000

/-- A timer held as its expiry moment has run out. -/
def State.due (s : State) (timer : Option Nat) : Bool :=
  match timer with
  | none => false
  | some t => decide (t ≤ s.clock)

/-- The moment `n` ms from now. -/
def State.inMs (s : State) (n : Nat) : Nat := s.clock + msec n

/-- The command's moment comes: the clock has advanced and the inputs read as they then stand (logs 1 and 3). -/
def State.arrive (s : State) (now : Now) : State := (s.setClock (s.clock + now.elapsed)).setSensors now.sensors

/-- A command acts only while the station is powered; while the supply is off or NRST held the blocks do not run
(R177, log 8). -/
def whenOn (now : Now) (s : State) (act : State → State) : Host.Outcome State Fault Refusal :=
  .next (if s.powered then act (s.arrive now) else s)

/-! ## Configuration in force -/

/-- The configured values, absent before a valid record is held and in HALTED, where the defaults act (R180). -/
def State.cfg (s : State) : Option Config := if s.station = .halted then none else s.config

/-! ## Record memory (12.3, 12.4) -/

namespace Memory

/-- The known byte at an address; an unlisted address is not known (log 9). -/
def read (a : Nat) : List Host.Cell → Option Byte
  | [] => none
  | (b, v) :: m => if a = b then some v else read a m

/-- Set the byte at an address, keeping the addresses strictly rising. -/
def set (a : Nat) (v : Byte) : List Host.Cell → List Host.Cell
  | [] => [(a, v)]
  | (b, w) :: m => if a < b then (a, v) :: (b, w) :: m else if a = b then (a, v) :: m else (b, w) :: set a v m

/-- Forget the byte at an address. -/
def drop (a : Nat) : List Host.Cell → List Host.Cell
  | [] => []
  | (b, w) :: m => if a = b then m else (b, w) :: drop a m

/-- Set the bytes from an address on. -/
def setAll (a : Nat) (bytes : List Byte) (m : List Host.Cell) : List Host.Cell :=
  match bytes with
  | [] => m
  | v :: rest => setAll (a + 1) rest (set a v m)

/-- Forget `n` bytes from an address on. -/
def dropAll (a n : Nat) (m : List Host.Cell) : List Host.Cell :=
  match n with
  | 0 => m
  | k + 1 => dropAll (a + 1) k (drop a m)

/-- Every address listed lies above `a`. -/
def above (a : Nat) : List Host.Cell → Bool
  | [] => true
  | (b, _) :: m => decide (a < b) && above a m

/-- The canonical form: addresses strictly rising. An unlisted address reads as no value, so no entry equals it. -/
def wf : List Host.Cell → Bool
  | [] => true
  | (a, _) :: m => above a m && wf m

end Memory

/-! ## Lists -/

/-- The first element that passes the test, replaced. -/
def updateFirst {α : Type} (p : α → Bool) (f : α → α) : List α → List α
  | [] => []
  | x :: xs => if p x then f x :: xs else x :: updateFirst p f xs

/-- The list without its first element that passes the test. -/
def removeFirst {α : Type} (p : α → Bool) : List α → List α
  | [] => []
  | x :: xs => if p x then xs else x :: removeFirst p xs

/-- `x` put immediately before the first element that passes the test; `none` when there is none. -/
def insertBefore {α : Type} (p : α → Bool) (x : α) : List α → Option (List α)
  | [] => none
  | y :: ys => if p y then some (x :: y :: ys) else (insertBefore p x ys).map (y :: ·)

/-- `x` put immediately after the last element that passes the test; `none` when there is none. -/
def insertAfterLast {α : Type} (p : α → Bool) (x : α) : List α → Option (List α)
  | [] => none
  | y :: ys =>
    match insertAfterLast p x ys with
    | some zs => some (y :: zs)
    | none => if p y then some (y :: x :: ys) else none

/-- Replace the element at a place. -/
def setAt {α : Type} (n : Nat) (x : α) : List α → List α
  | [] => []
  | y :: ys =>
    match n with
    | 0 => x :: ys
    | k + 1 => y :: setAt k x ys

/-- The element at a place. -/
def getAt {α : Type} (n : Nat) : List α → Option α
  | [] => none
  | y :: ys =>
    match n with
    | 0 => some y
    | k + 1 => getAt k ys

end Sys2Proof.Machine
end

