-- ==== Sys2Proof/Machine/Flags.lean ====
section
/-! DEFINITION. The fault sets (R161 to R163) and the pins the station drives, computed from the state that decides
them, so that each value has one home. -/

namespace Sys2Proof.Machine

/-! ## Faults -/

/-- The fault's priority, 1..16 (R161). -/
def FaultName.priority : FaultName → Nat
  | .memory => 1
  | .drive => 2
  | .limit => 3
  | .encoder => 4
  | .overspeed => 5
  | .stall => 6
  | .position => 7
  | .binLost => 8
  | .forkJam => 9
  | .forkTimeout => 10
  | .home => 11
  | .pusher => 12
  | .shutter => 13
  | .loop => 14
  | .directory => 15
  | .line => 16

/-- Priorities 1 to 12 are severe, 13 to 16 mild (R161). -/
def FaultName.severe (f : FaultName) : Bool := f.priority ≤ 12

/-- The fault's bit in a fault set: MEMORY is 0x0001, LINE is 0x8000 (12.2). -/
def FaultName.bit (f : FaultName) : Word := 1#16 <<< (f.priority - 1)

/-- The faults, highest priority first. -/
def FaultName.all : List FaultName :=
  [.memory, .drive, .limit, .encoder, .overspeed, .stall, .position, .binLost, .forkJam, .forkTimeout, .home, .pusher,
    .shutter, .loop, .directory, .line]

/-- Membership of a fault set. -/
def inSet (set : Word) (f : FaultName) : Bool := set.getLsbD (f.priority - 1)

/-- The primary fault: the member of the current set with the highest priority (R163). -/
def primaryOf (set : Word) : Option FaultName := FaultName.all.find? (inSet set)

def State.primary (s : State) : Option FaultName := primaryOf s.faults.current

/-- The set holds a severe fault. -/
def hasSevere (set : Word) : Bool := FaultName.all.any (fun f => f.severe && inSet set f)

/-- Take the fault out of the reported set of a queued BEACON (R162). -/
def TxEntry.unreport (f : FaultName) (e : TxEntry) : TxEntry := { e with reported := e.reported &&& ~~~f.bit }

/-- A raising enters the current and accrued sets and leaves every reported set (R162). -/
def recordFault (f : FaultName) (s : State) : State :=
  (s.onFaults (fun u =>
    { u with
      current := u.current ||| f.bit
      accrued := u.accrued ||| f.bit
      reported := u.reported &&& ~~~f.bit })).onLine (fun l =>
    { l with general := l.general.map (TxEntry.unreport f), reserved := l.reserved.map (TxEntry.unreport f) })

/-! ## Pins driven (00_scope.md, signal abbreviations) -/

structure Outputs where
  tspDuty : Nat
  tspDir : Dir
  vspDuty : Nat
  vspDir : Dir
  tbk : Bool
  vbk : Bool
  fxl : Bool
  fxr : Bool
  frt : Bool
  pin : Bool
  pou : Bool
  shc : Bool
  sho : Bool
  seo : Bool
  lde : Bool
  deriving DecidableEq, Repr

/-- PIN and POU are on from the fire moment until the pulse ends (R80). -/
def pushing (p : Pusher) (f : Front) : Bool :=
  match f.action with
  | none => false
  | some a => a.pusher == p && !a.pulseEnded

/-- The outputs; with the power removed every output is off (R177). SHC, SHO and SEO follow the fire state (chapter 8),
FXL, FXR and FRT the fork action (R53), LDE the attempt (R187, R198). -/
def State.outputs (s : State) : Outputs :=
  let on := s.powered
  { tspDuty := if on then s.crane.travel.duty else 0
    tspDir := s.crane.travel.outDir
    vspDuty := if on then s.crane.lift.duty else 0
    vspDir := s.crane.lift.outDir
    tbk := on && s.crane.travel.brake
    vbk := on && s.crane.lift.brake
    fxl := on && s.crane.fork == some .extendL
    fxr := on && s.crane.fork == some .extendR
    frt := on && s.crane.fork == some .retract
    pin := on && pushing .intake s.front
    pou := on && pushing .dispatch s.front
    shc := on && (s.fire.state == .sealing || s.fire.state == .sealed || s.fire.state == .breached)
    sho := on && s.fire.state == .reopening
    seo := on && s.fire.state == .sealed
    lde := on && s.line.attempt.isSome }

end Sys2Proof.Machine
end

