-- ==== Sys2Proof/Machine/Operands.lean ====
section
/-! DEFINITION. The byte layouts of chapter 12: check value, configuration record, slot image, frames sent and frames
received; slot addresses in slot order (R2); the rate table (R188). -/

namespace Sys2Proof.Machine

/-! ## Bytes -/

/-- A value as one byte. -/
def byte (n : Nat) : Byte := BitVec.ofNat 8 n

/-- Two bytes, high byte first. -/
def be2 (n : Nat) : List Byte := [byte (n / 256), byte n]

/-- Three bytes, high byte first. -/
def be3 (n : Nat) : List Byte := [byte (n / 65536), byte (n / 256), byte n]

/-- The byte at a place; a place beyond the end reads 0. -/
def byteAt (bytes : List Byte) (i : Nat) : Nat := ((getAt i bytes).getD 0).toNat

/-- The two-byte field at a place. -/
def wordAt (bytes : List Byte) (i : Nat) : Nat := byteAt bytes i * 256 + byteAt bytes (i + 1)

/-- The three-byte field at a place. -/
def binAt (bytes : List Byte) (i : Nat) : Nat := wordAt bytes i * 256 + byteAt bytes (i + 2)

/-! ## Check value (R193): polynomial 0x1021, initial value 0xFFFF, no reflection, no final exclusive-or -/

def crcBit (c : Word) : Word := if c.msb then (c <<< 1) ^^^ 0x1021#16 else c <<< 1

def crcByte (c : Word) (b : Byte) : Word :=
  let c := c ^^^ (b.zeroExtend 16 <<< 8)
  crcBit (crcBit (crcBit (crcBit (crcBit (crcBit (crcBit (crcBit c)))))))

def crc16 (bytes : List Byte) : Word := bytes.foldl crcByte 0xFFFF#16

/-! ## The configuration record (12.3, R203) -/

/-- Four two-byte fields, steps 0, 1, 2, 3. -/
def perStepAt (b : List Byte) (i : Nat) : PerStep :=
  { s0 := wordAt b i, s1 := wordAt b (i + 2), s2 := wordAt b (i + 4), s3 := wordAt b (i + 6) }

/-- Three two-byte thresholds, steps 3, 2, 1; step 0 has threshold 0 (R45). -/
def thresholdsAt (b : List Byte) (i : Nat) : PerStep :=
  { s0 := 0, s1 := wordAt b (i + 4), s2 := wordAt b (i + 2), s3 := wordAt b i }

/-- The record's fields, those in seconds converted to ms. -/
def parseConfig (b : List Byte) : Config :=
  { address := byteAt b 0, groupMask := byte (byteAt b 1), zone := byteAt b 2, panel := byteAt b 3,
    maintenance := byteAt b 4, preferredRate := byteAt b 5, faces := byteAt b 6, bays := byteAt b 7,
    levels := byteAt b 8, clearBay := byteAt b 9, t0 := wordAt b 10, cb := wordAt b 12, v0 := wordAt b 14,
    cl := wordAt b 16, lo := wordAt b 18,
    travel := { home := wordAt b 20, duty := perStepAt b 24, threshold := thresholdsAt b 40,
                minPeriod := perStepAt b 52, stall := perStepAt b 68 },
    lift := { home := wordAt b 22, duty := perStepAt b 32, threshold := thresholdsAt b 46,
              minPeriod := perStepAt b 60, stall := perStepAt b 76 },
    window := byteAt b 84, carriers := byteAt b 85, tb := wordAt b 86, tl := wordAt b 88, rt := wordAt b 90,
    rl := wordAt b 92, fork := wordAt b 94, forkLimit := wordAt b 96, homeLimit := msec (wordAt b 98),
    pusherPulse := wordAt b 100, pusherLimit := wordAt b 102, fillWeight := wordAt b 104, bidWindow := wordAt b 106,
    storePatience := msec (wordAt b 108), fireDeadline := msec (byteAt b 110), shutterLimit := msec (byteAt b 111),
    finSettle := msec (byteAt b 112), beaconPeriod := msec (byteAt b 113) }

def within (lo hi n : Nat) : Bool := decide (lo ≤ n) && decide (n ≤ hi)

def PerStep.allWithin (p : PerStep) (lo hi : Nat) : Bool :=
  within lo hi p.s0 && within lo hi p.s1 && within lo hi p.s2 && within lo hi p.s3

/-- The per-axis ranges and relations of R179. -/
def axisValid (window : Nat) (a : AxisConfig) : Bool :=
  within 0 65535 a.home && PerStep.allWithin a.duty 0 1000 && PerStep.allWithin a.threshold 0 65535
    && PerStep.allWithin a.minPeriod 1 65535 && PerStep.allWithin a.stall 20 2000
    && decide (a.threshold.s2 < a.threshold.s3) && decide (a.threshold.s1 < a.threshold.s2)
    && decide (window < a.threshold.s1)
    && decide (1 ≤ a.duty.s0) && decide (a.duty.s0 < a.duty.s1) && decide (a.duty.s1 < a.duty.s2)
    && decide (a.duty.s2 < a.duty.s3)

/-- Every field in its range and every relation (R179). -/
def Config.valid (c : Config) : Bool :=
  within 1 30 c.address && within 0 7 c.zone && within 1 30 c.panel && within 1 30 c.maintenance
    && within 0 5 c.preferredRate && within 1 2 c.faces && within 1 64 c.bays && within 1 16 c.levels
    && within 0 65535 c.t0 && within 0 65535 c.v0 && within 50 1000 c.cb && within 50 2000 c.cl && within 10 500 c.lo
    && within 1 4 c.clearBay && within 1 50 c.window && within 1 500 c.tb && within 1 500 c.tl
    && within 0 2000 c.rt && within 0 2000 c.rl && within 1 3000 c.fork && within 500 10000 c.forkLimit
    && within 10000 300000 c.homeLimit && within 20 2000 c.pusherPulse && within 20 2000 c.pusherLimit
    && within 4 64 c.carriers && within 0 4000 c.fillWeight && within 50 2000 c.bidWindow
    && within 10000 600000 c.storePatience && within 10000 180000 c.fireDeadline && within 3000 60000 c.shutterLimit
    && within 1000 60000 c.finSettle && within 1000 60000 c.beaconPeriod
    && axisValid c.window c.travel && axisValid c.window c.lift
    && decide (c.faces * c.bays * c.levels ≤ 2048) && decide (c.t0 + c.bays * c.cb ≤ 65535)
    && decide (c.v0 + (c.levels - 1) * c.cl + c.lo ≤ 65535) && decide (c.clearBay ≤ c.bays)
    && decide (c.pusherPulse < c.pusherLimit) && decide (c.shutterLimit < c.fireDeadline)

/-- The record as read: its length, its check value over bytes 0..113, its ranges and relations (R178, R179, R203). -/
def readConfig (record : List Byte) : Option Config :=
  if record.length = 116 ∧ (crc16 (record.take 114)).toNat = wordAt record 114 ∧ Config.valid (parseConfig record) then
    some (parseConfig record)
  else none

/-! ## Slots in slot order (R2) -/

/-- The number of slots: faces × B × Lv (R1). -/
def Config.capacity (c : Config) : Nat := c.faces * c.bays * c.levels

def faceIndex : Face → Nat
  | .left => 0
  | .right => 1

/-- The address names a record (R2). -/
def namesRecord (c : Config) (a : SlotAddr) : Bool :=
  (a.face == .left || c.faces == 2) && within 1 c.bays a.bay && within 1 c.levels a.level

/-- The place of an address in slot order: face L before R, then bay, then level. -/
def slotIndex (c : Config) (a : SlotAddr) : Nat := (faceIndex a.face * c.bays + (a.bay - 1)) * c.levels + (a.level - 1)

/-- The address at a place in slot order. -/
def slotAt (c : Config) (i : Nat) : SlotAddr :=
  let col := i / c.levels
  { face := if col / c.bays = 0 then .left else .right, bay := col % c.bays + 1, level := i % c.levels + 1 }

/-! ## Slot state codes and the slot image (12.2, R204) -/

def slotStateCode : SlotState → Nat
  | .empty => 0x00
  | .held => 0x01
  | .outbound => 0x01
  | .inbound => 0x00
  | .blocked .corrupt => 0x10
  | .blocked .duplicate => 0x11
  | .blocked .missing => 0x12
  | .blocked .obstructed => 0x13

/-- The lasting state of a code; no other code is lasting. -/
def slotStateOf (code : Nat) : Option SlotState :=
  match code with
  | 0x00 => some .empty
  | 0x01 => some .held
  | 0x10 => some (.blocked .corrupt)
  | 0x11 => some (.blocked .duplicate)
  | 0x12 => some (.blocked .missing)
  | 0x13 => some (.blocked .obstructed)
  | _ => none

/-- The lasting image of a record (R1). -/
def SlotRec.lasting (r : SlotRec) : Image :=
  match r.state with
  | .outbound => { state := .held, bin := r.bin }
  | .inbound => { state := .empty, bin := 0 }
  | st => { state := st, bin := r.bin }

/-- The four bytes of an image record. -/
def Image.bytes (i : Image) : List Byte := byte (slotStateCode i.state) :: be3 i.bin

/-- The image record of slot-order place `i` stands at byte 128 + 4 × i. -/
def imageAddress (i : Nat) : Nat := 128 + 4 * i

/-- A state code with its bin fits: EMPTY with bin 0, HELD with a bin, BLOCKED with any (R17). -/
def imageFits (st : SlotState) (bin : Nat) : Bool :=
  match st with
  | .empty => bin == 0
  | .held => bin != 0
  | .blocked _ => true
  | .outbound | .inbound => false

/-- An image record as read: taken as it stands, or BLOCKED CORRUPT with its bin kept and write-owed (R17). -/
def readImage (bytes : List Byte) : SlotRec :=
  let bin := binAt bytes 1
  match slotStateOf (byteAt bytes 0) with
  | some st => if imageFits st bin then { state := st, bin := bin, owed := false }
               else { state := .blocked .corrupt, bin := bin, owed := true }
  | none => { state := .blocked .corrupt, bin := bin, owed := true }

/-! ## Codes of 12.2 -/

def faceCode : Face → Nat
  | .left => 1
  | .right => 2

def faceOf (code : Nat) : Option Face :=
  match code with
  | 1 => some .left
  | 2 => some .right
  | _ => none

def holdOutcomeCode : HoldOutcome → Nat
  | .queued => 1
  | .alreadyCalled => 2
  | .queueFull => 3
  | .returning => 4
  | .unavailable => 5

def holdOutcomeOf (code : Nat) : Option HoldOutcome :=
  match code with
  | 1 => some .queued
  | 2 => some .alreadyCalled
  | 3 => some .queueFull
  | 4 => some .returning
  | 5 => some .unavailable
  | _ => none

def failOutcomeCode : FailOutcome → Nat
  | .cancelled => 1
  | .notFound => 2
  | .fireStop => 3
  | .stationFault => 4
  | .duplicate => 5
  | .reOffered => 6

def slotResultCode : SlotResult → Nat
  | .accepted => 0
  | .refusedSource => 1
  | .refusedRange => 2
  | .refusedBusy => 3
  | .refusedDuplicate => 4

/-- The station state codes; HALTED sends no BEACON and has none (12.2, R176), 7 stands for it here. -/
def stationCode : StationState → Nat
  | .start => 0
  | .loading => 1
  | .acquiring => 2
  | .homing => 3
  | .run => 4
  | .shutdown => 5
  | .faulted => 6
  | .halted => 7

def fireCode : FireState → Nat
  | .calm => 0
  | .halting => 1
  | .clearing => 2
  | .sealing => 3
  | .sealed => 4
  | .breached => 5
  | .reopening => 6

def suspCode : Option SuspKind → Nat
  | none => 0
  | some .quiet => 1
  | some .laden => 2

def flagBit (b : Bool) (n : Nat) : Nat := if b then 2 ^ n else 0

/-! ## Frames sent (12.1, 12.2, R201) -/

/-- The kind code and payload of a frame. -/
def TxBody.payload : TxBody → Nat × List Byte
  | .hold bin tag req o est => (0x03, be3 bin ++ [byte tag, byte req, byte (holdOutcomeCode o)] ++ be2 est)
  | .offer c bin tag => (0x04, [byte c] ++ be3 bin ++ [byte tag])
  | .bid c tag off cost => (0x05, [byte c, byte tag, byte off] ++ be2 cost)
  | .claim c tag off cost => (0x06, [byte c, byte tag, byte off] ++ be2 cost)
  | .loaded c bin dest tag => (0x07, [byte c] ++ be3 bin ++ [byte dest, byte tag])
  | .emptied c bin => (0x08, [byte c] ++ be3 bin)
  | .stored bin tag a => (0x09, be3 bin ++ [byte tag, byte (faceCode a.face), byte a.bay, byte a.level])
  | .failed bin tag o => (0x0A, be3 bin ++ [byte tag, byte (failOutcomeCode o)])
  | .beacon st fire depth empty cap prim acc cur =>
      (0x0B, [byte (stationCode st), byte (fireCode fire), byte depth] ++ be2 empty ++ be2 cap
        ++ [byte ((prim.map FaultName.priority).getD 0)] ++ be2 acc.toNat ++ be2 cur.toNat)
  | .alarm zone => (0x0C, [byte (2 ^ zone), byte 1])
  | .parked zone forced breached kind => (0x0E, [byte zone, byte (flagBit forced 0 + flagBit breached 1), byte (suspCode kind)])
  | .statsReply cs => (0x10, cs.flatMap be2)
  | .slotack f b l r => (0x12, [byte f, byte b, byte l, byte (slotResultCode r)])

/-- The access class (R197). -/
def TxBody.cls : TxBody → Nat
  | .alarm _ | .parked _ _ _ _ => 0
  | .beacon _ _ _ _ _ _ _ _ | .statsReply _ => 2
  | _ => 1

/-- The ADDR character: the station addressed, or 0x3F for all (12.1). -/
def Dest.code : Dest → Nat
  | .all => 0x3F
  | .station a => a

/-- The characters of a frame from its lead to its CHECK; the mark bit stands on the address character alone (R188,
R193). -/
def frameChars (lead : Nat) (bytes : List Byte) : List LineChar :=
  let check := be2 (crc16 bytes).toNat
  match bytes ++ check with
  | [] => []
  | addr :: rest =>
      { data := byte lead, mark := false } :: { data := addr, mark := true } :: rest.map (fun b => { data := b, mark := false })

/-- A frame's bytes from ADDR through the payload. -/
def TxEntry.bytes (own : Nat) (e : TxEntry) : List Byte :=
  let (kind, payload) := e.body.payload
  [byte e.dest.code, byte own, byte kind, byte payload.length] ++ payload

/-- The characters the station drives for a queued frame: lead 0xAD for class 0, 0xB5 for the others. -/
def TxEntry.chars (own : Nat) (e : TxEntry) : List LineChar :=
  frameChars (if e.body.cls = 0 then 0xAD else 0xB5) (e.bytes own)

/-- The loop test frame: STATS with clear 0, own address as address and source (R190). -/
def loopTestChars (own : Nat) : List LineChar := frameChars 0xB5 [byte own, byte own, byte 0x0F, byte 1, byte 0]

/-- The access gap of a class in character times (R197). -/
def accessGap (own cls : Nat) : Nat :=
  match cls with
  | 0 => 2
  | 1 => 3 + own % 4
  | _ => 8 + own % 8

/-! ## Frames received (R195, R202) -/

/-- The address character names this station (R195). -/
def addressAccepted (c : Config) (addr : Nat) : Bool :=
  (within 0x01 0x1E addr && addr == c.address) || (within 0x20 0x27 addr && c.groupMask.getLsbD (addr - 0x20)) || addr == 0x3F

/-- The payload length of each kind that reaches a block. -/
def kindLength (kind : Nat) : Option Nat :=
  match kind with
  | 0x01 => some 4
  | 0x02 => some 4
  | 0x03 => some 8
  | 0x04 => some 5
  | 0x05 => some 5
  | 0x06 => some 5
  | 0x07 => some 6
  | 0x08 => some 4
  | 0x0C => some 2
  | 0x0D => some 1
  | 0x0F => some 1
  | 0x11 => some 7
  | _ => none

/-- The fields of a payload of its kind's length; `none` for a kind that reaches no block or an outcome that is no HOLD
outcome code. -/
def parseBody (kind : Nat) (p : List Byte) : Option RxBody :=
  match kind with
  | 0x01 => some (.fetch (binAt p 0) (byteAt p 3))
  | 0x02 => some (.cancel (binAt p 0) (byteAt p 3))
  | 0x03 => (holdOutcomeOf (byteAt p 5)).map (fun o => .hold (binAt p 0) (byteAt p 3) (byteAt p 4) o (wordAt p 6))
  | 0x04 => some (.offer (byteAt p 0) (binAt p 1) (byteAt p 4))
  | 0x05 => some (.bid (byteAt p 0) (byteAt p 1) (byteAt p 2) (wordAt p 3))
  | 0x06 => some (.claim (byteAt p 0) (byteAt p 1) (byteAt p 2) (wordAt p 3))
  | 0x07 => some (.loaded (byteAt p 0) (binAt p 1) (byteAt p 4) (byteAt p 5))
  | 0x08 => some (.emptied (byteAt p 0) (binAt p 1))
  | 0x0C => some (.alarm (byteAt p 0) (byteAt p 1))
  | 0x0D => some (.allclear (byteAt p 0))
  | 0x0F => some (.stats (byteAt p 0))
  | 0x11 => some (.slotset (byteAt p 0) (byteAt p 1) (byteAt p 2) (byteAt p 3) (binAt p 4))
  | _ => none

/-- The format tests on the fields (R202), with each field inside its bytes. -/
def bodyOk (n : Nat) : RxBody → Bool
  | .fetch bin tag => binFieldOk bin && byteOk tag
  | .cancel bin tag => binFieldOk bin && byteOk tag
  | .hold bin tag req _ est => binFieldOk bin && byteOk tag && addressOk req && wordOk est
  | .offer c bin tag => decide (c < n) && binOk bin && byteOk tag
  | .bid c tag off cost => decide (c < n) && byteOk tag && addressOk off && wordOk cost
  | .claim c tag off cost => decide (c < n) && byteOk tag && addressOk off && wordOk cost
  | .loaded c bin dest tag => decide (c < n) && binOk bin && addressOk dest && byteOk tag
  | .emptied c bin => decide (c < n) && binOk bin
  | .alarm mask cause => byteOk mask && byteOk cause
  | .allclear mask => byteOk mask
  | .stats clear => decide (clear ≤ 1)
  | .slotset f b l st bin => byteOk f && byteOk b && byteOk l && byteOk st && binFieldOk bin

/-- The frame passes the format tests of R202. -/
def frameOk (n : Nat) (f : RxFrame) : Bool := addressOk f.src && bodyOk n f.body

/-- A complete frame, ADDR through payload, as a frame that reaches a block; `none` when it is discarded (R195, R202). -/
def parseFrame (n : Nat) (bytes : List Byte) : Option RxFrame :=
  let kind := byteAt bytes 2
  if kindLength kind = some (byteAt bytes 3) then
    match parseBody kind (bytes.drop 4) with
    | none => none
    | some body =>
      let f : RxFrame := { src := byteAt bytes 1, body := body }
      if frameOk n f then some f else none
  else none

/-! ## The rate table (R188) -/

/-- A bit in samples of the 8 MHz clock: 16 × 2^index. -/
def bitSamples (index : Nat) : Nat := 16 * 2 ^ index

/-- The longest start bit accepted for an entry, in samples: 17 × 2^index. -/
def maxStart (index : Nat) : Nat := 17 * 2 ^ index

/-- The shortest: 2 × bit − max start. -/
def minStart (index : Nat) : Nat := 2 * bitSamples index - maxStart index

/-- Half a bit in samples, the middle of a bit: 8 × 2^index. -/
def nominalHalf (index : Nat) : Nat := 8 * 2 ^ index

/-- A bit in µs. -/
def bitUs (index : Nat) : Nat := 2 * 2 ^ index

/-- A character time, 11 bits, in µs (R187). -/
def charUs (index : Nat) : Nat := 11 * bitUs index

/-! ## The bits of a character (R188, R189, R191) -/

/-- The 11 bits in the order sent: the start bit 0, the data bits from the least significant, the mark bit, the stop bit 1. -/
def charBits (ch : LineChar) : List Bool := false :: ((List.range 8).map ch.data.getLsbD ++ [ch.mark, true])

/-- The line `n` samples after the falling edge of a character, the line at 1 after it. -/
def charLevel (ch : LineChar) (index n : Nat) : Bool := (getAt (n / bitSamples index) (charBits ch)).getD true

/-- The moment at which bit `k` from an edge is sampled, in samples after the edge. -/
def sampleAt (index k : Nat) : Nat := k * bitSamples index + nominalHalf index

/-- The byte whose bit `k` is the one given. -/
def byteOfBits (bit : Nat → Bool) : Byte :=
  (List.range 8).foldr (fun k d => d <<< 1 ||| (BitVec.ofBool (bit k)).setWidth 8) 0

/-- The data and mark bits sampled from bit `first` on, and the stop bit after them. -/
def sampledFrom (level : Nat → Bool) (index first : Nat) : LineChar × Bool :=
  let bit := fun k => level (sampleAt index (first + k))
  ({ data := byteOfBits bit, mark := bit 8 }, bit 9)

/-- The character read after a falling edge, and its stop bit; with the start bit sampled 1 it is a glitch (R189). A character
with stop bit 1 is what CHARACTER_RECEIVED carries, one with stop bit 0 is a FRAMING_ERROR. -/
def sampledChar (level : Nat → Bool) (index : Nat) : Option (LineChar × Bool) :=
  if level (sampleAt index 0) then none else some (sampledFrom level index 1)

/-- The character read after the rising edge of a hunt's start, and its stop bit (R191): what HUNT_START_TIMED carries. -/
def huntedChar (level : Nat → Bool) (index : Nat) : LineChar × Bool := sampledFrom level index 0

/-! ## Positions (R44) -/

def pickHeight (c : Config) (level : Nat) : Nat := c.v0 + (level - 1) * c.cl
def placeHeight (c : Config) (level : Nat) : Nat := pickHeight c level + c.lo
def bayCentre (c : Config) (bay : Nat) : Nat := c.t0 + bay * c.cb
def clearPosition (c : Config) : Nat := c.t0 + c.clearBay * c.cb - c.window

/-- The travel count of a position P. -/
def Place.travel (c : Config) : Place → Nat
  | .slot a => bayCentre c a.bay
  | .intake | .dispatch => c.t0

/-- The level of a position P; the front positions stand at level 1. -/
def Place.level : Place → Nat
  | .slot a => a.level
  | .intake | .dispatch => 1

/-- The fork action that reaches a position P. -/
def Place.extend : Place → ForkAction
  | .slot a => if a.face == .left then .extendL else .extendR
  | .intake => .extendL
  | .dispatch => .extendR

/-- The configured values of an axis. -/
def Config.axis (c : Config) : AxisName → AxisConfig
  | .travel => c.travel
  | .lift => c.lift

end Sys2Proof.Machine
end

