-- ==== Sys2Proof/Machine/Transmit.lean ====
section
/-! DEFINITION. The transmit queue as the blocks use it (R142, R175, R197, R198): queuing, replacement, withdrawal, the
head. -/

namespace Sys2Proof.Machine

/-- The entry is under the attempt in progress. -/
def LineUnit.underAttempt (l : LineUnit) (e : TxEntry) : Bool :=
  match l.attempt with
  | none => false
  | some a => a.order == e.order

/-- A new frame: attempt count 0, backoff 0 (R197). -/
def newEntry (order : Nat) (body : TxBody) (dest : Dest) (offer : Option Nat) : TxEntry :=
  { body := body, dest := dest, offer := offer, reported := 0, attempts := 0, backoff := 0, order := order, withdrawn := false }

/-- A free general entry is left: 8 in all (R197). -/
def LineUnit.room (l : LineUnit) : Bool := decide (l.general.length < 8)

/-- A frame dropped for want of an entry is counted TX_LOST (R197). -/
def countLost (s : State) : State := s.onCounters (fun c => { c with txLost := satInc c.txLost })

/-- Put an entry at the end of the general entries. -/
def appendGeneral (body : TxBody) (dest : Dest) (offer : Option Nat) (reported : Word) (s : State) : State :=
  s.onLine (fun l =>
    { l with
      general := l.general ++ [{ newEntry l.nextOrder body dest offer with reported := reported }]
      nextOrder := l.nextOrder + 1 })

/-- Queue a class 1 or class 2 frame: a free general entry, or dropped and counted; the giver is not told (R197). -/
def send (body : TxBody) (dest : Dest) (s : State) : State :=
  if s.line.room then appendGeneral body dest none 0 s else countLost s

/-- Queue a BID or CLAIM of the offer unit. -/
def sendOwned (body : TxBody) (serial : Nat) (s : State) : State :=
  if s.line.room then appendGeneral body .all (some serial) 0 s else countLost s

/-! ## Class 0 frames (R142) -/

def TxEntry.isAlarm (e : TxEntry) : Bool :=
  match e.body with
  | .alarm _ => true
  | _ => false

def TxEntry.isBeacon (e : TxEntry) : Bool :=
  match e.body with
  | .beacon _ _ _ _ _ _ _ _ => true
  | _ => false

/-- The entry waits: no attempt is in progress on it. -/
def LineUnit.waits (l : LineUnit) (e : TxEntry) : Bool := !l.underAttempt e

/-- The frame put in an entry's place, keeping its queuing order (log 34). -/
def TxEntry.replacedBy (body : TxBody) (reported : Word) (e : TxEntry) : TxEntry :=
  { newEntry e.order body .all none with reported := reported }

/-- A new ALARM replaces a waiting ALARM wherever it waits, or takes the reserved entry, or a general entry, or is
dropped and counted (R142). With two waiting, the one in the reserved entry is replaced, else the older in the general entries, and
the other left. DESIGN CHOICE (log 34). -/
def sendAlarm (zone : Nat) (s : State) : State :=
  let l := s.line
  if (l.reserved.map (fun e => e.isAlarm && l.waits e)).getD false then
    s.onLine (fun l => { l with reserved := l.reserved.map (TxEntry.replacedBy (.alarm zone) 0) })
  else if l.general.any (fun e => e.isAlarm && l.waits e) then
    s.onLine (fun l =>
      { l with general := updateFirst (fun e => e.isAlarm && l.waits e) (TxEntry.replacedBy (.alarm zone) 0) l.general })
  else if l.reserved.isNone then
    s.onLine (fun l =>
      { l with reserved := some (newEntry l.nextOrder (.alarm zone) .all none), nextOrder := l.nextOrder + 1 })
  else send (.alarm zone) .all s

/-- A new PARKED takes the reserved entry, displacing what waits there uncounted; with the frame there under an attempt
it takes a general entry or is dropped and counted (R142). What it displaces keeps no order: the PARKED is a new frame with a
new one. DESIGN CHOICE (log 34). -/
def sendParked (body : TxBody) (s : State) : State :=
  let l := s.line
  if (l.reserved.map l.waits).getD true then
    s.onLine (fun l => { l with reserved := some (newEntry l.nextOrder body .all none), nextOrder := l.nextOrder + 1 })
  else send body .all s

/-! ## BEACON (R175) -/

/-- A new BEACON replaces a waiting one in place, or takes a free general entry, or is dropped and counted. The reported
set becomes that of the BEACON queued, or is emptied with the drop. With two waiting, the older is replaced and the other
left. DESIGN CHOICE (log 34). -/
def sendBeacon (body : TxBody) (reported : Word) (s : State) : State :=
  let l := s.line
  if l.general.any (fun e => e.isBeacon && l.waits e) then
    (s.onLine (fun l =>
      { l with
        general := updateFirst (fun e => e.isBeacon && l.waits e) (TxEntry.replacedBy body reported) l.general })).onFaults
      (fun u => { u with reported := reported })
  else if l.room then
    (appendGeneral body .all none reported s).onFaults (fun u => { u with reported := reported })
  else (countLost s).onFaults (fun u => { u with reported := 0 })

/-! ## Withdrawal by the offer unit (R197) -/

/-- The frame is one of the offer entry's. -/
def TxEntry.ownedBy (serial : Nat) (e : TxEntry) : Bool := e.offer == some serial

/-- Remove the entry's BID or CLAIM when it waits; one under an attempt keeps its place and is marked, and the
withdrawal is held until the attempt ends. -/
def withdraw (serial : Nat) (s : State) : State :=
  s.onLine (fun l =>
    { l with
      general := (l.general.filter (fun e => !(e.ownedBy serial && l.waits e))).map
        (fun e => if e.ownedBy serial then { e with withdrawn := true } else e) })

/-- The offer entry's frame is under the attempt in progress. -/
def LineUnit.attempting (serial : Nat) (l : LineUnit) : Bool := l.general.any (fun e => e.ownedBy serial && l.underAttempt e)

/-! ## The head (R197) -/

/-- `e` goes before `f`: the lower class, then the older. -/
def TxEntry.before (e f : TxEntry) : Bool :=
  decide (e.body.cls < f.body.cls) || (e.body.cls == f.body.cls && decide (e.order < f.order))

/-- The entries waiting to be sent. -/
def LineUnit.entries (l : LineUnit) : List TxEntry := l.reserved.toList ++ l.general

/-- The entry of the lowest class and, within it, the oldest. -/
def LineUnit.head (l : LineUnit) : Option TxEntry :=
  l.entries.foldl (fun best e =>
    match best with
    | none => some e
    | some b => if e.before b then some e else some b) none

/-- Update the entry of a queuing order, wherever it stands. -/
def LineUnit.updateEntry (order : Nat) (f : TxEntry → TxEntry) (l : LineUnit) : LineUnit :=
  { l with
    general := l.general.map (fun e => if e.order = order then f e else e)
    reserved := l.reserved.map (fun e => if e.order = order then f e else e) }

/-- The entry of a queuing order. -/
def LineUnit.entry (order : Nat) (l : LineUnit) : Option TxEntry := l.entries.find? (fun e => e.order == order)

/-- Take the entry of a queuing order out of the queue. -/
def LineUnit.removeEntry (order : Nat) (l : LineUnit) : LineUnit :=
  { l with
    general := l.general.filter (fun e => e.order != order)
    reserved := l.reserved.filter (fun e => e.order != order) }

end Sys2Proof.Machine
end

