-- ==== Sys2Proof/Machine/Directory.lean ====
section
/-! DEFINITION. The slot directory (chapter 1): records, lookup, changes of slot state, the write list. -/

namespace Sys2Proof.Machine

/-! ## Records -/

/-- The record of a slot address, if it names one (R2) and the directory holds its records. -/
def State.slotRec (s : State) (a : SlotAddr) : Option SlotRec :=
  match s.cfg with
  | none => none
  | some c => if namesRecord c a then getAt (slotIndex c a) s.dir.records else none

/-- The directory holds its records. -/
def Directory.holds (d : Directory) : Bool := !d.records.isEmpty

/-- The capacity reported: 0 before the directory has been loaded (R3). -/
def Directory.capacity (d : Directory) : Nat := d.records.length

/-- The record names the bin in HELD, OUTBOUND or INBOUND. -/
def SlotRec.namesLive (bin : Nat) (r : SlotRec) : Bool :=
  r.bin == bin && (r.state == .held || r.state == .outbound || r.state == .inbound)

/-- The record names the bin in BLOCKED. -/
def SlotRec.namesBlocked (bin : Nat) (r : SlotRec) : Bool :=
  match r.state with
  | .blocked _ => r.bin == bin
  | _ => false

/-- The place in slot order of the first record that passes the test. -/
def findPlace (p : SlotRec → Bool) : List SlotRec → Option Nat
  | [] => none
  | r :: rs => if p r then some 0 else (findPlace p rs).map (· + 1)

/-- The place of the record a lookup by bin number returns: a HELD, OUTBOUND or INBOUND record that names it, otherwise
the first BLOCKED one; bin 0 is "not in directory" (R4). -/
def Directory.lookup (d : Directory) (bin : Nat) : Option Nat :=
  if bin = 0 then none
  else
    match findPlace (SlotRec.namesLive bin) d.records with
    | some i => some i
    | none => findPlace (SlotRec.namesBlocked bin) d.records

/-- Store a record, the EMPTY count following (R3). -/
def Directory.put (i : Nat) (r : SlotRec) (d : Directory) : Directory :=
  match getAt i d.records with
  | none => d
  | some old =>
    { d with
      records := setAt i r d.records
      emptyCount := d.emptyCount - (if old.state = .empty then 1 else 0) + (if r.state = .empty then 1 else 0) }

/-! ## The write list (R10 to R12) -/

/-- The oldest entry is under write. -/
def Directory.underWrite (d : Directory) : Bool := d.port == .writing || d.port == .checking

/-- The pending entries: all but the one under write. -/
def Directory.pendingWrites (d : Directory) : List WriteEntry := if d.underWrite then d.writeList.drop 1 else d.writeList

/-- The entry under write, if any, as a list. -/
def Directory.writing (d : Directory) : List WriteEntry := if d.underWrite then d.writeList.take 1 else []

/-- A pending entry for the slot is on the list. -/
def Directory.hasPending (d : Directory) (a : SlotAddr) : Bool := d.pendingWrites.any (fun e => e.slot == a)

/-- A change to the slot can be entered: a replacement needs no free place (R11). -/
def Directory.writeRoom (d : Directory) (a : SlotAddr) : Bool := d.hasPending a || decide (d.writeList.length < 4)

/-- Replace the slot's pending entry in place, or append a new one (R11). -/
def Directory.addWrite (a : SlotAddr) (img : Image) (job : Option Nat) (acks : Nat) (d : Directory) : Directory :=
  if d.hasPending a then
    { d with
      writeList := d.writing ++ updateFirst (fun e => e.slot == a)
        (fun e => { e with image := img, job := job <|> e.job, acks := e.acks + acks }) d.pendingWrites }
  else { d with writeList := d.writeList ++ [{ slot := a, image := img, job := job, acks := acks }] }

/-- Enter the write of the record at place `i`, clearing its write-owed mark; with the list full the mark is set
(R12). -/
def Directory.oweWrite (a : SlotAddr) (i : Nat) (r : SlotRec) (job : Option Nat) (d : Directory) : Directory :=
  if d.writeRoom a then
    (Directory.put i { r with owed := false } d).addWrite a r.lasting job 0
  else Directory.put i { r with owed := true } d

/-- Change a record; the new lasting image is put on the write list when it differs from the old (R6). -/
def Directory.change (a : SlotAddr) (i : Nat) (st : SlotState) (bin : Nat) (job : Option Nat) (d : Directory) : Directory :=
  match getAt i d.records with
  | none => d
  | some old =>
    let r : SlotRec := { old with state := st, bin := bin }
    if r.lasting = old.lasting then Directory.put i r d else Directory.oweWrite a i r job d

/-- A requested change: applied only when the record is in the state its row of R6 names; refused otherwise. -/
def requestChange (a : SlotAddr) (src : SlotState → Bool) (st : SlotState) (bin : SlotRec → Nat) (job : Option Nat)
    (s : State) : State :=
  match s.cfg, s.slotRec a with
  | some c, some r => if src r.state then s.onDir (Directory.change a (slotIndex c a) st (bin r) job) else s
  | _, _ => s

/-- The record of an address is in a state. -/
def State.slotIs (s : State) (a : SlotAddr) (st : SlotState) : Bool := (s.slotRec a).map SlotRec.state == some st

/-- Reserve a HELD slot for a FETCH: HELD to OUTBOUND, no write (R6). -/
def reserveOutbound (a : SlotAddr) (s : State) : State := requestChange a (· == .held) .outbound (·.bin) none s

/-- Reserve an EMPTY slot for a STORE's bin: EMPTY to INBOUND, no write (R6). -/
def reserveInbound (a : SlotAddr) (bin : Nat) (s : State) : State := requestChange a (· == .empty) .inbound (fun _ => bin) none s

/-- The release a fail request or a yield asks for: a FETCH's OUTBOUND slot back to HELD, a STORE's INBOUND slot back to
EMPTY, while the record still stands for the job's bin; any other is left as it stands (R36). -/
def releaseSlot (kind : JobKind) (bin : Nat) (a : SlotAddr) (s : State) : State :=
  if (s.slotRec a).map SlotRec.bin == some bin then
    match kind with
    | .fetch => requestChange a (· == .outbound) .held (·.bin) none s
    | .store => requestChange a (· == .inbound) .empty (fun _ => 0) none s
  else s

/-! ## Freed places and the beginning of a write (R12, R13) -/

/-- The place of the first record in slot order whose write-owed mark is set. -/
def Directory.firstOwed (d : Directory) : Option Nat := findPlace (·.owed) d.records

/-- The freed place goes to the first owed record: its current lasting image becomes an entry (R12). -/
def fillOwed (s : State) : Option State :=
  match s.cfg, s.dir.firstOwed with
  | some c, some i =>
    if s.dir.writeList.length < 4 then
      match getAt i s.dir.records with
      | some r => some (s.onDir (Directory.oweWrite (slotAt c i) i r none))
      | none => none
    else none
  | _, _ => none

/-- With the port IDLE and the list not empty the oldest entry goes under write (R13); the bytes it overwrites are no
longer known (log 9). HALTED begins none (R184). -/
def beginWrite (s : State) : Option State :=
  match s.cfg, s.dir.writeList with
  | some c, e :: _ =>
    if s.dir.port = .idle then
      some ((s.onDir (fun d => { d with port := .writing, portSince := s.clock, attempt := 1 })).setMemory
        (Memory.dropAll (imageAddress (slotIndex c e.slot)) 4 s.memory))
    else none
  | _, _ => none

end Sys2Proof.Machine
end

