-- ==== Sys2Proof/Machine/Estimate.lean ====
section
/-! DEFINITION. The estimate unit (chapter 5) and the nearest-empty choice (R5). It holds no state: every figure is made
from the state at the moment it is asked for (R102). -/

namespace Sys2Proof.Machine

/-- A position (bay, level); the front is (0, 1). -/
structure Pos where
  bay : Nat
  level : Nat
  deriving DecidableEq, Repr

def Pos.front : Pos := { bay := 0, level := 1 }

def SlotAddr.pos (a : SlotAddr) : Pos := { bay := a.bay, level := a.level }

/-! ## Legs and the nearest-empty choice -/

/-- The leg time L(p→q) (R90). -/
def leg (c : Config) (p q : Pos) : Nat :=
  let db := dist p.bay q.bay
  let dl := dist p.level q.level
  max (if db = 0 then 0 else c.rt + db * c.tb) (if dl = 0 then 0 else c.rl + dl * c.tl)

/-- `a` is chosen before `b`: less leg time from the front, then the lower level, the lower bay, face L (R5). -/
def nearer (c : Config) (a b : SlotAddr) : Bool :=
  let la := leg c Pos.front a.pos
  let lb := leg c Pos.front b.pos
  decide (la < lb) || (la == lb &&
    (decide (a.level < b.level) || (a.level == b.level &&
      (decide (a.bay < b.bay) || (a.bay == b.bay && decide (faceIndex a.face < faceIndex b.face))))))

/-- The choice over the records from place `i` on, given the best before them. -/
def nearestFrom (c : Config) (i : Nat) (best : Option SlotAddr) : List SlotRec → Option SlotAddr
  | [] => best
  | r :: rs =>
    let best :=
      if r.state = .empty then
        match best with
        | none => some (slotAt c i)
        | some b => if nearer c (slotAt c i) b then some (slotAt c i) else some b
      else best
    nearestFrom c (i + 1) best rs

/-- The nearest-empty choice (R5). -/
def State.nearestEmpty (s : State) : Option SlotAddr :=
  match s.cfg with
  | none => none
  | some c => nearestFrom c 0 none s.dir.records

/-! ## The crane's present position (R89) -/

/-- The candidate whose place is nearest `count`, the lower candidate of two equally near; candidates ascending. -/
def nearestOf (count : Nat) (place : Nat → Nat) (best : Nat) : List Nat → Nat
  | [] => best
  | n :: ns => nearestOf count place (if dist count (place n) < dist count (place best) then n else best) ns

/-- Bay 0 is the front, at T0. -/
def presentBay (c : Config) (count : Nat) : Nat := nearestOf count (bayCentre c) 0 ((List.range c.bays).map (· + 1))

/-- The distance from a lift count to the nearer of a level's two heights. -/
def heightDist (c : Config) (count level : Nat) : Nat :=
  min (dist count (pickHeight c level)) (dist count (placeHeight c level))

/-- The level with a height nearest the lift count; the lower level between equally near ones. -/
def nearestLevel (c : Config) (count best : Nat) : List Nat → Nat
  | [] => best
  | n :: ns => nearestLevel c count (if heightDist c count n < heightDist c count best then n else best) ns

def presentLevel (c : Config) (count : Nat) : Nat := nearestLevel c count 1 ((List.range c.levels).map (· + 1))

/-- Both axes' homed flags are set. -/
def Crane.bothHomed (c : Crane) : Bool := c.travel.homed && c.lift.homed

/-- The present position; unknown while either homed flag is clear. -/
def State.position (s : State) : Option Pos :=
  match s.cfg with
  | none => none
  | some c =>
    if s.crane.bothHomed then
      some { bay := presentBay c s.crane.travel.count, level := presentLevel c s.crane.lift.count }
    else none

/-! ## Service times and start estimates (R91, R92) -/

/-- A position a job's crane work ends at: the front for a FETCH and a re-offer, the slot for a STORE (R93). -/
def Job.endPos (j : Job) : Pos :=
  match j.kind, j.slot with
  | .store, some a => a.pos
  | _, _ => Pos.front

/-- The service time S of a job from a position (R91); it ends at `Job.endPos`. -/
def service (c : Config) (p : Pos) (j : Job) : Nat :=
  match j.kind, j.slot with
  | .fetch, some a => satAdd (satAdd (satAdd (leg c p a.pos) c.fork) (leg c a.pos Pos.front)) c.fork
  | .store, some a => satAdd (satAdd (satAdd (leg c p Pos.front) c.fork) (leg c Pos.front a.pos)) c.fork
  | _, none => satAdd (leg c p Pos.front) c.fork

/-- The start estimate at selection: the full service time, 65,535 when the position is unknown (R92). -/
def State.serviceEstimate (s : State) (j : Job) : Nat :=
  match s.cfg, s.position with
  | some c, some p => service c p j
  | _, _ => 65535

/-- The start estimate of a job whose bin is on the fork: one leg and one place cycle (R92). -/
def State.placeEstimate (s : State) (j : Job) : Nat :=
  match s.cfg, s.position with
  | some c, some p => satAdd (leg c p j.endPos) c.fork
  | _, _ => 65535

/-! ## Backlog (R93, R94) -/

/-- The job is active: in TO_PICK through COMMITTING (R28). -/
def Job.active (j : Job) : Bool :=
  match j.stage with
  | .toPick | .picking | .toPlace | .placing | .committing => true
  | .awaitCarrier | .waiting | .dispatching => false

/-- The remaining time of the active job (R93). -/
def State.remaining (s : State) (j : Job) : Nat :=
  match j.start with
  | none => 65535
  | some e => e.estimate - min (roundHalfEven (s.msNow - e.moment) 10) 65535

/-- One job of the walk: the active job's remaining time, a job in WAITING or AWAIT_CARRIER its service time, a FETCH in
DISPATCHING nothing (R94). -/
def State.walkOne (s : State) (c : Config) (wq : Nat × Pos) (j : Job) : Nat × Pos :=
  match j.stage with
  | .dispatching => wq
  | .waiting | .awaitCarrier => (satAdd wq.1 (service c wq.2 j), j.endPos)
  | .toPick | .picking | .toPlace | .placing | .committing => (satAdd wq.1 (s.remaining j), j.endPos)

/-- The walk over a stretch of the queue from the crane's present position. -/
def State.walk (s : State) (jobs : List Job) : Nat × Pos :=
  match s.cfg, s.position with
  | some c, some p => jobs.foldl (s.walkOne c) (0, p)
  | _, _ => (65535, Pos.front)

/-- The backlog W and the tail position q (R94); the active job stands first. -/
def State.backlog (s : State) : Nat × Pos := s.walk (s.queue.jobs.filter Job.active ++ s.queue.jobs.filter (fun j => !j.active))

/-- The queue as far as a job, that job included. -/
def upTo (n : Nat) : List Job → List Job
  | [] => []
  | j :: js => if j.num = n then [j] else j :: upTo n js

/-! ## Loop terms (R95, R96) -/

/-- Pcs while the loop is known: index valid, loop-stopped flag clear, P present. -/
def Front.pcs (f : Front) : Option Nat :=
  match f.period with
  | none => none
  | some p => if f.indexValid && !f.stopped then some (roundHalfEven p 10) else none

/-- The least m from `m` on for which the carrier m steps after the index is viewed FREE; N when there is none. -/
def Front.freeSteps (f : Front) (n m : Nat) : Nat → Nat
  | 0 => n
  | fuel + 1 => if getAt ((f.index + m) % n) f.view = some .free then m else f.freeSteps n (m + 1) fuel

/-- The loop term C = k × Pcs (R97). -/
def State.loopTerm (s : State) : Nat :=
  match s.cfg, s.front.pcs with
  | some c, some pcs => satMul (s.front.freeSteps c.carriers 1 c.carriers) pcs
  | _, _ => 65535

/-- The steps to a named carrier: (c − index) mod N. -/
def Front.stepsTo (f : Front) (n carrier : Nat) : Nat := (carrier + n - f.index) % n

/-! ## The HOLD estimate and the current estimate (R97, R98) -/

/-- E of a new FETCH, made from the state just before the job is added (R97). -/
def State.holdEstimate (s : State) (j : Job) : Nat :=
  match s.cfg with
  | none => 65535
  | some c =>
    let wq := s.backlog
    satAdd (satAdd wq.1 (service c wq.2 j)) s.loopTerm

/-- The current estimate of a FETCH in the queue (R98). -/
def State.currentEstimate (s : State) (j : Job) : Nat :=
  let chain :=
    match s.position with
    | none => 65535
    | some _ =>
      match j.stage with
      | .dispatching => 0
      | .waiting | .awaitCarrier =>
          (s.walk (s.queue.jobs.filter Job.active ++ upTo j.num (s.queue.jobs.filter (fun k => !k.active)))).1
      | .toPick | .picking | .toPlace | .placing | .committing => s.remaining j
  satAdd chain s.loopTerm

/-! ## The bid cost (R99, R100) -/

/-- The fill penalty (R99). -/
def State.fillPenalty (s : State) (c : Config) : Nat :=
  let cap := s.dir.capacity
  if cap = 0 then 0 else roundHalfEven (c.fillWeight * (cap - s.dir.emptyCount)) cap

/-- The bid cost K, or "no cost" (R100). -/
def State.bidCost (s : State) (carrier : Nat) : Option Nat :=
  match s.cfg, s.front.pcs, s.nearestEmpty with
  | some c, some pcs, some best =>
    let wq := s.backlog
    let u := satMul (s.front.stepsTo c.carriers carrier) pcs
    some (satAdd (satAdd (satAdd (satAdd (max (satAdd wq.1 (leg c wq.2 Pos.front)) u) c.fork) c.fork)
      (leg c Pos.front best.pos)) (s.fillPenalty c))
  | _, _, _ => none

/-- The pair order (R101): the lower cost, then the lower address. -/
def BidPair.better (a b : BidPair) : Bool := decide (a.cost < b.cost) || (a.cost == b.cost && decide (a.address < b.address))

/-- A foreign pair better than the own pair, an equal one included (R101). -/
def BidPair.beatsOwn (foreign own : BidPair) : Bool := foreign.better own || foreign == own

end Sys2Proof.Machine
end

