-- ==== Sys2Proof/Machine/Stops.lean ====
section
/-! DEFINITION. Stops of the crane: an axis stopped at once or brought down, the stop report, the controlled stop, the
emergency stop and the move end (R52, R64 to R66). -/

namespace Sys2Proof.Machine

/-! ## One axis -/

/-- The output goes to zero at once, the brake is applied, the move ends without completing (R52, R65). -/
def Axis.halt (clock : Nat) (a : Axis) : Axis :=
  { a with
    move := .none
    target := none
    dir := none
    stall := none
    duty := 0
    nextDuty := none
    brake := true
    quietSince := if a.duty = 0 then a.quietSince else clock }

/-- The step becomes 0 and the move ends; a driven output goes to zero at the start of the next duty period, a SETTLING
move ends at once (R64, R66). -/
def Axis.rampDown (clock : Nat) (a : Axis) : Axis :=
  if a.duty = 0 then a.halt clock
  else { a with move := .none, target := none, dir := none, step := 0, nextDuty := some 0 }

/-- The axis is driven or has a move in progress. -/
def Axis.inMotion (a : Axis) : Bool := a.move != .none || a.duty != 0

def Crane.onBoth (f : Axis → Axis) (c : Crane) : Crane := { c with travel := f c.travel, lift := f c.lift }

/-- Both speed outputs are zero. -/
def Crane.still (c : Crane) : Bool := c.travel.duty == 0 && c.lift.duty == 0

def haltBoth (s : State) : State := s.onCrane (Crane.onBoth (Axis.halt s.clock))
def rampBoth (s : State) : State := s.onCrane (Crane.onBoth (Axis.rampDown s.clock))

/-! ## Naming a step -/

/-- A step as a stop report names it. -/
def CraneStep.naming (st : CraneStep) (done : Bool) : NamedStep := { job := st.job, kind := st.kind, done := done }

/-- The step a stop ordered now names: the step in progress, or a held step, whose result has been reported, or the step
kept named (R52, R66). -/
def Crane.toName (c : Crane) : Option NamedStep :=
  match c.step with
  | some st => some (st.naming false)
  | none =>
    match c.mode, c.held with
    | .writeWait, some h => some (h.step.naming true)
    | _, _ => c.named

/-- The stop report at this moment (R66). -/
def State.stopReport (s : State) (step : Option NamedStep) (homing : Bool) : StopReport :=
  { fbn := s.sensors.fbn, travel := s.crane.travel.count, lift := s.crane.lift.count, step := step, homing := homing }

/-- A stop answered by the report already made, which names no new step (R66, R159). -/
def Crane.answerAgain (c : Crane) : Crane :=
  { c with report := c.report.map (fun r => { r with step := none, homing := false }) }

/-! ## The emergency stop (R65) -/

def emergencyStop (s : State) : State :=
  if s.crane.mode = .stopped then s.onCrane Crane.answerAgain
  else
    let report := s.stopReport s.crane.toName (s.crane.mode == .homing || s.crane.homingStopped)
    (haltBoth s).onCrane (fun c =>
      { c with
        mode := .stopped
        fork := none
        forkTimer := none
        step := none
        named := none
        report := some report
        homing := none
        homeTimer := none
        clearing := none
        homingStopped := false })

/-! ## The controlled stop (R64) -/

/-- A cycle runs to its end; a place cycle waiting at its dispatch check and a move step do not. -/
def CraneStep.runsOn (st : CraneStep) : Bool :=
  match st.phase with
  | .extend | .liftMove | .retract | .retractObstructed => true
  | .begin | .openingRetract | .moving | .waitEmpty => false

/-- The order of a controlled stop. It is carried out once both outputs are zero and no fork action or cycle is running. -/
def controlledStop (s : State) : State :=
  match s.crane.mode with
  | .stopped => s.onCrane Crane.answerAgain
  | .stopping => s
  | .idle => s.onCrane (fun c => { c with mode := .stopping, homingStopped := false })
  | .writeWait => s.onCrane (fun c => { c with mode := .stopping, named := c.toName, homingStopped := false })
  | .homing =>
    (rampBoth s).onCrane (fun c =>
      { c with mode := .stopping, named := none, homing := none, homeTimer := none, homingStopped := true })
  | .clearing => (rampBoth s).onCrane (fun c => { c with mode := .stopping, named := none, clearing := none, homingStopped := false })
  | .step =>
    match s.crane.step with
    | none => (rampBoth s).onCrane (fun c => { c with mode := .stopping, homingStopped := false })
    | some st =>
      if st.runsOn then
        s.onCrane (fun c => { c with mode := .stopping, named := some (st.naming false), homingStopped := false })
      else
        (rampBoth s).onCrane (fun c =>
          { c with mode := .stopping, step := none, named := some (st.naming false), homingStopped := false })

/-- The controlled stop is carried out, both outputs being zero: STOPPED, with the report. -/
def stopCarriedOut (s : State) : State :=
  let report := s.stopReport s.crane.named s.crane.homingStopped
  (haltBoth s).onCrane (fun c =>
    { c with
      mode := .stopped
      named := none
      report := some report
      homing := none
      homeTimer := none
      clearing := none
      homingStopped := false })

/-! ## The move end (R66) -/

/-- The move step ends without a result; an opening retract runs to its sensor. In STOPPING and STOPPED nothing changes. -/
def moveEnd (s : State) : State :=
  if s.crane.mode = .step then (rampBoth s).onCrane (fun c => { c with step := none, named := none }) else s

/-! ## Motion ended by a fault (R52) -/

/-- The motion that raised a fault ends: homing ends, a step is kept named, the clearing move ends in STOPPED. -/
def endMotion (s : State) : State :=
  s.onCrane (fun c =>
    match c.mode with
    | .homing => { c with mode := .idle, homing := none, homeTimer := none }
    | .clearing =>
      { c.onBoth (Axis.halt s.clock) with mode := .stopped, clearing := none, fork := none, forkTimer := none }
    | .step =>
      match c.step with
      | some st => { c with mode := .idle, step := none, named := some (st.naming false) }
      | none => c
    | .stopping =>
      match c.step with
      | some st => { c with step := none, named := some (st.naming false) }
      | none => c
    | .idle | .writeWait | .stopped => c)

end Sys2Proof.Machine
end

