-- ==== Sys2Proof/Machine/Jobs.lean ====
section
/-! DEFINITION. The job queue (chapter 2): records, places, stages, fail requests and yields, requests held during a pull
(R83), and the closing of offer entries (R132). -/

namespace Sys2Proof.Machine

/-! ## Finding and changing jobs -/

def State.job (s : State) (n : Nat) : Option Job := s.queue.jobs.find? (fun j => j.num == n)

/-- The active job (R28). -/
def State.activeJob (s : State) : Option Job := s.queue.jobs.find? Job.active

/-- The job that names the bin. -/
def State.jobOfBin (s : State) (bin : Nat) : Option Job := s.queue.jobs.find? (fun j => j.bin == bin)

def onJobs (f : List Job → List Job) (s : State) : State := s.onQueue (fun q => { q with jobs := f q.jobs })

/-- Change the job of a number. -/
def updateJob (n : Nat) (f : Job → Job) (s : State) : State := onJobs (List.map (fun j => if j.num = n then f j else j)) s

def Job.setStage (st : Stage) (j : Job) : Job := { j with stage := st }

def removeJob (n : Nat) (s : State) : State := onJobs (List.filter (fun j => j.num != n)) s

/-! ## Numbers and places (R24, R30, R31, R38) -/

/-- The counter's value, advanced past the numbers still in the queue. -/
def freeNumber (jobs : List Job) (n : Nat) : Nat → Nat
  | 0 => n
  | fuel + 1 => if jobs.any (fun j => j.num == n) then freeNumber jobs ((n + 1) % 256) fuel else n

/-- The number a job created now takes. -/
def JobQueue.nextNumber (q : JobQueue) : Nat := freeNumber q.jobs q.counter 8

def Job.isFetch (j : Job) : Bool := j.kind == .fetch
def Job.isStore (j : Job) : Bool := j.kind == .store
def Job.waitingFetch (j : Job) : Bool := j.isFetch && j.stage == .waiting

/-- A new STORE stands last; a new FETCH behind the last waiting FETCH, else before the first STORE neither active nor
promoted, else last. -/
def placeJob (j : Job) (jobs : List Job) : List Job :=
  match j.kind with
  | .store => jobs ++ [j]
  | .fetch =>
    match insertAfterLast Job.waitingFetch j jobs with
    | some js => js
    | none =>
      match insertBefore (fun k => k.isStore && !k.active && !k.promoted) j jobs with
      | some js => js
      | none => jobs ++ [j]

/-- Add a job and advance the counter. -/
def addJob (j : Job) (s : State) : State :=
  s.onQueue (fun q => { q with jobs := placeJob j q.jobs, counter := (j.num + 1) % 256 })

/-- The jobs ahead of a job. -/
def aheadOf (n : Nat) (jobs : List Job) : List Job := jobs.takeWhile (fun j => j.num != n)

/-- Promotion: the mark, and the place before the first waiting FETCH that stands ahead (R31). -/
def promoteIn (j : Job) (jobs : List Job) : List Job :=
  let k : Job := { j with promoted := true }
  if (aheadOf j.num jobs).any Job.waitingFetch then
    (insertBefore Job.waitingFetch k (jobs.filter (fun x => x.num != j.num))).getD jobs
  else jobs.map (fun x => if x.num = j.num then k else x)

/-- A job stopped under a QUIET record goes back to WAITING before the first waiting job, else first (R38). -/
def requeue (j : Job) (jobs : List Job) : List Job :=
  let k : Job := { j with stage := .waiting, start := none }
  let rest := jobs.filter (fun x => x.num != j.num)
  (insertBefore (fun x => x.stage == .waiting) k rest).getD (k :: rest)

/-! ## Adding (R29) -/

/-- Service is open: RUN and CALM. -/
def State.inService (s : State) : Bool := s.station == .run && s.fire.state == .calm

/-- A STORE in the queue names the carrier. -/
def State.storeOnCarrier (s : State) (carrier : Nat) : Bool :=
  s.queue.jobs.any (fun j => j.isStore && j.carrier == some carrier)

/-- Fewer than 8 jobs. -/
def State.queueRoom (s : State) : Bool := decide (s.queue.jobs.length < 8)

/-- The tests of R29 for a STORE; those for a FETCH are taken in the order of R104 and R105. -/
def State.mayAddStore (s : State) (bin carrier : Nat) : Bool :=
  s.inService && s.queueRoom && (s.jobOfBin bin).isNone && !s.storeOnCarrier carrier

/-! ## Offer entries of jobs and of shutdowns (R132) -/

/-- Close the entry of a claimed job: it leaves the table, a CLAIM that waits stays in the queue (R129). -/
def closeClaimed (n : Nat) (s : State) : State :=
  s.onOffers (fun t => { t with entries := t.entries.filter (fun e => e.job != some n) })

def TxEntry.isBidOrClaim (e : TxEntry) : Bool :=
  match e.body with
  | .bid _ _ _ _ => true
  | .claim _ _ _ _ => true
  | _ => false

/-- Every open entry closes; BIDs and CLAIMs that wait leave the transmit queue, one under an attempt is marked (R132,
R197). -/
def closeOffers (s : State) : State :=
  (s.onLine (fun l =>
    { l with
      general := (l.general.filter (fun e => !(e.isBidOrClaim && l.waits e))).map
        (fun e => if e.isBidOrClaim then { e with withdrawn := true } else e) })).onOffers (fun t => { t with entries := [] })

/-! ## Leaving the queue (R35 to R37) -/

/-- The job's bin waits with a verified pick for a place on the write list (R12; log 20). -/
def Crane.heldPick (c : Crane) (n : Nat) : Bool :=
  match c.held with
  | some h => h.step.job == n && h.result == .pickVerified
  | none => false

/-- The slot release a failing or yielding job asks for. With its verified pick held the bin is off the slot, and the slot
is EMPTY as the job leaves (R7, R35; log 20). -/
def releaseFor (j : Job) (s : State) : State :=
  match j.slot with
  | none => s
  | some a =>
    if s.crane.heldPick j.num then requestChange a (· == .outbound) .empty (fun _ => 0) none s
    else releaseSlot j.kind j.bin a s

/-- A fail request carried out (R36): release, FAILED to the requester, removal, and the end of a move in TO_PICK. -/
def failNow (n : Nat) (o : FailOutcome) (s : State) : State :=
  match s.job n with
  | none => s
  | some j =>
    let s := closeClaimed n (removeJob n (send (.failed j.bin j.tag o) (.station j.requester) (releaseFor j s)))
    if j.stage = .toPick then moveEnd s else s

/-- A yield carried out: a STORE in AWAIT_CARRIER is removed with no notice (R37). -/
def yieldNow (n : Nat) (s : State) : State :=
  match s.job n with
  | none => s
  | some j => if j.stage = .awaitCarrier then closeClaimed n (removeJob n (releaseFor j s)) else s

/-- The intake puller has fired for the STORE and its action has not ended. -/
def Front.pulling (f : Front) (n : Nat) : Bool :=
  match f.action with
  | some a =>
    match a.owner with
    | .store job _ => job == n
    | .dispatch _ => false
  | none => false

def hold (r : HeldRequest) (s : State) : State := s.onQueue (fun q => { q with held := q.held ++ [r] })

/-- The job is a STORE whose bin is still on its carrier, or will never leave it. -/
def State.awaitsCarrier (s : State) (n : Nat) : Bool := (s.job n).map Job.stage == some .awaitCarrier

/-- A fail request from a fire or a fault: held from the firing of the STORE's puller until its action ends (R83). -/
def requestFail (n : Nat) (o : FailOutcome) (s : State) : State :=
  if s.front.pulling n then hold { job := n, kind := .fail o, pulled := !s.awaitsCarrier n } s else failNow n o s

/-- A yield request: held during the STORE's pull (R83, R131). -/
def requestYield (n : Nat) (s : State) : State :=
  if s.front.pulling n then hold { job := n, kind := .yield, pulled := !s.awaitsCarrier n } s else yieldNow n s

/-- A held request against the job as it stands (R83): a STORE whose bin the pull has brought in since the request is kept;
one that was in already when the request came is failed as given (log 42). -/
def carryOut (s : State) (r : HeldRequest) : State :=
  match r.kind with
  | .yield => yieldNow r.job s
  | .fail o => if r.pulled || s.awaitsCarrier r.job then failNow r.job o s else s

/-- A fail request that the job's stop has decided waits for its action's end. -/
def JobQueue.failing (q : JobQueue) (n : Nat) : Bool := q.held.any (fun r => r.job == n && r.pulled && r.kind != .yield)

/-- The action has ended: the held requests are carried out in the order taken. -/
def releaseHeld (s : State) : State := s.queue.held.foldl carryOut (s.onQueue (fun q => { q with held := [] }))

/-- Fail the waiting work in queue order: FETCHes in WAITING, STOREs in AWAIT_CARRIER (R146, R165). -/
def failWaiting (o : FailOutcome) (s : State) : State :=
  s.queue.jobs.foldl (fun t j =>
    if j.waitingFetch || (j.isStore && j.stage == .awaitCarrier) then requestFail j.num o t else t) s

/-! ## Estimates kept in the job (R92) -/

/-- Set the start estimate and start moment. -/
def startJob (n estimate : Nat) (s : State) : State :=
  updateJob n (fun j => { j with start := some { estimate := estimate, moment := s.msNow } }) s

/-- The new start estimate of a job whose bin is on the fork. -/
def restartJob (n : Nat) (s : State) : State :=
  match s.job n with
  | none => s
  | some j => startJob n (s.placeEstimate j) s

/-! ## A new slot after one that cannot be used (R9, R20, R27, R171) -/

/-- The nearest-empty choice: the slot chosen is reserved and becomes the job's; with none the STORE becomes a re-offer,
its stage as it stands, so that one whose bin is not yet on the fork is picked at the intake first. DESIGN CHOICE (log 22):
R27 speaks of a bin on the fork alone. -/
def chooseSlot (n : Nat) (s : State) : State :=
  match s.job n with
  | none => s
  | some j =>
    match s.nearestEmpty with
    | some a => updateJob n (fun k => { k with slot := some a }) (reserveInbound a j.bin s)
    | none => updateJob n (fun k => { k with slot := none, reoffer := true }) s

/-! ## The dispatch owner (R70) -/

/-- The bin is taken as lost from the position: a FETCH fails NOT_FOUND, a re-offer is dropped. -/
def dispatchLost (s : State) : State :=
  let t := s.onFront (fun f => { f with owner := .none })
  match s.front.owner with
  | .fetch n => failNow n .notFound t
  | .reOffer _ _ | .none => t

/-- Set the owner at a verified place; a position that reads empty then has lost its bin. -/
def setOwner (o : DispatchOwner) (s : State) : State :=
  let t := s.onFront (fun f => { f with owner := o })
  if s.front.dispatch then t else dispatchLost t

end Sys2Proof.Machine
end

