-- ==== Sys2Proof/Machine/Faults.lean ====
section
/-! DEFINITION. The fault unit (chapter 9): disposal of the active job and the suspension record, entering FAULTED,
SEALING and HALTED, and what a raising does beyond the sets (R162). -/

namespace Sys2Proof.Machine

/-! ## The active job at a stop (R145, R166, R168, R169) -/

/-- The outcome of a job failed by a stop of this cause. -/
def Cause.outcome : Cause → FailOutcome
  | .fire => .fireStop
  | .fault => .stationFault

def setRecord (r : Option Suspension) (s : State) : State := s.onFaults (fun u => { u with suspension := r })

/-- The record formed from the report and the job as it stands (R168). -/
def formRecord (kind : SuspKind) (j : Job) (st : NamedStep) (cause : Cause) (r : StopReport) (s : State) : State :=
  setRecord (some { kind := kind, job := j.num, stage := j.stage, done := st.done, cause := cause, travel := r.travel,
                    lift := r.lift, primary := s.primary, step := st.kind, homed := false }) s

/-- The pick of the job is verified: its bin is on the fork, its result reported (R145). -/
def State.pickVerified (s : State) (j : Job) : Bool :=
  j.stage == .toPlace || j.stage == .placing || s.crane.heldPick j.num

/-- A verified place of the job waits for a place on the write list. -/
def Crane.heldPlace (c : Crane) (n : Nat) : Bool :=
  match c.held with
  | some h => h.step.job == n && h.result == .placeVerified
  | none => false

/-- The job holds the crane: active and not yet in COMMITTING. -/
def Job.onCrane (j : Job) : Bool := j.active && j.stage != .committing

/-- The disposal table on a report that names a step, a job it fails taking outcome `o`; a report that names none leaves the
record and the job as they stand (R169; log 29). -/
def disposeActive (cause : Cause) (o : FailOutcome) (s : State) : State :=
  match s.crane.report with
  | none => s
  | some r =>
    match r.step with
    | none => s
    | some st =>
      match s.job st.job with
      | none => if st.kind = .place ∧ st.done then setRecord none s else s
      | some j =>
        if !j.onCrane then (if st.kind = .place ∧ st.done then setRecord none s else s)
        else if s.crane.heldPlace j.num then setRecord none s
        else if s.pickVerified j then
          if r.fbn then formRecord .laden j st cause r s else setRecord none (requestFail j.num o s)
        else
          match j.kind with
          | .fetch => setRecord none (requestFail j.num o s)
          | .store => formRecord .quiet j st cause r s

/-! ## Sealing (R151) -/

/-- The shutter limit in force, 20 s by default (R139, R180). -/
def State.shutterLimit (s : State) : Nat :=
  match s.cfg with
  | some c => c.shutterLimit
  | none => 20000

/-- Entering SEALING; a shutter already reported closed is met at once by `progress`. -/
def enterSealing (s : State) : State :=
  s.onFire (fun f =>
    { f with state := .sealing, parked := false, deadline := none, shutter := some (s.inMs s.shutterLimit) })

/-- The crane's part of a shutdown ended by force: emergency stop, re-home mark, disposal by the first report, SEALING
(R149, R150). The fire unit fails what R145 and R146 fail, FIRE_STOP, and the record takes the cause given. -/
def forceSeal (cause : Cause) (forced : Bool) (s : State) : State :=
  let t := (emergencyStop s).onFire (fun f => { f with forced := f.forced || forced, rehome := true })
  let t :=
    if t.fire.recordMark then t
    else failWaiting .fireStop (disposeActive cause .fireStop (t.onFire (fun f => { f with recordMark := true })))
  enterSealing t

/-! ## Entering FAULTED (R164) -/

/-- Both homed flags clear. -/
def clearHomed (s : State) : State := s.onCrane (Crane.onBoth (fun a => { a with homed := false }))

def enterFaulted (s : State) : State :=
  closeOffers (failWaiting .stationFault (disposeActive .fault .stationFault (clearHomed (emergencyStop (s.setStation .faulted)))))

/-! ## Raising (R162) -/

/-- Raise a fault: the sets, and beyond them what its class and the station state ask for. -/
def raise (f : FaultName) (s : State) : State :=
  let t := recordFault f s
  if f.severe then
    match t.station with
    | .run | .homing => enterFaulted t
    | .shutdown =>
      match t.fire.state with
      | .halting | .clearing => forceSeal .fault false t
      | .calm | .sealing | .sealed | .breached | .reopening => t
    | .start | .loading | .acquiring | .faulted | .halted => t
  else t

/-! ## Motion faults (R52) -/

/-- ENCODER, LIMIT, STALL, OVERSPEED or POSITION raised by an axis: its own motion ends, none when it has none. -/
def axisFault (f : FaultName) (a : AxisName) (s : State) : State :=
  raise f (if (s.axis a).inMotion then endMotion (s.onAxis a (Axis.halt s.clock)) else s)

/-- DRIVE ends the moves of both axes. -/
def driveFault (s : State) : State := raise .drive (endMotion (haltBoth s))

/-- FORK_TIMEOUT and FORK_JAM turn the fork outputs off and end the step. -/
def forkFault (f : FaultName) (s : State) : State :=
  raise f (endMotion (s.onCrane (fun c => { c with fork := none, forkTimer := none })))

/-! ## Entering HALTED (R184) -/

/-- The emergency stop, the defaults of R180, and the fire unit's SEALING out of HALTING or CLEARING. The
rate index stays as it was; nothing reads it (log 44). -/
def enterHalted (s : State) : State :=
  let t := emergencyStop (s.setStation .halted)
  let t := t.onLine (fun l =>
    { l with
      mode := .off
      rx := .awaitLead
      rxBuf := []
      rxDone := none
      rxQueue := []
      general := []
      reserved := none
      attempt := none })
  let t := t.onFaults (fun u => { u with beacon := none })
  let t := t.onDir (fun d => { d with port := .idle, staging := [] })
  let t := t.onFront (fun f => { f with action := none })
  let t := (t.onQueue (fun q => { q with held := [] })).onOffers (fun o => { o with entries := [] })
  match t.fire.state with
  | .halting | .clearing => enterSealing t
  | .calm | .sealing | .sealed | .breached | .reopening => t

end Sys2Proof.Machine
end

