-- ==== Sys2Proof/Machine/Sequencer.lean ====
section
/-! DEFINITION. The crane's moves, fork actions, steps and cycles (R45, R53, R54, R58 to R62), homing (R55 to R57), the
clearing move (R67). -/

namespace Sys2Proof.Machine

/-! ## Interlocks (R54) -/

/-- Both speed outputs are held at zero. -/
def State.outputsHeld (s : State) : Bool :=
  s.fire.state == .sealing || s.fire.state == .sealed || s.fire.state == .breached || s.fire.state == .reopening
    || s.station == .faulted || s.station == .halted

/-- The axis's output is held at zero: travel also while the fork is not centred. -/
def State.axisHeld (s : State) (a : AxisName) : Bool :=
  s.outputsHeld || (a == .travel && !s.sensors.fkc)

/-! ## Moves (R45) -/

/-- What a move request comes to. -/
inductive MoveTry where
  | refused
  | drive
  | taken (s : State)
  deriving DecidableEq, Repr

/-- The highest step not above the cap whose threshold is at most `d`. -/
def startStep (c : AxisConfig) (cap d : Nat) : Nat :=
  if 3 ≤ cap ∧ c.threshold.s3 ≤ d then 3
  else if 2 ≤ cap ∧ c.threshold.s2 ≤ d then 2
  else if 1 ≤ cap ∧ c.threshold.s1 ≤ d then 1
  else 0

/-- The output driven at a step from zero, the brake released, the stall one-shot started (R45, R49; log 12). -/
def Axis.drive (c : AxisConfig) (clock : Nat) (dir : Dir) (step : Nat) (a : Axis) : Axis :=
  { a with
    step := step
    duty := stepValue c.duty step
    outDir := dir
    nextDuty := none
    brake := false
    stall := some (clock + msec (stepValue c.stall step)) }

/-- The direction from a count toward a target. -/
def toward (count target : Nat) : Dir := if count ≤ target then .up else .down

/-- A move taken that must drive. -/
def Axis.startMove (c : AxisConfig) (clock target cap : Nat) (a : Axis) : Axis :=
  let dir := toward a.count target
  { a.drive c clock dir (startStep c cap (dist target a.count)) with
    move := .driving
    target := some target
    dir := some dir
    cap := cap
    reversals := 0
    firstMark := true }

/-- A move request for an axis. -/
def requestMove (a : AxisName) (target cap : Nat) (s : State) : MoveTry :=
  match s.cfg with
  | none => .refused
  | some c =>
    let ax := s.axis a
    if ax.move != .none || !ax.homed || s.axisHeld a then .refused
    else
      let cap := if a = .lift ∧ !s.sensors.fkc then 0 else cap
      if dist target ax.count ≤ c.window then .taken (s.onAxis a (fun x => { x with reversals := 0 }))
      else if !s.sensors.drdy then .drive
      else .taken (s.onAxis a (Axis.startMove (Config.axis c a) s.clock target cap))

/-- A travel and a lift move begun together. -/
def requestBoth (travel lift cap : Nat) (s : State) : MoveTry :=
  match requestMove .travel travel cap s with
  | .taken t => requestMove .lift lift cap t
  | .drive =>
    match requestMove .lift lift cap s with
    | .refused => .refused
    | .drive | .taken _ => .drive
  | .refused => .refused

/-! ## Fork actions (R53) -/

/-- The sensor that completes an action. -/
def forkSensor (x : Sensors) : ForkAction → Bool
  | .extendL => x.fkl
  | .extendR => x.fkr
  | .retract => x.fkc

/-- Begin an action; one whose sensor is already active completes at once without asserting its output. -/
def beginFork (f : ForkAction) (s : State) : State :=
  match s.cfg with
  | none => s
  | some c =>
    if forkSensor s.sensors f then s
    else s.onCrane (fun x => { x with fork := some f, forkTimer := some (s.inMs c.forkLimit) })

/-- The action's sensor has become active. -/
def forkDone (s : State) : State := s.onCrane (fun c => { c with fork := none, forkTimer := none })

/-! ## Giving a step (R58, R59) -/

/-- The crane unit takes a step only in IDLE, or in STOPPED with no held step beside it. A held step kept through homing until the
mode is IDLE keeps it from a step there too, until it has finished. DESIGN CHOICE (log 46). -/
def Crane.free (c : Crane) : Bool := (c.mode == .idle || c.mode == .stopped) && c.step.isNone && c.held.isNone

def setPhase (p : StepPhase) (s : State) : State :=
  s.onCrane (fun c => { c with step := c.step.map (fun st => { st with phase := p }) })

def takeStep (job : Nat) (kind : StepKind) (place : Place) (phase : StepPhase) (s : State) : State :=
  s.onCrane (fun c =>
    { c with mode := .step, named := none, step := some { job := job, kind := kind, place := place, phase := phase } })

/-- The travel and lift counts of a move step (R44, R59). -/
def moveTargets (c : Config) (kind : StepKind) (p : Place) : Nat × Nat :=
  match kind with
  | .movePick | .pick => (p.travel c, pickHeight c p.level)
  | .movePlace | .place => (p.travel c, placeHeight c p.level)

/-- Give a step. A move step that finds the fork out retracts before its moves begin; a refused step changes nothing. -/
def giveStep (job : Nat) (kind : StepKind) (place : Place) (s : State) : MoveTry :=
  match s.cfg with
  | none => .refused
  | some c =>
    if !s.crane.free || s.outputsHeld || !s.crane.bothHomed then .refused
    else
      match kind with
      | .pick | .place => .taken (takeStep job kind place .begin s)
      | .movePick | .movePlace =>
        if !s.sensors.fkc then .taken (beginFork .retract (takeStep job kind place .openingRetract s))
        else
          let (t, l) := moveTargets c kind place
          requestBoth t l 3 (takeStep job kind place .moving s)

/-- The position a job's move to place height goes to: the dispatch position for a FETCH and a re-offer (R25 to R27). -/
def Job.placeAt (j : Job) : Place :=
  match j.kind, j.slot with
  | .store, some a => .slot a
  | _, _ => .dispatch

/-- The position a job's bin is picked at. -/
def Job.pickAt (j : Job) : Place :=
  match j.kind, j.slot with
  | .fetch, some a => .slot a
  | _, _ => .intake

/-! ## Results (R9, R60 to R62) -/

/-- The slot of a position. -/
def Place.slotOf : Place → Option SlotAddr
  | .slot a => some a
  | .intake | .dispatch => none

/-- The record of a slot a result changes, in the state its row names (R6). -/
def resultChange (r : StepResult) (a : SlotAddr) (job : Nat) (s : State) : State :=
  match r with
  | .pickVerified => requestChange a (· == .outbound) .empty (fun _ => 0) (some job) s
  | .noBin => requestChange a (· == .outbound) (.blocked .missing) (·.bin) (some job) s
  | .placeVerified => requestChange a (· == .inbound) .held (·.bin) (some job) s
  | .obstructed => requestChange a (· == .inbound) (.blocked .obstructed) (fun _ => 0) (some job) s

/-- After an obstructed place or a jammed slot: a new slot or a re-offer, TO_PLACE, a new start estimate (R62, R92). -/
def carryOn (n : Nat) (s : State) : State := restartJob n (updateJob n (Job.setStage .toPlace) (chooseSlot n s))

/-- The job's share of a result (R25 to R27). -/
def resultJob (r : StepResult) (place : Place) (n : Nat) (s : State) : State :=
  match s.job n with
  | none => s
  | some j =>
    match r with
    | .pickVerified => updateJob n (fun k => { k with stage := .toPlace, pulledSince := none }) s
    | .noBin => failNow n .notFound s
    | .obstructed => carryOn n s
    | .placeVerified =>
      match place with
      | .slot _ => updateJob n (Job.setStage .committing) s
      | .intake | .dispatch =>
        match j.kind with
        | .fetch => setOwner (.fetch n) (updateJob n (Job.setStage .dispatching) s)
        | .store => setOwner (.reOffer j.bin j.tag) (failNow n .reOffered s)

/-- A result applied: the directory's change first, then the job's. With the job gone from the queue its slot has been
released, and the result changes nothing (R7; log 20). -/
def applyResult (r : StepResult) (st : CraneStep) (s : State) : State :=
  match s.job st.job with
  | none => s
  | some _ =>
    resultJob r st.place st.job
      (match st.place.slotOf with
       | some a => resultChange r a st.job s
       | none => s)

/-- The cycle ends with a result: the crane is IDLE, or still STOPPING; the action named for a stop is finished. -/
def cycleEnds (s : State) : State :=
  s.onCrane (fun c =>
    { c with
      mode := if c.mode = .step then .idle else c.mode
      step := none
      named := c.named.map (fun n => { n with done := true }) })

/-- Deliver a result; a slot's result that meets a full write list is held (R12). -/
def deliver (r : StepResult) (s : State) : State :=
  match s.crane.step with
  | none => s
  | some st =>
    let waits := (st.place.slotOf.map (fun a => !s.dir.writeRoom a)).getD false
    if waits then
      (cycleEnds s).onCrane (fun c =>
        { c with mode := if c.mode = .idle then .writeWait else c.mode, held := some { step := st, result := r } })
    else applyResult r st (cycleEnds s)

/-- A freed place goes to the held step, which finishes without motion (R12). A reload takes it itself (R19). -/
def finishHeld (s : State) : Option State :=
  match s.cfg, s.crane.held with
  | some _, some h =>
    if s.dir.holds && (h.step.place.slotOf.map s.dir.writeRoom).getD true then
      some (applyResult h.result h.step
        (s.onCrane (fun c => { c with held := none, mode := if c.mode = .writeWait then .idle else c.mode })))
    else none
  | _, _ => none

/-! ## The step in progress (R59 to R62) -/

/-- The outcome of a move asked for inside a step: taken, DRIVE raised, or, refused, the step ended (log 31). -/
def insideStep (m : MoveTry) (onTaken : State → State) (s : State) : State :=
  match m with
  | .taken t => onTaken t
  | .drive => driveFault s
  | .refused => endMotion s

/-- Begin the extend of a cycle: the job enters PICKING or PLACING (R25, R26). FPR already reporting at a slot stops the
extend as it begins (R62). -/
def beginExtend (st : CraneStep) (s : State) : State :=
  let stage : Stage := match st.kind with
    | .movePick | .pick => .picking
    | .movePlace | .place => .placing
  let t := updateJob st.job (Job.setStage stage) s
  if st.kind = .place ∧ st.place.slotOf.isSome ∧ s.sensors.fpr then beginFork .retract (setPhase .retractObstructed t)
  else beginFork st.place.extend (setPhase .extend t)

/-- The lift by Lo, the carry ending as a lower begins (R60, R61, R63). -/
def beginLift (c : Config) (st : CraneStep) (s : State) : State :=
  let target := match st.kind with
    | .movePick | .pick => placeHeight c st.place.level
    | .movePlace | .place => pickHeight c st.place.level
  insideStep (requestMove .lift target 0 s) (fun t =>
    setPhase .liftMove (if st.kind = .place then t.onCrane (fun x => { x with carry := false }) else t)) s

/-- The verify with the fork centred (R60, R61). -/
def verify (st : CraneStep) (s : State) : State :=
  match st.kind with
  | .movePick | .pick =>
    if s.sensors.fbn then deliver .pickVerified (s.onCrane (fun c => { c with carry := true })) else deliver .noBin s
  | .movePlace | .place => if s.sensors.fbn then forkFault .forkJam s else deliver .placeVerified s

/-- Both moves of a move step have completed. -/
def Crane.movesDone (c : Crane) : Bool := c.travel.move == .none && c.lift.move == .none && c.still

/-- What the step in progress does next without a further event; `none` while it waits for one. -/
def stepProgress (s : State) : Option State :=
  match s.cfg, s.crane.step with
  | some c, some st =>
    match st.phase with
    | .openingRetract =>
      if s.crane.fork.isNone then
        let (t, l) := moveTargets c st.kind st.place
        some (insideStep (requestBoth t l 3 (setPhase .moving s)) id s)
      else none
    | .moving =>
      if s.crane.movesDone then
        let kind : StepKind := match st.kind with
          | .movePick | .pick => .pick
          | .movePlace | .place => .place
        some (takeStep st.job kind st.place .begin s)
      else none
    | .begin =>
      match st.kind with
      | .movePick | .pick =>
        if s.sensors.fbn then some (forkFault .forkJam s)
        else if st.place = .intake ∧ !s.front.intake then some (deliver .noBin s)
        else some (beginExtend st s)
      | .movePlace | .place =>
        if st.place = .dispatch ∧ s.front.dispatch then some (setPhase .waitEmpty s) else some (beginExtend st s)
    | .waitEmpty => if s.front.dispatch then none else some (beginExtend st s)
    | .extend => if s.crane.fork.isNone then some (beginLift c st s) else none
    | .liftMove =>
      if s.crane.lift.move == .none && s.crane.lift.duty == 0 then some (beginFork .retract (setPhase .retract s)) else none
    | .retract => if s.crane.fork.isNone then some (verify st s) else none
    | .retractObstructed => if s.crane.fork.isNone then some (deliver .obstructed s) else none
  | _, _ => none

/-! ## A drive held at zero (R54) -/

/-- A drive from zero on an axis whose output R54 holds at zero: the output stays off and the motion ends as R52 lays down;
the fork found off centre raises FORK_JAM (log 43). -/
def driveHeld (a : AxisName) (s : State) : State :=
  let t := s.onAxis a (Axis.halt s.clock)
  if s.outputsHeld then endMotion t else forkFault .forkJam t

/-! ## Homing (R55 to R57) -/

/-- The home switch of an axis. -/
def homeSwitch (x : Sensors) : AxisName → Bool
  | .travel => x.ths
  | .lift => x.vhs

/-- Any end limit switch is active. -/
def anyLimit (x : Sensors) : Bool := x.tll || x.tlh || x.vll || x.vlh

def setHoming (p : HomingPhase) (s : State) : State := s.onCrane (fun c => { c with homing := some p })

/-- A homing drive begun at creep (R56), unless R54 holds the output; with DRDY inactive it raises DRIVE (R51). -/
def homingDrive (a : AxisName) (dir : Dir) (p : HomingPhase) (s : State) : State :=
  match s.cfg with
  | none => s
  | some c =>
    if s.axisHeld a then driveHeld a s
    else if !s.sensors.drdy then driveFault s
    else setHoming p (s.onAxis a (fun x =>
      { x.drive (Config.axis c a) s.clock dir 0 with move := .none, target := none, dir := none, firstMark := true }))

/-- The homing of an axis begins: away from a switch already active, else toward it. -/
def beginAxisHoming (a : AxisName) (s : State) : State :=
  if homeSwitch s.sensors a then homingDrive a .up (.away a) s else homingDrive a .down (.toward a) s

/-- Homing starts: the flags cleared, the home timer started, the two checks, then lift homing (R55). -/
def startHoming (s : State) : State :=
  match s.cfg with
  | none => s
  | some c =>
    let t := (clearHomed (haltBoth s)).onCrane (fun x =>
      { x with
        mode := .homing
        step := none
        homing := none
        named := none
        homingStopped := false
        homeTimer := some (s.inMs c.homeLimit) })
    let limit := anyLimit s.sensors
    let out := !s.sensors.fkc
    if limit || out then
      let t := endMotion t
      let t := if limit then raise .limit t else t
      if out then raise .home t else t
    else beginAxisHoming .lift t

/-- The moves to the front, begun together (R57). A refused one ends homing with the crane IDLE, no fault raised and the
station left in HOMING. DESIGN CHOICE (log 31). -/
def homingFront (s : State) : State :=
  match s.cfg with
  | none => s
  | some c => insideStep (requestBoth c.t0 c.v0 3 (setHoming .front s)) id s

/-- Station control enters HOMING, or FAULTED with a severe fault in the current set (R162, R183). -/
def enterHoming (s : State) : State :=
  if hasSevere s.faults.current then enterFaulted s else startHoming (s.setStation .homing)

/-! ## The clearing move (R67, R147, R148) -/

/-- "Cannot clear": the re-home mark and SEALING. -/
def cannotClear (s : State) : State := enterSealing (s.onFire (fun f => { f with rehome := true }))

/-- The travel move of the clearing move; a refusal is answered "cannot clear". -/
def clearTravel (c : Config) (s : State) : State :=
  match requestMove .travel (bayCentre c c.clearBay) 1 s with
  | .taken t => t.onCrane (fun x => { x with mode := .clearing, clearing := some .moving })
  | .drive => driveFault (s.onCrane (fun x => { x with mode := .clearing }))
  | .refused => cannotClear ((haltBoth s).onCrane (fun x => { x with mode := .stopped, clearing := none }))

/-- The fire unit gives the clearing move; a retract comes first when the fork is out. -/
def giveClearing (c : Config) (s : State) : State :=
  let t := s.onFire (fun f => { f with state := .clearing })
  if t.outputsHeld then cannotClear t
  else if !t.sensors.fkc then
    beginFork .retract (t.onCrane (fun x => { x with mode := .clearing, clearing := some .retract }))
  else clearTravel c t

/-- The fire unit asks whether the crane is clear of the shutter plane and leaves HALTING by the answer (R147). -/
def askClear (s : State) : State :=
  match s.cfg with
  | none => cannotClear s
  | some c =>
    if !s.crane.travel.homed then cannotClear s
    else if clearPosition c ≤ s.crane.travel.count then enterSealing s
    else giveClearing c s

/-- The clearing move has completed: the record takes the counts, SEALING follows (R148). -/
def clearingDone (s : State) : State :=
  let t := (haltBoth s).onCrane (fun c => { c with mode := .stopped, clearing := none })
  enterSealing (t.onFaults (fun u =>
    { u with
      suspension := u.suspension.map (fun r => { r with travel := t.crane.travel.count, lift := t.crane.lift.count }) }))

/-- What the clearing move does next without a further event. -/
def clearProgress (s : State) : Option State :=
  match s.cfg, s.crane.clearing with
  | some c, some .retract => if s.crane.fork.isNone then some (clearTravel c s) else none
  | some _, some .moving =>
    if s.crane.travel.move == .none && s.crane.travel.duty == 0 then some (clearingDone s) else none
  | _, _ => none

/-! ## The first stop report of a shutdown (R145 to R147) -/

def firstStop (s : State) : State :=
  let homing := (s.crane.report.map StopReport.homing).getD false
  let t := s.onFire (fun f => { f with recordMark := true, rehome := f.rehome || homing })
  askClear (if t.station = .halted then t else failWaiting .fireStop (disposeActive .fire .fireStop t))

end Sys2Proof.Machine
end

