-- ==== Sys2Proof/Machine/Resume.lean ====
section
/-! DEFINITION. Loading and re-application (R16 to R20), entering RUN and serving the suspension record (R156, R157, R171,
R172), selection (R32 to R34), the fire unit's own transitions (R151 to R155), and `settle`, which carries a command's
consequences to their end (log 11). -/

namespace Sys2Proof.Machine

/-! ## Loading (R16, R18, R19) -/

/-- The load begins from the first record: the directory holds none until it ends. -/
def beginLoading (s : State) : State :=
  (s.setStation .loading).onDir (fun d =>
    { d with
      records := []
      emptyCount := 0
      writeList := []
      port := .reading
      portSince := s.clock
      attempt := 0
      staging := [] })

/-- The acquisition begins with the loop test (R182, R158); one already begun runs on (log 23). -/
def beginAcquire (s : State) : State :=
  s.onLine (fun l => if l.mode = .off then { l with mode := .loopTest } else l)

/-- A HELD record. -/
def SlotRec.isHeld (r : SlotRec) : Bool := r.state == .held

/-- The bin stands in two or more HELD records. -/
def heldTwice (bin : Nat) (rs : List SlotRec) : Bool := decide (2 ≤ (rs.filter (fun r => r.isHeld && r.bin == bin)).length)

/-- Every HELD record of a bin held twice becomes BLOCKED DUPLICATE, write-owed (R17). -/
def markDuplicates (rs : List SlotRec) : List SlotRec :=
  rs.map (fun r => if r.isHeld && heldTwice r.bin rs then { r with state := .blocked .duplicate, owed := true } else r)

/-- A record the check made CORRUPT: a lasting CORRUPT record is taken as it stands and owes no write. -/
def SlotRec.madeCorrupt (r : SlotRec) : Bool := r.state == .blocked .corrupt && r.owed

def countEmpty (rs : List SlotRec) : Nat := (rs.filter (fun r => r.state == .empty)).length

/-- The records are checked and held; DIRECTORY is raised once for CORRUPT and once for DUPLICATE (R16, R17). -/
def holdRecords (s : State) : State :=
  let rs := s.dir.staging
  let marked := markDuplicates rs
  let t := s.onDir (fun d =>
    { d with records := marked, emptyCount := countEmpty marked, port := .idle, staging := [] })
  let t := if rs.any SlotRec.madeCorrupt then raise .directory t else t
  if marked.any (fun r => r.state == .blocked .duplicate && r.owed) then raise .directory t else t

/-! ## Re-application (R19, R20; log 22) -/

/-- Set a record whatever it holds, the write entered in any case. -/
def Directory.force (a : SlotAddr) (i : Nat) (st : SlotState) (bin : Nat) (job : Option Nat) (d : Directory) : Directory :=
  match getAt i d.records with
  | none => d
  | some old => Directory.oweWrite a i { old with state := st, bin := bin } job d

def forceSlot (a : SlotAddr) (st : SlotState) (bin : Nat) (job : Option Nat) (s : State) : State :=
  match s.cfg with
  | some c => if namesRecord c a then s.onDir (Directory.force a (slotIndex c a) st bin job) else s
  | none => s

/-- The slot state and bin a held result gives, whatever the reloaded record holds (R19). -/
def resultState (r : StepResult) (bin : Nat) : SlotState × Nat :=
  match r with
  | .pickVerified => (.empty, 0)
  | .noBin => (.blocked .missing, bin)
  | .placeVerified => (.held, bin)
  | .obstructed => (.blocked .obstructed, 0)

/-- The held step's job first. -/
def reapplyHeld (s : State) : State :=
  match s.crane.held with
  | none => s
  | some h =>
    let t := s.onCrane (fun c => { c with held := none, mode := if c.mode = .writeWait then .idle else c.mode })
    match h.step.place.slotOf with
    | none => resultJob h.result h.step.place h.step.job t
    | some a =>
      let bin := match s.job h.step.job with
        | some j => j.bin
        | none => ((s.slotRec a).map (·.bin)).getD 0
      let (st, b) := resultState h.result bin
      resultJob h.result h.step.place h.step.job (forceSlot a st b (some h.step.job) t)

/-- The FETCH's bin is off its slot. -/
def Job.offSlot (j : Job) : Bool := j.stage == .toPlace || j.stage == .placing || j.stage == .dispatching

/-- One kept job against the reloaded records. A STORE left with no slot becomes a re-offer in whatever stage it stands
(log 22). -/
def reapplyJob (s : State) (j : Job) : State :=
  match j.slot with
  | none => s
  | some a =>
    match j.kind with
    | .fetch => if j.offSlot then
        (match s.cfg with
         | some c => if namesRecord c a then s.onDir (Directory.change a (slotIndex c a) .empty 0 none) else s
         | none => s) else s
    | .store =>
      if j.stage = .committing then forceSlot a .held j.bin (some j.num) s
      else if s.slotIs a .empty then reserveInbound a j.bin s
      else chooseSlot j.num s

/-- The places of HELD records of other slots that name the bin. -/
def duplicatesOf (own : Option Nat) (bin : Nat) (i : Nat) : List SlotRec → List Nat
  | [] => []
  | r :: rs => if r.isHeld && r.bin == bin && own != some i then i :: duplicatesOf own bin (i + 1) rs
               else duplicatesOf own bin (i + 1) rs

/-- Block the duplicates of one kept job's bin; whether any was blocked is carried along. -/
def blockDuplicates (c : Config) (sa : State × Bool) (j : Job) : State × Bool :=
  let places := duplicatesOf (j.slot.map (slotIndex c)) j.bin 0 sa.1.dir.records
  (places.foldl (fun t i => t.onDir (Directory.change (slotAt c i) i (.blocked .duplicate) j.bin none)) sa.1,
    sa.2 || !places.isEmpty)

/-- The kept jobs re-applied in queue order; DIRECTORY raised once when any duplicate was found. -/
def reapply (s : State) : State :=
  match s.cfg with
  | none => s
  | some c =>
    let taken := s.crane.held.map (fun h => h.step.job)
    let t := reapplyHeld s
    let t := (t.queue.jobs.filter (fun j => taken != some j.num)).foldl reapplyJob t
    let (t, any) := t.queue.jobs.foldl (blockDuplicates c) (t, false)
    if any then raise .directory t else t

/-- The load has ended (R181). -/
def endLoad (s : State) : State :=
  let t := reapply (holdRecords s)
  if t.line.everLocked then enterHoming t else beginAcquire (t.setStation .acquiring)

/-! ## Serving the record (R171, R172) -/

/-- The present counts differ from the recorded ones by more than the window. -/
def State.craneMoved (s : State) (c : Config) (r : Suspension) : Bool :=
  decide (c.window < dist s.crane.travel.count r.travel) || decide (c.window < dist s.crane.lift.count r.lift)

/-- A slot jammed by the fork (R171 test 4). -/
def jammed (r : Suspension) (j : Job) : Bool :=
  r.primary == some .forkJam && j.isStore && (j.stage == .placing || j.stage == .toPlace) && j.slot.isSome

/-- The jammed slot is blocked and a new one chosen; the standing record's stage becomes TO_PLACE and its step-done flag
clear, so that test 5 gives the move step. DESIGN CHOICE (log 41). -/
def clearJam (r : Suspension) (j : Job) (s : State) : State :=
  match j.slot with
  | none => s
  | some a =>
    setRecord (some { r with stage := .toPlace, done := false })
      (updateJob j.num (Job.setStage .toPlace)
        (chooseSlot j.num (requestChange a (· == .inbound) (.blocked .obstructed) (fun _ => 0) none s)))

/-- The tests of R171 up to the step to give, and the service of a QUIET record. -/
def serve (s : State) : State :=
  match s.cfg, s.faults.suspension with
  | some c, some r =>
    match r.kind with
    | .quiet =>
      setRecord none (match s.job r.job with
        | some j => onJobs (requeue j) s
        | none => s)
    | .laden =>
      match s.job r.job with
      | none => setRecord none s
      | some j =>
        if !s.sensors.fbn then setRecord none (requestFail j.num r.cause.outcome s)
        else if !r.homed && s.craneMoved c r then raise .position s
        else if jammed r j then clearJam r j s
        else s
  | _, _ => s

/-- The station enters RUN and takes up its work (R157, R186). -/
def enterRun (s : State) : State := serve (s.setStation .run)

/-- The step R171 gives a LADEN job, by its stage as it stands now. -/
def servedStep (r : Suspension) (j : Job) : StepKind :=
  if j.stage = .toPlace ∧ r.stage = .toPlace ∧ r.done ∧ r.step = .movePlace then .place else .movePlace

/-- The step is given; the record becomes NONE as the crane takes it; a refusal raises POSITION with the record standing. -/
def giveServed (r : Suspension) (j : Job) (s : State) : State :=
  let t := updateJob j.num (Job.setStage .toPlace) s
  match giveStep j.num (servedStep r j) j.placeAt t with
  | .taken u => setRecord none (restartJob j.num u)
  | .drive => driveFault (setRecord none (restartJob j.num (takeStep j.num (servedStep r j) j.placeAt .moving t)))
  | .refused => raise .position s

/-- A LADEN record whose tests are done waits for its step. -/
def serveGive (s : State) : Option State :=
  match s.faults.suspension with
  | none => none
  | some r =>
    if s.inService && r.kind == .laden && s.crane.free then
      match s.job r.job with
      | none => some (setRecord none s)
      | some j => if j.stage = .toPlace ∨ j.stage = .placing then some (giveServed r j s) else some (setRecord none s)
    else none

/-! ## Steps and selection (R32 to R34) -/

/-- Give the active job its move step. -/
def giveMove (s : State) (j : Job) (kind : StepKind) (place : Place) : Option State :=
  match giveStep j.num kind place s with
  | .taken t => some t
  | .drive => some (driveFault (takeStep j.num kind place .moving s))
  | .refused => none

/-- The next step of the stage sequence, once the crane is free; a job whose failure waits for its action's end takes none
(log 42). -/
def nextStep (s : State) : Option State :=
  if s.inService && s.faults.suspension.isNone && s.crane.free then
    match s.activeJob with
    | none => none
    | some j =>
      if s.queue.failing j.num then none
      else match j.stage with
      | .toPick => giveMove s j .movePick j.pickAt
      | .toPlace => giveMove s j .movePlace j.placeAt
      | .awaitCarrier | .waiting | .picking | .placing | .dispatching | .committing => none
  else none

/-- Eligibility by stage (R33). -/
def State.eligible (s : State) (j : Job) : Bool :=
  j.stage == .waiting &&
    match j.kind with
    | .store => true
    | .fetch => !s.front.dispatch && !s.queue.jobs.any (fun k => k.isFetch && (k.onCrane || k.stage == .dispatching))

/-- The job selected: first in the queue, TO_PICK, its start set (R34). -/
def selectJob (j : Job) (s : State) : State :=
  startJob j.num (s.serviceEstimate j)
    (updateJob j.num (Job.setStage .toPick) (onJobs (fun js => j :: js.filter (fun k => k.num != j.num)) s))

/-- Selection under the conditions of R32. -/
def selection (s : State) : Option State :=
  if s.inService && s.crane.bothHomed && s.faults.suspension.isNone && s.activeJob.isNone && s.crane.free then
    (s.queue.jobs.find? s.eligible).map (fun j => selectJob j s)
  else none

/-! ## The fire unit's own transitions (R151 to R156) -/

/-- PARKED, with an own zone only (R153). -/
def parked (breached : Bool) (s : State) : State :=
  match s.cfg with
  | none => s
  | some c =>
    (sendParked (.parked c.zone s.fire.forced breached (s.faults.suspension.map (·.kind))) s).onFire
      (fun f => { f with parked := true })

/-- SCL active in SEALING or BREACHED: SEALED. Only the entry that leaves SEALING is the first after it and sends PARKED
(R152, R153). -/
def sealedByScl (s : State) : Option State :=
  let t := s.onFire (fun f => { f with state := .sealed, shutter := none })
  match s.fire.state with
  | .sealing => if s.fire.scl then some (if s.fire.parked then t else parked false t) else none
  | .breached => if s.fire.scl then some t else none
  | .calm | .halting | .clearing | .sealed | .reopening => none

/-- FIN settle has passed with FIN inactive throughout (R140). -/
def State.finSettledNow (s : State) : Bool :=
  match s.cfg with
  | none => false
  | some c => !s.fire.fin && decide (s.fire.finLast + msec c.finSettle ≤ s.clock)

/-- REOPENING begins (R155). -/
def reopen (s : State) : Option State :=
  match s.fire.state with
  | .sealed | .breached =>
    if s.fire.allClear && s.finSettledNow then
      some (s.onFire (fun f => { f with state := .reopening, shutter := some (s.inMs s.shutterLimit) }))
    else none
  | .calm | .halting | .clearing | .sealing | .reopening => none

/-- The return to CALM: the marks, the flag, the start point and the shutter timer clear (R154 to R156). -/
def toCalm (s : State) : State :=
  s.onFire (fun f =>
    { f with
      state := .calm
      allClear := false
      shutter := none
      deadline := none
      forced := false
      rehome := false
      recordMark := false
      startPoint := .none })

/-- Station control takes the station out of SHUTDOWN (R156), by the marks as they stood. -/
def resume (s : State) : State :=
  let t := toCalm s
  if s.station = .shutdown then
    if s.fire.startPoint = .loading then beginLoading t
    else if hasSevere s.faults.current then enterFaulted t
    else if s.fire.startPoint = .homing ∨ s.fire.forced ∨ s.fire.rehome then enterHoming t
    else enterRun t
  else t

/-- SOP active in REOPENING. -/
def opened (s : State) : Option State :=
  if s.fire.state = .reopening ∧ s.sensors.sop then some (resume s) else none

/-! ## Carrying a command's consequences to their end -/

/-- A move end finished, and a controlled stop carried out, once both outputs are zero and the fork rests (R64, R66). -/
def craneRests (s : State) : Option State :=
  if s.crane.still && s.crane.fork.isNone && s.crane.step.isNone then
    match s.crane.mode with
    | .step => some (s.onCrane (fun c => { c with mode := .idle }))
    | .stopping => some (stopCarriedOut s)
    | .idle | .homing | .writeWait | .clearing | .stopped => none
  else none

/-- The stop report reaches the fire unit in HALTING. -/
def haltingReport (s : State) : Option State :=
  if s.fire.state = .halting ∧ s.crane.mode = .stopped then some (firstStop s) else none

/-- Both moves to the front have completed: homing is complete, RUN follows (R57, R183). -/
def homedAtFront (s : State) : Option State :=
  if s.crane.homing = some .front ∧ s.crane.movesDone then
    let t := s.onCrane (fun c => { c with mode := .idle, homing := none, homeTimer := none })
    some (enterRun (t.onFaults (fun u => { u with suspension := u.suspension.map (fun r => { r with homed := true }) })))
  else none

/-- One consequence of the state as it stands, the first of this order; `none` when nothing follows. -/
def progress (s : State) : Option State :=
  finishHeld s <|> fillOwed s <|> beginWrite s <|> stepProgress s <|> craneRests s <|> haltingReport s <|> clearProgress s
    <|> homedAtFront s <|> sealedByScl s <|> reopen s <|> opened s <|> serveGive s <|> nextStep s <|> selection s

/-- At most `fuel` consequences, one after another. -/
def settleWith : Nat → State → State
  | 0, s => s
  | fuel + 1, s =>
    match progress s with
    | none => s
    | some t => settleWith fuel t

/-- The consequences of a command (log 11). -/
def settle (s : State) : State := settleWith 64 s

end Sys2Proof.Machine
end

