-- ==== Sys2Proof/Machine/Receive.lean ====
section
/-! DEFINITION. How a frame reaches the block it is for: the receive queue and its dispatch (R196), and the rows of the
table that stand for a whole frame (log 5). -/

namespace Sys2Proof.Machine

/-- Put a frame at the back of the receive queue, or count RX_OVERRUN (R196). -/
def enqueue (f : RxFrame) (s : State) : State :=
  if s.line.rxQueue.length < 6 then s.onLine (fun l => { l with rxQueue := l.rxQueue ++ [f] })
  else s.onCounters (fun c => { c with rxOverrun := satInc c.rxOverrun })

/-- A frame row: the oldest queued frame handed to its block, or, with the queue empty, a frame accepted now and handed
on at once; accepted behind others it waits. A frame that fails its format tests reaches no block (R196, R202). -/
def handFrame (f : RxFrame) (handle : State → State) (s : State) : State :=
  match s.cfg with
  | none => s
  | some c =>
    if frameOk c.carriers f then
      match s.line.rxQueue with
      | [] => if s.line.mode = .locked then handle s else s
      | g :: rest =>
        if g = f then handle (s.onLine (fun l => { l with rxQueue := rest }))
        else if s.line.mode = .locked then enqueue f s
        else s
    else s

end Sys2Proof.Machine
end

