-- ==== Sys2Proof/Machine/FrontEvents.lean ====
section
/-! DEFINITION. The front unit's events (chapter 4): CARRIER_PASSAGE, LOOP_STOPPED_TIMEOUT, INTAKE_OCCUPANCY_CHANGE,
DISPATCH_OCCUPANCY_CHANGE, PUSHER_PULSE_END, PUSHER_LIMIT_EXPIRY, LOADED, EMPTIED. -/

namespace Sys2Proof.Machine

/-! ## The loop view (R74 to R77) -/

def setView (carrier : Nat) (e : ViewEntry) (f : Front) : Front := { f with view := setAt carrier e f.view }

/-- The entry of a carrier. -/
def Front.entry (f : Front) (carrier : Nat) : ViewEntry := (getAt carrier f.view).getD .unknown

/-- LOADED (R75). -/
def execLoaded (now : Now) (src carrier bin destination tag : Nat) (s : State) : Host.Outcome State Fault Refusal :=
  whenOn now s (handFrame { src := src, body := .loaded carrier bin destination tag } (fun t =>
    t.onFront (setView carrier (.laden (some bin) (some destination) (some src)))))

/-- EMPTIED (R75). -/
def execEmptied (now : Now) (src carrier bin : Nat) (s : State) : Host.Outcome State Fault Refusal :=
  whenOn now s (handFrame { src := src, body := .emptied carrier bin } (fun t => t.onFront (setView carrier .free)))

/-- CLD corrects the entry of the carrier at the front, counting a correction where it contradicts the view (R77). -/
def correct (carrier : Nat) (cld : Bool) (f : Front) : Front :=
  match f.entry carrier, cld with
  | .free, true => { setView carrier (.laden none none none) f with corrections := satInc f.corrections }
  | .unknown, true => setView carrier (.laden none none none) f
  | .laden _ _ _, true => f
  | .laden _ _ _, false => { setView carrier .free f with corrections := satInc f.corrections }
  | .unknown, false => setView carrier .free f
  | .free, false => f

/-! ## A passage (R71 to R73) -/

/-- Step 1: the loop-stopped timer restarts; the second passage while the flag is set clears it. -/
def stopEdge (clock : Nat) (f : Front) : Front :=
  let g := { f with stopTimer := some (clock + msec 5000) }
  if f.stopped then
    if 1 ≤ f.stopEdges then { g with stopped := false, stopEdges := 2, discard := true } else { g with stopEdges := f.stopEdges + 1 }
  else g

/-- An index slip at this passage (R72). -/
def Front.slipsAt (f : Front) (n : Nat) (chm : Bool) : Bool := f.indexValid && chm && (f.index + 1) % n != 0

/-- Step 2: the index steps by CHM. -/
def stepIndex (n : Nat) (chm : Bool) (f : Front) : Front :=
  if !f.indexValid then (if chm then { f with index := 0, indexValid := true, discard := true } else f)
  else if !chm then { f with index := (f.index + 1) % n }
  else if (f.index + 1) % n = 0 then { f with index := 0 }
  else { f with index := 0, slips := satInc f.slips, view := List.replicate n .unknown }

/-- An interval as a period, 1..5000 ms (R68, R73; log 28). -/
def periodOf (ms : Nat) : Nat := min (max ms 1) 5000

/-- Step 3: a measurement, made when the index was valid and the flag clear at the start of the passage. -/
def measure (measures : Bool) (ms : Nat) (f : Front) : Front :=
  let g := { f with previous := some ms }
  match measures, f.previous with
  | true, some p => if f.discard then { g with discard := false } else { g with period := some (periodOf (ms - p)) }
  | _, _ => g

/-- Steps 1 to 4. -/
def passFront (n clock : Nat) (chm cld : Bool) (f : Front) : Front :=
  let g := measure (f.indexValid && !f.stopped) (clock / 1000) (stepIndex n chm (stopEdge clock f))
  if g.indexValid then correct g.index cld g else g

/-! ## Pull and load tests (R78 to R84) -/

/-- A pusher fires at this passage. -/
def fire (p : Pusher) (carrier : Nat) (owner : ActionOwner) (s : State) : State :=
  s.onFront (fun f =>
    { f with
      action := some { pusher := p, carrier := carrier, owner := owner, fired := s.clock, pulseEnded := false,
                       confirmed := false } })

/-- The STORE that waits for the carrier, its pull not yet fired. -/
def State.awaiting (s : State) (carrier : Nat) : Option Job :=
  s.queue.jobs.find? (fun j => j.isStore && j.stage == .awaitCarrier && j.carrier == some carrier && !s.front.pulling j.num)

/-- The view names another bin on the carrier. -/
def ViewEntry.otherBin (bin : Nat) : ViewEntry → Bool
  | .laden (some b) _ _ => b != bin
  | .laden none _ _ | .free | .unknown => false

/-- Step 5, the pull test (R81). -/
def pullTest (cld : Bool) (s : State) : State :=
  let carrier := s.front.index
  match s.awaiting carrier with
  | none => s
  | some j =>
    if !cld || (s.front.entry carrier).otherBin j.bin then failNow j.num .notFound s
    else if s.front.intake || s.front.action.isSome || !s.inService then s
    else fire .intake carrier (.store j.num j.bin) s

/-- Step 6, the load test (R84). -/
def loadTest (cld : Bool) (s : State) : State :=
  let carrier := s.front.index
  if s.front.owner != .none && s.front.dispatch && s.front.entry carrier == .free && !cld && s.front.action.isNone
      && s.inService then
    fire .dispatch carrier (.dispatch s.front.owner) s
  else s

/-- One passage (R71); the front unit tracks nothing in START and HALTED. -/
def passage (chm cld : Bool) (s : State) : State :=
  match s.cfg with
  | none => s
  | some c =>
    let t := if s.front.slipsAt c.carriers chm then raise .loop s else s
    let t := t.onFront (passFront c.carriers s.clock chm cld)
    if t.front.indexValid then loadTest cld (pullTest cld t) else t

/-- CARRIER_PASSAGE (R71). -/
def execCarrierPassage (now : Now) (chm cld : Bool) (s : State) : Host.Outcome State Fault Refusal :=
  whenOn now s (passage chm cld)

/-- The timer expires: the flag set, P removed, the edge count 0 (R73). -/
def loopStops (s : State) : State :=
  if s.cfg.isSome && s.due s.front.stopTimer then
    s.onFront (fun f => { f with stopped := true, period := none, stopEdges := 0, stopTimer := none })
  else s

/-- LOOP_STOPPED_TIMEOUT (R73). -/
def execLoopStoppedTimeout (now : Now) (s : State) : Host.Outcome State Fault Refusal := whenOn now s loopStops

/-! ## Confirmations (R80, R82, R85) -/

/-- The action ends: its held requests are carried out (R83). -/
def endAction (s : State) : State := releaseHeld (s.onFront (fun f => { f with action := none }))

/-- The action has been confirmed: it ends now when its pulse has ended. -/
def confirmed (a : PusherAction) (s : State) : State :=
  if a.pulseEnded then endAction s else s.onFront (fun f => { f with action := some { a with confirmed := true } })

/-- A pull confirmed (R82): the carrier FREE, EMPTIED, the STORE in WAITING with its offer entry closed (R132). -/
def pulled (a : PusherAction) (job bin : Nat) (s : State) : State :=
  let t := send (.emptied a.carrier bin) .all (s.onFront (setView a.carrier .free))
  let t :=
    match (t.job job).map Job.stage with
    | some .awaitCarrier =>
      closeClaimed job (updateJob job (fun j => { j with stage := .waiting, pulledSince := some s.msNow }) t)
    | _ => t
  confirmed a t

/-- A fresh tag for a re-offer, and the counter after it (R85). -/
def freshTag (counter original : Nat) : Nat × Nat :=
  let t := if counter = original then (counter + 1) % 256 else counter
  (t, (t + 1) % 256)

/-- A load confirmed (R85): the owner NONE, the view, LOADED as the job leaves, or OFFER with a fresh tag. With the FETCH
gone the carrier is LADEN, loaded by the own address, its bin and destination absent. DESIGN CHOICE (log 36). -/
def loadedNow (c : Config) (a : PusherAction) (o : DispatchOwner) (s : State) : State :=
  let t := s.onFront (fun f => { f with owner := .none })
  let t :=
    match o with
    | .fetch n =>
      match t.job n with
      | some j =>
        removeJob n (send (.loaded a.carrier j.bin j.requester j.tag) .all
          (t.onFront (setView a.carrier (.laden (some j.bin) (some j.requester) (some c.address)))))
      | none => t.onFront (setView a.carrier (.laden none none (some c.address)))
    | .reOffer bin tag =>
      let (fresh, next) := freshTag t.front.reofferTag tag
      send (.offer a.carrier bin fresh) .all
        (t.onFront (fun f => { setView a.carrier (.laden (some bin) none (some c.address)) f with reofferTag := next }))
    | .none => t
  confirmed a t

/-- The occupancy of the intake changes (R69); going occupied it confirms a pull in flight. -/
def intakeChange (occupied : Bool) (s : State) : State :=
  if s.front.intake = occupied then s
  else
    let t := s.onFront (fun f => { f with intake := occupied })
    match occupied, t.front.action with
    | true, some a =>
      match a.owner with
      | .store job bin => if a.confirmed then t else settle (pulled a job bin t)
      | .dispatch _ => t
    | _, _ => t

/-- INTAKE_OCCUPANCY_CHANGE (R69, R82). -/
def execIntakeOccupancyChange (now : Now) (occupied : Bool) (s : State) : Host.Outcome State Fault Refusal :=
  whenOn now s (intakeChange occupied)

/-- The dispatch position goes empty: a load confirmed, a bin lost, or a bare change (R69, R70). -/
def dispatchEmptied (s : State) : State :=
  match s.cfg, s.front.action with
  | some c, some a =>
    match a.owner with
    | .dispatch o => if a.confirmed then s else loadedNow c a o s
    | .store _ _ => if s.front.owner = .none then s else dispatchLost s
  | some _, none => if s.front.owner = .none then s else dispatchLost s
  | none, _ => s

def dispatchChange (occupied : Bool) (s : State) : State :=
  if s.front.dispatch = occupied then s
  else
    let t := s.onFront (fun f => { f with dispatch := occupied })
    if occupied then t else settle (dispatchEmptied t)

/-- DISPATCH_OCCUPANCY_CHANGE (R69, R70, R85). -/
def execDispatchOccupancyChange (now : Now) (occupied : Bool) (s : State) : Host.Outcome State Fault Refusal :=
  whenOn now s (dispatchChange occupied)

/-! ## Pulse and limit (R80) -/

/-- The pulse ends, and with it a confirmed action; a failure carried out then may free the crane for the next job. -/
def pulseEnd (s : State) : State :=
  match s.cfg, s.front.action with
  | some c, some a =>
    if a.pulseEnded = false ∧ a.fired + msec c.pusherPulse ≤ s.clock then
      if a.confirmed then (if s.queue.held = [] then endAction s else settle (endAction s)) else s.onFront (fun f => { f with action := some { a with pulseEnded := true } })
    else s
  | _, _ => s

/-- PUSHER_PULSE_END. -/
def execPusherPulseEnd (now : Now) (s : State) : Host.Outcome State Fault Refusal := whenOn now s pulseEnd

/-- The limit has run without confirmation: the carrier UNKNOWN, the action ended, PUSHER raised. -/
def limitEnd (s : State) : State :=
  match s.cfg, s.front.action with
  | some c, some a =>
    if a.confirmed = false ∧ a.fired + msec c.pusherLimit ≤ s.clock then
      settle (raise .pusher (endAction (s.onFront (setView a.carrier .unknown))))
    else s
  | _, _ => s

/-- PUSHER_LIMIT_EXPIRY. -/
def execPusherLimitExpiry (now : Now) (s : State) : Host.Outcome State Fault Refusal := whenOn now s limitEnd

end Sys2Proof.Machine
end

