-- ==== Sys2Proof/Machine/Lending.lean ====
section
/-! DEFINITION. FETCH, CANCEL, HOLD, STORE_PROMOTION and SLOTSET (chapters 1, 2 and 6). -/

namespace Sys2Proof.Machine

/-! ## FETCH (R104 to R107) -/

/-- The HOLD that answers a call (R106). -/
def answer (src bin tag : Nat) (o : HoldOutcome) (estimate : Nat) (s : State) : State :=
  send (.hold bin tag src o estimate) .all s

/-- The FETCH job of a call (R107). -/
def fetchJob (src bin tag n : Nat) (a : SlotAddr) : Job :=
  { num := n, kind := .fetch, bin := bin, slot := some a, requester := src, tag := tag, carrier := none, stage := .waiting,
    start := none, pulledSince := none, promoted := false, reoffer := false }

/-- The call is queued: the estimate first, then the job, its slot's reservation, the HOLD, and selection (R107). -/
def queueCall (src bin tag : Nat) (a : SlotAddr) (s : State) : State :=
  let j := fetchJob src bin tag s.queue.nextNumber a
  settle (answer src bin tag .queued (s.holdEstimate j) (reserveOutbound a (addJob j s)))

def takeFetch (src bin tag : Nat) (s : State) : State :=
  match s.jobOfBin bin with
  | some j =>
    match j.kind with
    | .fetch => answer src bin tag .alreadyCalled (s.currentEstimate j) s
    | .store => answer src bin tag .returning 65535 s
  | none =>
    match s.cfg, s.dir.lookup bin with
    | some c, some i =>
      if s.slotIs (slotAt c i) .held && s.inService then
        if s.queueRoom then queueCall src bin tag (slotAt c i) s else answer src bin tag .queueFull 65535 s
      else answer src bin tag .unavailable 65535 s
    | _, _ => s

/-- FETCH (R103 to R108). -/
def execFetch (now : Now) (src bin tag : Nat) (s : State) : Host.Outcome State Fault Refusal :=
  whenOn now s (handFrame { src := src, body := .fetch bin tag } (takeFetch src bin tag))

/-! ## CANCEL (R110 to R112) -/

/-- The FETCH a CANCEL matches. -/
def State.cancelMatch (s : State) (src bin tag : Nat) : Option Job :=
  s.queue.jobs.find? (fun j => j.isFetch && j.bin == bin && j.tag == tag && j.requester == src)

def takeCancel (src bin tag : Nat) (s : State) : State :=
  match s.cancelMatch src bin tag with
  | some j => if j.stage = .waiting ∨ j.stage = .toPick then settle (failNow j.num .cancelled s) else s
  | none => s

/-- CANCEL. -/
def execCancel (now : Now) (src bin tag : Nat) (s : State) : Host.Outcome State Fault Refusal :=
  whenOn now s (handFrame { src := src, body := .cancel bin tag } (takeCancel src bin tag))

/-! ## Duplicates found in running (R8, R117, R121) -/

/-- The bin's record is HELD or OUTBOUND: the request marks it or finds it on its way out. -/
def State.duplicateHere (s : State) (bin : Nat) : Bool :=
  match s.dir.lookup bin with
  | none => false
  | some i => (getAt i s.dir.records).map SlotRec.state == some .held || (getAt i s.dir.records).map SlotRec.state == some .outbound

/-- Block the record at a place, DIRECTORY raised. -/
def blockDuplicate (c : Config) (i bin : Nat) (s : State) : State :=
  raise .directory (s.onDir (Directory.change (slotAt c i) i (.blocked .duplicate) bin none))

/-- The duplicate mark on a bin. The bin of a STORE job is left unchanged in every case, as the tables of R117 and R121 say
(log 38). -/
def markDuplicate (bin : Nat) (s : State) : State :=
  match s.cfg, s.dir.lookup bin with
  | some c, some i =>
    match (getAt i s.dir.records).map SlotRec.state, s.jobOfBin bin with
    | some .held, none => blockDuplicate c i bin s
    | some .held, some j => if j.isStore then s else blockDuplicate c i bin s
    | some .outbound, none => raise .directory s
    | some .outbound, some j =>
      if j.isStore then s
      else if j.stage = .waiting ∨ j.stage = .toPick then failNow j.num .duplicate (blockDuplicate c i bin s)
      else raise .directory s
    | _, _ => s
  | _, _ => s

/-- A peer's HOLD; only QUEUED and ALREADY_CALLED say that the peer holds the bin. -/
def takeHold (bin : Nat) (o : HoldOutcome) (s : State) : State :=
  match o with
  | .queued | .alreadyCalled => if s.duplicateHere bin then settle (markDuplicate bin s) else s
  | .queueFull | .returning | .unavailable => s

/-- HOLD (R117). -/
def execHold (now : Now) (src bin tag requester : Nat) (outcome : HoldOutcome) (estimate : Nat) (s : State) :
    Host.Outcome State Fault Refusal :=
  whenOn now s (handFrame { src := src, body := .hold bin tag requester outcome estimate } (takeHold bin outcome))

/-! ## Promotion (R31) -/

/-- The STORE waits and its patience has run out since its pull. -/
def State.promotable (s : State) (c : Config) (j : Job) : Bool :=
  j.isStore && j.stage == .waiting && !j.promoted
    && (j.pulledSince.map (fun t => decide (c.storePatience < s.msNow - t))).getD false

def promote (n : Nat) (s : State) : State :=
  match s.cfg, s.job n with
  | some c, some j => if s.promotable c j then onJobs (promoteIn j) s else s
  | _, _ => s

/-- STORE_PROMOTION. -/
def execStorePromotion (now : Now) (job : Nat) (s : State) : Host.Outcome State Fault Refusal := whenOn now s (promote job)

/-! ## SLOTSET (R21, R22) -/

/-- The record's state allows a SLOTSET, no step's write is listed for it, and a write can be entered. -/
def State.slotSettable (s : State) (a : SlotAddr) : Bool :=
  !(s.slotIs a .outbound) && !(s.slotIs a .inbound) && s.dir.holds
    && !s.dir.writeList.any (fun e => e.slot == a && e.job.isSome) && s.dir.writeRoom a

/-- The bin is named by a record other than EMPTY elsewhere, or by a job. -/
def State.namedElsewhere (s : State) (i bin : Nat) : Bool :=
  (((setAt i { state := .empty, bin := 0, owed := false } s.dir.records).any
    (fun r => r.state != .empty && r.bin == bin))) || (s.jobOfBin bin).isSome

/-- What a SLOTSET comes to: the refusal, or the slot and the record it sets. -/
def State.slotsetResult (s : State) (c : Config) (src face bay level state bin : Nat) : SlotResult × Option (SlotAddr × SlotState) :=
  if src ≠ c.maintenance then (.refusedSource, none)
  else
    match faceOf face, slotStateOf state with
    | some f, some st =>
      let a : SlotAddr := { face := f, bay := bay, level := level }
      if !(namesRecord c a && imageFits st bin) then (.refusedRange, none)
      else if !s.slotSettable a then (.refusedBusy, none)
      else if bin ≠ 0 ∧ s.namedElsewhere (slotIndex c a) bin then (.refusedDuplicate, none)
      else (.accepted, some (a, st))
    | _, _ => (.refusedRange, none)

def takeSlotset (src face bay level state bin : Nat) (s : State) : State :=
  match s.cfg with
  | none => s
  | some c =>
    match s.slotsetResult c src face bay level state bin with
    | (_, some (a, st)) =>
      settle (s.onDir (fun d =>
        (Directory.put (slotIndex c a) { state := st, bin := bin, owed := false } d).addWrite a { state := st, bin := bin } none 1))
    | (r, none) => send (.slotack face bay level r) (.station c.maintenance) s

/-- SLOTSET. -/
def execSlotset (now : Now) (src face bay level state bin : Nat) (s : State) : Host.Outcome State Fault Refusal :=
  whenOn now s (handFrame { src := src, body := .slotset face bay level state bin } (takeSlotset src face bay level state bin))

end Sys2Proof.Machine
end

