-- ==== Sys2Proof/Machine/Bidding.lean ====
section
/-! DEFINITION. The offer unit (chapter 7): OFFER, BID, CLAIM, BID_WINDOW_END. -/

namespace Sys2Proof.Machine

/-! ## The table (R119) -/

def onEntries (f : List OfferEntry → List OfferEntry) (s : State) : State := s.onOffers (fun t => { t with entries := f t.entries })

/-- Change the entry of a serial. -/
def updateOffer (serial : Nat) (f : OfferEntry → OfferEntry) (s : State) : State :=
  onEntries (List.map (fun e => if e.serial = serial then f e else e)) s

/-- The entry leaves the table. -/
def closeEntry (serial : Nat) (s : State) : State := onEntries (List.filter (fun e => e.serial != serial)) s

/-- The entry closes with its own frame withdrawn. -/
def closeWithdrawn (serial : Nat) (s : State) : State := closeEntry serial (withdraw serial s)

/-- The open entry a BID or CLAIM matches. -/
def State.offerMatch (s : State) (carrier tag offerer : Nat) : Option OfferEntry :=
  s.offers.entries.find? (fun e => e.carrier == carrier && e.tag == tag && e.offerer == offerer)

/-! ## OFFER (R120 to R124) -/

/-- The bin test of R121, made on the state before any mark. -/
def State.binTest (s : State) (bin : Nat) : Bool :=
  match s.dir.lookup bin with
  | none => (s.jobOfBin bin).isNone
  | some i =>
    match (getAt i s.dir.records).map SlotRec.state with
    | some .held => (s.jobOfBin bin).isNone
    | some .outbound => ((s.jobOfBin bin).map (fun j => j.isFetch && (j.stage == .waiting || j.stage == .toPick))).getD false
    | _ => false

/-- The cost of an eligible OFFER; `none` when a test of R122 fails. -/
def State.offerCost (s : State) (carrier : Nat) (binPasses : Bool) : Option Nat :=
  if s.inService && decide (0 < s.dir.emptyCount) && s.queueRoom && s.front.pcs.isSome && !s.storeOnCarrier carrier
      && binPasses then
    s.bidCost carrier
  else none

/-- The entry of an OFFER taken now. -/
def offerEntry (serial carrier bin tag src windowEnd : Nat) (cost : Option Nat) (own : OwnState) : OfferEntry :=
  { serial := serial, carrier := carrier, bin := bin, tag := tag, offerer := src, windowEnd := windowEnd, ownCost := cost,
    own := own, best := none, heard := 0, job := none, withheld := none }

/-- Put the entry in the table, in place of an open one that names its carrier or at the end. -/
def placeEntry (e : OfferEntry) (s : State) : State :=
  s.onOffers (fun t =>
    { entries :=
        if t.entries.any (fun x => x.carrier == e.carrier) then updateFirst (fun x => x.carrier == e.carrier) (fun _ => e) t.entries
        else t.entries ++ [e]
      nextSerial := t.nextSerial + 1 })

/-- Open the entry, with its BID when the station is eligible (R123, R124). -/
def openEntry (c : Config) (src carrier bin tag : Nat) (cost : Option Nat) (s : State) : State :=
  let s := match s.offers.entries.find? (fun e => e.carrier == carrier) with
    | some old => withdraw old.serial s
    | none => s
  let own : OwnState := if cost.isSome && s.line.room then .bidPending else .none
  let e := offerEntry s.offers.nextSerial carrier bin tag src (s.msNow + c.bidWindow) cost own
  match cost with
  | some k => sendOwned (.bid carrier tag src k) e.serial (placeEntry e s)
  | none => placeEntry e s

/-- The offer unit's share of an OFFER: duplicate check, eligibility, entry. -/
def takeOffer (src carrier bin tag : Nat) (s : State) : State :=
  match s.cfg with
  | none => s
  | some c =>
    let passes := s.binTest bin
    let marks := s.duplicateHere bin
    let t := markDuplicate bin s
    let cost := t.offerCost carrier passes
    let u :=
      if t.offers.entries.any (fun e => e.carrier == carrier) || decide (t.offers.entries.length < 4) then
        openEntry c src carrier bin tag cost t
      else t.onCounters (fun k => { k with ignoredOffer := satInc k.ignoredOffer })
    if marks then settle u else u

/-- OFFER: to the front unit (R75) and the offer unit, each on its own (R120). -/
def execOffer (now : Now) (src carrier bin tag : Nat) (s : State) : Host.Outcome State Fault Refusal :=
  whenOn now s (handFrame { src := src, body := .offer carrier bin tag } (fun t =>
    (takeOffer src carrier bin tag t).onFront (setView carrier (.laden (some bin) none (some src)))))

/-! ## BID (R126) -/

/-- A foreign pair counted and kept when best. -/
def OfferEntry.hear (p : BidPair) (e : OfferEntry) : OfferEntry :=
  { e with
    heard := min (e.heard + 1) 255
    best := match e.best with
      | none => some p
      | some b => if p.better b then some p else some b }

/-- The station's own pair. -/
def OfferEntry.ownPair (address : Nat) (e : OfferEntry) : BidPair := { cost := e.ownCost.getD 65535, address := address }

/-- Suppression: the BID leaves the queue and the own state becomes NONE; under an attempt it is held (R125). -/
def suppress (serial : Nat) (s : State) : State :=
  if s.line.attempting serial then
    withdraw serial (updateOffer serial (fun e => { e with withheld := e.withheld <|> some .suppress }) s)
  else withdraw serial (updateOffer serial (fun e => { e with own := .none }) s)

def takeBid (src carrier tag offerer cost : Nat) (s : State) : State :=
  match s.cfg, s.offerMatch carrier tag offerer with
  | some c, some e =>
    let p : BidPair := { cost := cost, address := src }
    let t := updateOffer e.serial (OfferEntry.hear p) s
    if e.own = .bidPending ∧ p.beatsOwn (e.ownPair c.address) then suppress e.serial t else t
  | _, _ => s

/-- BID. -/
def execBid (now : Now) (src carrier tag offerer cost : Nat) (s : State) : Host.Outcome State Fault Refusal :=
  whenOn now s (handFrame { src := src, body := .bid carrier tag offerer cost } (takeBid src carrier tag offerer cost))

/-! ## CLAIM (R130, R131) -/

def takeClaim (src carrier tag offerer cost : Nat) (s : State) : State :=
  match s.cfg, s.offerMatch carrier tag offerer with
  | some c, some e =>
    match e.own with
    | .none | .bidSent => closeEntry e.serial s
    | .bidPending => closeWithdrawn e.serial s
    | .claimed =>
      let p : BidPair := { cost := cost, address := src }
      if p.beatsOwn (e.ownPair c.address) then
        match e.job with
        | some n => closeWithdrawn e.serial (requestYield n s)
        | none => closeWithdrawn e.serial s
      else closeEntry e.serial s
  | _, _ => s

/-- CLAIM. -/
def execClaim (now : Now) (src carrier tag offerer cost : Nat) (s : State) : Host.Outcome State Fault Refusal :=
  whenOn now s (handFrame { src := src, body := .claim carrier tag offerer cost } (takeClaim src carrier tag offerer cost))

/-! ## Window end and claiming (R127 to R129) -/

/-- The STORE job of a claim (R128). -/
def storeJob (n : Nat) (a : SlotAddr) (e : OfferEntry) : Job :=
  { num := n, kind := .store, bin := e.bin, slot := some a, requester := e.offerer, tag := e.tag, carrier := some e.carrier,
    stage := .awaitCarrier, start := none, pulledSince := none, promoted := false, reoffer := false }

/-- The three tests of a claim attempt; the slot when all pass. -/
def State.claimSlot (s : State) (e : OfferEntry) : Option SlotAddr :=
  if s.mayAddStore e.bin e.carrier && (findPlace (SlotRec.namesLive e.bin) s.dir.records).isNone then s.nearestEmpty else none

/-- The claim in one action: reservation, STORE, CLAIM, the entry CLAIMED; a failed attempt closes the entry. -/
def claimAttempt (e : OfferEntry) (s : State) : State :=
  match s.claimSlot e with
  | none => closeEntry e.serial s
  | some a =>
    let n := s.queue.nextNumber
    let t := reserveInbound a e.bin (addJob (storeJob n a e) s)
    updateOffer e.serial (fun x => { x with own := .claimed, job := some n })
      (sendOwned (.claim e.carrier e.tag e.offerer (e.ownCost.getD 65535)) e.serial t)

/-- The own pair does not lose to the best foreign bid. -/
def OfferEntry.wins (address : Nat) (e : OfferEntry) : Bool :=
  match e.best with
  | none => true
  | some b => !b.beatsOwn (e.ownPair address)

/-- A sent bid judged at its window end. -/
def judge (c : Config) (e : OfferEntry) (s : State) : State :=
  if e.wins c.address then claimAttempt e s else closeEntry e.serial s

/-- The window end of an entry reached. -/
def windowEnds (c : Config) (e : OfferEntry) (s : State) : State :=
  match e.own with
  | .none => closeEntry e.serial s
  | .bidPending =>
    if s.line.attempting e.serial then
      withdraw e.serial (updateOffer e.serial (fun x => { x with withheld := some .windowEnd }) s)
    else closeWithdrawn e.serial s
  | .bidSent => judge c e s
  | .claimed => s

def windowEnd (carrier : Nat) (s : State) : State :=
  match s.cfg, s.offers.entries.find? (fun e => e.carrier == carrier) with
  | some c, some e => if e.windowEnd ≤ s.msNow then windowEnds c e s else s
  | _, _ => s

/-- BID_WINDOW_END. -/
def execBidWindowEnd (now : Now) (carrier : Nat) (s : State) : Host.Outcome State Fault Refusal :=
  whenOn now s (windowEnd carrier)

end Sys2Proof.Machine
end

