-- ==== Sys2Proof/Machine/CraneEvents.lean ====
section
/-! DEFINITION. The crane unit's events (chapter 3): ENCODER_EDGE, BOTH_PHASES_CHANGED, END_LIMIT_SWITCH, AXIS_AT_REST,
DUTY_PERIOD_START, STALL_EXPIRY, DRDY_INACTIVE, FORK_SENSOR_REACHED, FORK_TIMER_EXPIRY, FKC_LOST, FPR_OBSTRUCTION,
BIN_LOST, HOME_SWITCH_EDGE, HOME_SWITCH_RELEASED, HOME_TIMER_EXPIRY. -/

namespace Sys2Proof.Machine

/-! ## Counting (R42, R43) -/

/-- Phase A leads: the count goes up. -/
def countsUp (pa pb a b : Bool) : Bool := if pa != a then a != pb else b == pa

/-- The count after an edge, and whether a homed axis would leave its range. -/
def Axis.counted (up : Bool) (x : Axis) : Nat × Bool :=
  if up then
    if x.count < 65535 then (x.count + 1, false) else if x.homed then (65535, true) else (0, false)
  else
    if 0 < x.count then (x.count - 1, false) else if x.homed then (0, true) else (65535, false)

/-- The pair read becomes the reference; the edge is counted and the rest measurement starts anew. -/
def Axis.takeEdge (clock : Nat) (a b : Bool) (x : Axis) : Axis :=
  { x with count := (x.counted (countsUp x.phaseA x.phaseB a b)).1, phaseA := a, phaseB := b, quietSince := clock }

/-! ## Slowdown, stall and period (R46, R49, R50) -/

/-- The step after the walk down its table at distance `d`. -/
def walkDown (c : AxisConfig) (d step : Nat) : Nat :=
  match step with
  | 0 => 0
  | n + 1 => if d < stepValue c.threshold (n + 1) then walkDown c d n else n + 1

/-- The walk of a move in DRIVING; a new duty waits for the next duty period. -/
def Axis.slow (c : AxisConfig) (x : Axis) : Axis :=
  match x.move, x.target with
  | .driving, some t =>
    let step := walkDown c (dist t x.count) x.step
    if step = x.step then x else { x with step := step, nextDuty := some (stepValue c.duty step) }
  | _, _ => x

/-- The stall one-shot starts again with the current step's time. -/
def Axis.restall (c : AxisConfig) (clock : Nat) (x : Axis) : Axis :=
  if x.duty = 0 then x else { x with stall := some (clock + msec (stepValue c.stall x.step)) }

/-- The interval ending at a rising edge of phase A is below the current step's minimum (R50; log 13). -/
def Axis.tooFast (c : AxisConfig) (clock : Nat) (x : Axis) : Bool :=
  match x.lastRise with
  | none => false
  | some t => x.duty != 0 && !x.firstMark && decide (min (clock - t) 65535 < stepValue c.minPeriod x.step)

/-- The meter after a rising edge: the first interval after the mark clears it. -/
def Axis.meter (clock : Nat) (x : Axis) : Axis :=
  { x with lastRise := some clock, firstMark := x.firstMark && !(x.duty != 0 && x.lastRise.isSome) }

/-! ## Settling and reversal (R47, R48) -/

/-- At creep and inside the window the output goes to zero at once and the move settles. -/
def Axis.stopIn (window clock : Nat) (x : Axis) : Axis :=
  match x.move, x.target with
  | .driving, some t =>
    if x.step = 0 ∧ dist t x.count ≤ window then
      { x with move := .settling, duty := 0, nextDuty := none, brake := true, stall := none, quietSince := clock }
    else x
  | _, _ => x

/-- A settling move whose count has passed the target by more than the window. -/
def Axis.overshot (window : Nat) (x : Axis) : Bool :=
  match x.move, x.target, x.dir with
  | .settling, some t, some .up => decide (t + window < x.count)
  | .settling, some t, some .down => decide (x.count + window < t)
  | _, _, _ => false

/-- Drive again at creep toward the target (R47, R48), unless R54 holds the output; with DRDY inactive DRIVE is raised. -/
def creepOn (a : AxisName) (f : Axis → Axis) (s : State) : State :=
  match s.cfg with
  | none => s
  | some c =>
    if s.axisHeld a then settle (driveHeld a s)
    else if !s.sensors.drdy then settle (driveFault s)
    else s.onAxis a (fun x =>
      let dir := toward x.count (x.target.getD x.count)
      f { x.drive (Config.axis c a) s.clock dir 0 with move := .driving, dir := some dir })

/-- A reversal; the third raises POSITION. -/
def reverse (a : AxisName) (s : State) : State :=
  if 2 ≤ (s.axis a).reversals then settle (axisFault .position a s)
  else creepOn a (fun x => { x with reversals := x.reversals + 1, firstMark := true }) s

/-- The checks that follow a counted edge, in the order range, slowdown, stall, period, settling (log 14). -/
def edgeChecks (a : AxisName) (rise limit : Bool) (s : State) : State :=
  if limit then settle (axisFault .limit a s)
  else
    match s.cfg with
    | none => if rise then s.onAxis a (Axis.meter s.clock) else s
    | some c =>
      let ac := Config.axis c a
      let t := s.onAxis a (fun x => (x.slow ac).restall ac s.clock)
      let fast := rise && (t.axis a).tooFast ac s.clock
      let t := if rise then t.onAxis a (Axis.meter s.clock) else t
      if fast then settle (axisFault .overspeed a t)
      else if (t.axis a).overshot c.window then reverse a t
      else t.onAxis a (Axis.stopIn c.window s.clock)

/-- Both phases changed: ENCODER, the count as it stood, the new pair the reference (R42). Phase A rising in such a sample
is no edge for the period meter. DESIGN CHOICE (log 13). -/
def encoderLost (a : AxisName) (pa pb : Bool) (s : State) : State :=
  settle (axisFault .encoder a (s.onAxis a (fun x => { x with phaseA := pa, phaseB := pb })))

/-- A sample of the phase pair. -/
def sample (a : AxisName) (pa pb : Bool) (s : State) : State :=
  let x := s.axis a
  if x.phaseA = pa ∧ x.phaseB = pb then s
  else if x.phaseA ≠ pa ∧ x.phaseB ≠ pb then encoderLost a pa pb s
  else
    edgeChecks a (!x.phaseA && pa) (x.counted (countsUp x.phaseA x.phaseB pa pb)).2
      (s.onAxis a (Axis.takeEdge s.clock pa pb))

/-- ENCODER_EDGE (R42, R43, R46 to R50). -/
def execEncoderEdge (now : Now) (axis : AxisName) (a b : Bool) (s : State) : Host.Outcome State Fault Refusal :=
  whenOn now s (sample axis a b)

/-- BOTH_PHASES_CHANGED (R42). -/
def execBothPhasesChanged (now : Now) (axis : AxisName) (s : State) : Host.Outcome State Fault Refusal :=
  whenOn now s (fun t => encoderLost axis (!(t.axis axis).phaseA) (!(t.axis axis).phaseB) t)

/-! ## End limit switches (R43) -/

def limitAxis : LimitSwitch → AxisName
  | .tll | .tlh => .travel
  | .vll | .vlh => .lift

def setLimit (w : LimitSwitch) (x : Sensors) : Sensors :=
  match w with
  | .tll => { x with tll := true }
  | .tlh => { x with tlh := true }
  | .vll => { x with vll := true }
  | .vlh => { x with vlh := true }

/-- END_LIMIT_SWITCH. -/
def execEndLimitSwitch (now : Now) (switch : LimitSwitch) (s : State) : Host.Outcome State Fault Refusal :=
  whenOn now s (fun t => settle (axisFault .limit (limitAxis switch) (t.setSensors (setLimit switch t.sensors))))

/-! ## Rest (R47, R56) -/

/-- The output is zero and 20 ms have passed with no counted edge. -/
def Axis.atRest (clock : Nat) (x : Axis) : Bool := x.duty == 0 && decide (x.quietSince + msec 20 ≤ clock)

/-- A settling move at rest completes inside the window and drives again outside it. -/
def moveRests (c : Config) (a : AxisName) (s : State) : State :=
  let x := s.axis a
  if dist (x.target.getD x.count) x.count ≤ c.window then
    settle (s.onAxis a (fun x => { x with move := .none, target := none, dir := none }))
  else creepOn a id s

/-- A homing drive at rest is followed by the drive toward the switch, the other axis, or the moves to the front. -/
def homingRests (a : AxisName) (s : State) : State :=
  if s.crane.homing = some (.awayRest a) then settle (homingDrive a .down (.toward a) s)
  else if s.crane.homing = some (.towardRest a) then
    match a with
    | .lift => settle (beginAxisHoming .travel s)
    | .travel => settle (homingFront s)
  else s

def rest (a : AxisName) (s : State) : State :=
  match s.cfg with
  | none => s
  | some c =>
    if (s.axis a).atRest s.clock then
      match (s.axis a).move with
      | .settling => moveRests c a s
      | .none => homingRests a s
      | .driving => s
    else s

/-- AXIS_AT_REST. -/
def execAxisAtRest (now : Now) (axis : AxisName) (s : State) : Host.Outcome State Fault Refusal := whenOn now s (rest axis)

/-! ## Duty periods and the stall one-shot (R46, R49, R64) -/

/-- A duty that waited takes effect; zero applies the brake. -/
def Axis.newPeriod (clock : Nat) (x : Axis) : Axis :=
  match x.nextDuty with
  | none => x
  | some 0 => { x with duty := 0, nextDuty := none, brake := true, stall := none, quietSince := clock }
  | some (n + 1) => { x with duty := n + 1, nextDuty := none }

def dutyPeriod (a : AxisName) (s : State) : State :=
  let t := s.onAxis a (Axis.newPeriod s.clock)
  if (s.axis a).nextDuty = some 0 then settle t else t

/-- DUTY_PERIOD_START (R46, R64). -/
def execDutyPeriodStart (now : Now) (axis : AxisName) (s : State) : Host.Outcome State Fault Refusal :=
  whenOn now s (dutyPeriod axis)

def stallRunsOut (a : AxisName) (s : State) : State :=
  if s.due (s.axis a).stall && (s.axis a).duty != 0 then settle (axisFault .stall a s) else s

/-- STALL_EXPIRY (R49). -/
def execStallExpiry (now : Now) (axis : AxisName) (s : State) : Host.Outcome State Fault Refusal :=
  whenOn now s (stallRunsOut axis)

/-! ## Drive ready (R51) -/

def driveLost (s : State) : State :=
  let t := s.setSensors { s.sensors with drdy := false }
  if t.crane.still then t else settle (driveFault t)

/-- DRDY_INACTIVE (R51). -/
def execDrdyInactive (now : Now) (s : State) : Host.Outcome State Fault Refusal := whenOn now s driveLost

/-! ## The fork (R53, R54, R62) -/

def setForkSensor (f : ForkAction) (x : Sensors) : Sensors :=
  match f with
  | .extendL => { x with fkl := true }
  | .extendR => { x with fkr := true }
  | .retract => { x with fkc := true }

def forkReached (s : State) : State :=
  match s.crane.fork with
  | none => s
  | some f => settle (forkDone (s.setSensors (setForkSensor f s.sensors)))

/-- FORK_SENSOR_REACHED (R53). -/
def execForkSensorReached (now : Now) (s : State) : Host.Outcome State Fault Refusal := whenOn now s forkReached

def forkLate (s : State) : State :=
  if s.crane.fork.isSome && s.due s.crane.forkTimer then settle (forkFault .forkTimeout s) else s

/-- FORK_TIMER_EXPIRY (R53). -/
def execForkTimerExpiry (now : Now) (s : State) : Host.Outcome State Fault Refusal := whenOn now s forkLate

/-- An extend is being performed. -/
def Crane.extending (c : Crane) : Bool := c.fork == some .extendL || c.fork == some .extendR

/-- FKC lost with no extend performed: the travel output goes to zero at once, FORK_JAM (R54). -/
def forkJammed (s : State) : State :=
  let t := s.setSensors { s.sensors with fkc := false }
  if t.crane.extending then t else settle (forkFault .forkJam (t.onAxis .travel (Axis.halt t.clock)))

/-- FKC_LOST (R54). -/
def execFkcLost (now : Now) (s : State) : Host.Outcome State Fault Refusal := whenOn now s forkJammed

/-- FPR reports during a place extend at a slot: the extend ends and a retract is performed. -/
def obstruction (s : State) : State :=
  let t := s.setSensors { s.sensors with fpr := true }
  match t.crane.step with
  | some st =>
    if st.phase = .extend ∧ st.kind = .place ∧ st.place.slotOf.isSome ∧ t.crane.fork.isSome then
      settle (beginFork .retract (setPhase .retractObstructed (forkDone t)))
    else t
  | none => t

/-- FPR_OBSTRUCTION (R62). -/
def execFprObstruction (now : Now) (s : State) : Host.Outcome State Fault Refusal := whenOn now s obstruction

/-! ## The carry (R63) -/

def loseBin (s : State) : State :=
  let t := s.setSensors { s.sensors with fbn := false }
  if t.crane.carry then
    settle (raise .binLost (endMotion (haltBoth (t.onCrane (fun c => { c with carry := false })))))
  else t

/-- BIN_LOST (R63). -/
def execBinLost (now : Now) (s : State) : Host.Outcome State Fault Refusal := whenOn now s loseBin

/-! ## Homing (R56, R57) -/

def setHome (a : AxisName) (on : Bool) (x : Sensors) : Sensors :=
  match a with
  | .travel => { x with ths := on }
  | .lift => { x with vhs := on }

/-- The home switch becomes active during the drive toward it: the count loaded, the flag set, the axis stopped. -/
def homeEdge (a : AxisName) (s : State) : State :=
  let t := s.setSensors (setHome a true s.sensors)
  match t.cfg with
  | none => t
  | some c =>
    if t.crane.homing = some (.toward a) then
      setHoming (.towardRest a)
        (t.onAxis a (fun x => { x.halt t.clock with count := (Config.axis c a).home, homed := true }))
    else t

/-- HOME_SWITCH_EDGE (R56). -/
def execHomeSwitchEdge (now : Now) (axis : AxisName) (s : State) : Host.Outcome State Fault Refusal :=
  whenOn now s (homeEdge axis)

/-- The switch goes inactive during the drive away from it. -/
def homeReleased (a : AxisName) (s : State) : State :=
  let t := s.setSensors (setHome a false s.sensors)
  if t.crane.homing = some (.away a) then setHoming (.awayRest a) (t.onAxis a (Axis.halt t.clock)) else t

/-- HOME_SWITCH_RELEASED (R56). -/
def execHomeSwitchReleased (now : Now) (axis : AxisName) (s : State) : Host.Outcome State Fault Refusal :=
  whenOn now s (homeReleased axis)

/-- The home timer expires: both outputs to zero at once, HOME (R57). -/
def homeLate (s : State) : State :=
  if s.due s.crane.homeTimer then settle (raise .home (endMotion (haltBoth s))) else s

/-- HOME_TIMER_EXPIRY (R57). -/
def execHomeTimerExpiry (now : Now) (s : State) : Host.Outcome State Fault Refusal := whenOn now s homeLate

end Sys2Proof.Machine
end

