-- ==== Sys2Proof/Machine/FireEvents.lean ====
section
/-! DEFINITION. The fire unit's events (chapter 8) and the BEACON timer (R173, R174): FIN_READ_ACTIVE, FIN_ACTIVE,
FIN_INACTIVE, FIN_SETTLED, ALARM_REPEAT_TIMER, ALARM, ALLCLEAR, DEADLINE_TIMER_EXPIRY, SHUTTER_TIMER_EXPIRY, SCL_ACTIVE,
SCL_INACTIVE, SOP_ACTIVE, BEACON_TIMER_EXPIRY. -/

namespace Sys2Proof.Machine

/-! ## Entering HALTING (R144) -/

/-- Where an unfinished start sequence resumes. -/
def startPointOf : StationState → StartPoint
  | .start | .loading => .loading
  | .acquiring | .homing => .homing
  | .run | .shutdown | .faulted | .halted => .none

/-- SHUTDOWN, unless HALTED or in START. -/
def shutStation (s : State) : State :=
  match s.station with
  | .halted | .start => s
  | .loading | .acquiring | .homing | .run | .shutdown | .faulted => s.setStation .shutdown

/-- A load in progress ends, its records discarded, and the acquisition begins in its place (R18, R158). -/
def endLoadEarly (s : State) : State :=
  if s.station = .loading then beginAcquire (s.onDir (fun d => { d with port := .idle, staging := [] })) else s

/-- The deadline timer's length, in ms: fire deadline minus shutter limit, with a configuration only (R139). -/
def State.deadlineLength (s : State) : Option Nat := s.cfg.map (fun c => c.fireDeadline - c.shutterLimit)

/-- The marks and timers of HALTING. -/
def haltingMarks (point : StartPoint) (s : State) : State :=
  s.onFire (fun f =>
    { f with
      state := .halting
      allClear := false
      forced := false
      rehome := false
      recordMark := false
      parked := false
      deadline := s.deadlineLength.map s.inMs
      shutter := none
      startPoint := point })

def enterHalting (s : State) : State :=
  let point := startPointOf s.station
  controlledStop (closeOffers (haltingMarks point (shutStation (endLoadEarly s))))

/-- A trigger taken in the fire state it finds (R141, R143, R155). -/
def trigger (s : State) : State :=
  match s.fire.state with
  | .calm => settle (enterHalting s)
  | .halting | .clearing | .sealing | .sealed | .breached => s.onFire (fun f => { f with allClear := false })
  | .reopening => settle (enterSealing (s.onFire (fun f => { f with allClear := false })))

/-! ## FIN and the relay (R140, R142) -/

/-- FIN is read active: the run begins, the settle measurement starts anew. -/
def finRead (s : State) : State :=
  s.onFire (fun f =>
    { f with fin := true, finLast := s.clock, finRun := if f.fin && f.finRun.isSome then f.finRun else some s.clock })

/-- FIN_READ_ACTIVE (R140). -/
def execFinReadActive (now : Now) (s : State) : Host.Outcome State Fault Refusal := whenOn now s finRead

/-- Queue the station's own ALARM and start the repeat timer; with no own zone no ALARM is sent (R142; log 24). -/
def relay (s : State) : State :=
  let t := s.onFire (fun f => { f with alarmTimer := some (s.inMs 1000) })
  match t.cfg with
  | some c => sendAlarm c.zone t
  | none => t

/-- FIN has been active without a break for 100 ms. -/
def State.finDue (s : State) : Bool :=
  s.fire.fin && !s.fire.filtered && (s.fire.finRun.map (fun t => decide (t + msec 100 ≤ s.clock))).getD false

def finBecomesActive (s : State) : State :=
  if s.finDue then trigger (relay (s.onFire (fun f => { f with filtered := true, finLast := s.clock }))) else s

/-- FIN_ACTIVE (R140, R141). -/
def execFinActive (now : Now) (s : State) : Host.Outcome State Fault Refusal := whenOn now s finBecomesActive

/-- FIN reads inactive: filtered FIN INACTIVE, the repeat timer stopped; until now it had read active. -/
def finGoesInactive (s : State) : State :=
  s.onFire (fun f =>
    { f with
      fin := false
      filtered := false
      finRun := none
      finLast := if f.fin then s.clock else f.finLast
      alarmTimer := none })

/-- FIN_INACTIVE (R140). -/
def execFinInactive (now : Now) (s : State) : Host.Outcome State Fault Refusal := whenOn now s finGoesInactive

/-- FIN_SETTLED: FIN settle has passed, and the reopening that waited for it begins (R140, R155). -/
def execFinSettled (now : Now) (s : State) : Host.Outcome State Fault Refusal := whenOn now s settle

/-- The repeat timer expires. -/
def alarmRepeat (s : State) : State := if s.due s.fire.alarmTimer then relay s else s

/-- ALARM_REPEAT_TIMER (R142). -/
def execAlarmRepeatTimer (now : Now) (s : State) : Host.Outcome State Fault Refusal := whenOn now s alarmRepeat

/-! ## ALARM and ALLCLEAR (R143, R154) -/

/-- The bit of a zone stands in a mask. -/
def inMask (mask zone : Nat) : Bool := mask.testBit zone

/-- A qualifying ALARM: the own zone in its mask, or its all-zones flag, bit 7 of the cause. -/
def qualifies (c : Config) (mask cause : Nat) : Bool := inMask mask c.zone || cause.testBit 7

def takeAlarm (c : Config) (mask cause : Nat) (s : State) : State := if qualifies c mask cause then trigger s else s

def takeAllClear (c : Config) (src mask : Nat) (s : State) : State :=
  if src ≠ c.panel then s.onCounters (fun k => { k with notMine := satInc k.notMine })
  else if inMask mask c.zone then settle (s.onFire (fun f => { f with allClear := true }))
  else s

/-- A fire frame of the table's rows is handed to the fire unit at the moment of acceptance, and never queued (R196; log
5). -/
def handFire (f : RxFrame) (handle : Config → State → State) (s : State) : State :=
  match s.cfg with
  | none => s
  | some c => if s.line.mode = .locked ∧ frameOk c.carriers f then handle c s else s

/-- ALARM. -/
def execAlarm (now : Now) (src zoneMask cause : Nat) (s : State) : Host.Outcome State Fault Refusal :=
  whenOn now s (handFire { src := src, body := .alarm zoneMask cause } (fun c => takeAlarm c zoneMask cause))

/-- ALLCLEAR. -/
def execAllclear (now : Now) (src zoneMask : Nat) (s : State) : Host.Outcome State Fault Refusal :=
  whenOn now s (handFire { src := src, body := .allclear zoneMask } (fun c => takeAllClear c src zoneMask))

/-! ## The deadline and the shutter (R149, R151, R152, R155) -/

def deadlineRunsOut (s : State) : State :=
  if s.due s.fire.deadline then
    match s.fire.state with
    | .halting | .clearing => settle (forceSeal .fire true s)
    | .calm | .sealing | .sealed | .breached | .reopening => s
  else s

/-- DEADLINE_TIMER_EXPIRY (R149). -/
def execDeadlineTimerExpiry (now : Now) (s : State) : Host.Outcome State Fault Refusal := whenOn now s deadlineRunsOut

/-- SEALING goes to BREACHED with SHUTTER and PARKED; a failed REOPENING goes to CALM and FAULTED with SHUTTER. -/
def shutterRunsOut (s : State) : State :=
  if s.due s.fire.shutter then
    match s.fire.state with
    | .sealing =>
      let t := raise .shutter (s.onFire (fun f => { f with state := .breached, shutter := none }))
      settle (if t.fire.parked then t else parked true t)
    | .reopening =>
      let t := toCalm (raise .shutter s)
      settle (if t.station = .shutdown then enterFaulted t else t)
    | .calm | .halting | .clearing | .sealed | .breached => s
  else s

/-- SHUTTER_TIMER_EXPIRY (R151, R155). -/
def execShutterTimerExpiry (now : Now) (s : State) : Host.Outcome State Fault Refusal := whenOn now s shutterRunsOut

/-- SCL_ACTIVE (R151, R152). -/
def execSclActive (now : Now) (s : State) : Host.Outcome State Fault Refusal :=
  whenOn now s (fun t => settle (t.onFire (fun f => { f with scl := true })))

/-- SCL goes inactive: in SEALED the shutter is BREACHED and SHUTTER raised. -/
def sclLost (s : State) : State :=
  let t := s.onFire (fun f => { f with scl := false })
  if t.fire.state = .sealed then settle (raise .shutter (t.onFire (fun f => { f with state := .breached }))) else t

/-- SCL_INACTIVE (R152). -/
def execSclInactive (now : Now) (s : State) : Host.Outcome State Fault Refusal := whenOn now s sclLost

/-- SOP_ACTIVE (R155). -/
def execSopActive (now : Now) (s : State) : Host.Outcome State Fault Refusal :=
  whenOn now s (fun t => settle (t.setSensors { t.sensors with sop := true }))

/-! ## BEACON (R173, R174) -/

/-- The BEACON formed from the state as it stands. -/
def State.beacon (s : State) : TxBody :=
  .beacon s.station s.fire.state s.queue.jobs.length s.dir.emptyCount s.dir.capacity s.primary s.faults.accrued s.faults.current

def beaconRunsOut (s : State) : State :=
  match s.cfg with
  | none => s
  | some c =>
    if s.due s.faults.beacon then
      (sendBeacon s.beacon s.faults.accrued s).onFaults (fun u => { u with beacon := u.beacon.map (· + msec c.beaconPeriod) })
    else s

/-- BEACON_TIMER_EXPIRY (R173 to R175). -/
def execBeaconTimerExpiry (now : Now) (s : State) : Host.Outcome State Fault Refusal := whenOn now s beaconRunsOut

end Sys2Proof.Machine
end

