-- ==== Sys2Proof/Machine/LineEvents.lean ====
section
/-! DEFINITION. The line unit's events (chapter 11): LOOP_TEST_DONE, HUNT_START_TIMED, HUNT_REARM, SILENT_LINE_FALLBACK,
UNREADABLE_LINE_FALLBACK, LRX_FALLING_EDGE, CHARACTER_RECEIVED, FRAMING_ERROR, FRAME_GAP_ABORT, FRAME_RECEIVED, STATS,
TX_ATTEMPT_START, FRAME_SENT, COLLISION. -/

namespace Sys2Proof.Machine

/-! ## Acquisition (R190 to R192) -/

/-- The hunt starts: armed, the run at 0, both fallback timers afresh. A rate index locked before stands until the next
lock and is read by nothing meanwhile. DESIGN CHOICE (log 44). -/
def LineUnit.startHunt (clock : Nat) (l : LineUnit) : LineUnit :=
  { l with
    mode := .hunting
    armed := true
    huntEntry := 0
    run := 0
    runEntry := 0
    huntStart := clock
    lastFall := clock
    tally := []
    rx := .awaitLead
    rxBuf := []
    attempt := none }

/-- The loop test: every character of the test frame read back equal starts the hunt, one unequal or missing halts the
station. Characters read back beyond the last of the test frame are not looked at, and those given are taken as read back within their
character time, no moment of the test frame's sending being held. DESIGN CHOICE (log 45). -/
def loopTest (readBack : List LineChar) (s : State) : State :=
  match s.cfg with
  | none => s
  | some c =>
    if s.line.mode = .loopTest then
      if (loopTestChars c.address).isPrefixOf readBack then s.onLine (LineUnit.startHunt s.clock) else settle (enterHalted s)
    else s

/-- LOOP_TEST_DONE (R190). -/
def execLoopTestDone (now : Now) (readBack : List LineChar) (s : State) : Host.Outcome State Fault Refusal :=
  whenOn now s (loopTest readBack)

/-- The rate is locked; a lock by match has taken the lead of a frame (R191, R192). -/
def LineUnit.lock (clock index : Nat) (matched : Bool) (l : LineUnit) : LineUnit :=
  { l with
    mode := .locked
    rate := some index
    rx := if matched then .awaitAddress else .awaitLead
    rxBuf := []
    tally := []
    idleFrom := clock
    everLocked := true }

/-- A lock: the first one starts the beacon timer (R173), and one in ACQUIRING ends it (R182). -/
def lockLine (c : Config) (index : Nat) (matched : Bool) (s : State) : State :=
  let t := s.onLine (LineUnit.lock s.clock index matched)
  let t := if s.line.everLocked then t else t.onFaults (fun u => { u with beacon := some (s.inMs c.beaconPeriod) })
  settle (if t.station = .acquiring then enterHoming t else t)

/-- The entry whose max start a low run of `low` samples does not pass, from `i` on (R191). -/
def entryReached (low i : Nat) : Nat → Option Nat
  | 0 => none
  | fuel + 1 => if low ≤ maxStart i then some i else entryReached low (i + 1) fuel

/-- A lead: 0xB5 or 0xAD with mark 0. -/
def isLead (ch : LineChar) : Bool := (ch.data == 0xB5 || ch.data == 0xAD) && !ch.mark

/-- The hunt after a start that is no match. -/
def LineUnit.noMatch (entry : Nat) (l : LineUnit) : LineUnit := { l with run := 0, armed := false, huntEntry := entry }

/-- The hunt after a match at an entry. -/
def LineUnit.matchAt (entry : Nat) (l : LineUnit) : LineUnit :=
  { l with
    run := if l.runEntry = entry then l.run + 1 else 1
    runEntry := entry
    armed := false
    huntEntry := entry }

def timedStart (low : Nat) (ch : LineChar) (stop : Bool) (s : State) : State :=
  match s.cfg with
  | none => s
  | some c =>
    if s.line.mode = .hunting ∧ s.line.armed then
      match entryReached low 0 6 with
      | none => s.onLine (LineUnit.noMatch 5)
      | some i =>
        if low < minStart i ∨ !(isLead ch && stop) then s.onLine (LineUnit.noMatch i)
        else
          let t := s.onLine (LineUnit.matchAt i)
          if 3 ≤ t.line.run then lockLine c i true t else t
    else s

/-- HUNT_START_TIMED: the samples of the low run, and the character sampled after it (R191). -/
def execHuntStartTimed (now : Now) (low : Nat) (char : LineChar) (stop : Bool) (s : State) : Host.Outcome State Fault Refusal :=
  whenOn now s (timedStart low char stop)

/-- A disarmed hunt arms again once the line has stood at 1 for 11 bit times of the entry last reached. `high` is how long
it has stood so, in µs, and no longer than since the last falling edge (log 27). -/
def rearm (high : Nat) (s : State) : State :=
  if s.line.mode = .hunting ∧ !s.line.armed ∧ charUs s.line.huntEntry ≤ high ∧ s.line.lastFall + high ≤ s.clock then
    s.onLine (fun l => { l with armed := true })
  else s

/-- HUNT_REARM (R191). -/
def execHuntRearm (now : Now) (s : State) : Host.Outcome State Fault Refusal := whenOn now s (rearm now.line.high)

/-- No falling edge for 2000 ms: the preferred rate is locked. -/
def silentLine (s : State) : State :=
  match s.cfg with
  | none => s
  | some c =>
    if s.line.mode = .hunting ∧ s.line.lastFall + msec 2000 ≤ s.clock then lockLine c c.preferredRate false s else s

/-- SILENT_LINE_FALLBACK (R192). -/
def execSilentLineFallback (now : Now) (s : State) : Host.Outcome State Fault Refusal := whenOn now s silentLine

/-- No lock 10 s after the start of the hunt: the preferred rate is locked, ACQ_FAIL counted. -/
def unreadableLine (s : State) : State :=
  match s.cfg with
  | none => s
  | some c =>
    if s.line.mode = .hunting ∧ s.line.huntStart + msec 10000 ≤ s.clock then
      lockLine c c.preferredRate false (s.onCounters (fun k => { k with acqFail := satInc k.acqFail }))
    else s

/-- UNREADABLE_LINE_FALLBACK (R192). -/
def execUnreadableLineFallback (now : Now) (s : State) : Host.Outcome State Fault Refusal := whenOn now s unreadableLine

/-! ## Falling edges and characters (R189, R194, R198) -/

/-- A falling edge: the idle time back to 0, the silent-line timer restarted, a hunt's start timed from entry 0. The
edge of a glitch is one of them: a gap inside a frame is measured anew from it. DESIGN CHOICE (log 48). -/
def fallingEdge (s : State) : State :=
  match s.line.mode with
  | .locked => s.onLine (fun l => { l with idleFrom := s.clock, lastFall := s.clock })
  | .hunting => s.onLine (fun l => { l with lastFall := s.clock, huntEntry := if l.armed then 0 else l.huntEntry })
  | .off | .loopTest => s

/-- LRX_FALLING_EDGE. -/
def execLrxFallingEdge (now : Now) (s : State) : Host.Outcome State Fault Refusal := whenOn now s fallingEdge

/-- A frame has begun and is not complete (R194). -/
def LineUnit.receiving (l : LineUnit) : Bool := l.rx == .header || l.rx == .payload || l.rx == .check

/-- The receiver returns to AWAIT_LEAD. -/
def LineUnit.discard (l : LineUnit) : LineUnit := { l with rx := .awaitLead, rxBuf := [] }

/-- The frame under the attempt is told no more: a held withdrawal takes effect (R125, R197). -/
def withheldCloses (serial : Nat) (s : State) : State :=
  match s.offers.entries.find? (fun e => e.serial == serial) with
  | none => s
  | some e =>
    match e.withheld with
    | some .windowEnd => closeEntry serial s
    | some .suppress => updateOffer serial (fun x => { x with own := .none, withheld := none }) s
    | none => s

/-- A withdrawn frame leaves the queue at the end of its attempt, with no report (R197), its 16th attempt too: neither TX_LOST
nor LINE. DESIGN CHOICE (log 17). -/
def dropWithdrawn (e : TxEntry) (s : State) : State :=
  let t := s.onLine (LineUnit.removeEntry e.order)
  match e.offer with
  | some serial => withheldCloses serial t
  | none => t

/-- The lock drops and the hunt starts (R192); a withdrawn frame under the attempt leaves (log 32). -/
def rehunt (s : State) : State :=
  let under := match s.line.attempt with
    | some a => s.line.entry a.order
    | none => none
  let t := s.onLine (LineUnit.startHunt s.clock)
  match under with
  | some e => if e.withdrawn then dropWithdrawn e t else t
  | none => t

/-- The framing errors of the last 1000 ms, this one entered; only moments older than that leave (R192). -/
def tallied (clock : Nat) (tally : List Nat) : List Nat := tally.filter (fun t => decide (clock ≤ t + msec 1000)) ++ [clock]

/-- A framing error: counted, entered in the tally, a frame in progress discarded; the 32nd drops the lock (R189, R192,
R194). -/
def framing (s : State) : State :=
  let t := (s.onCounters (fun k => { k with framing := satInc k.framing })).onLine (fun l =>
    { (if l.receiving then l.discard else l) with tally := tallied s.clock l.tally })
  if 32 ≤ t.line.tally.length then rehunt t else t

/-- The end of a character, half a bit after its stop sample (log 25). -/
def charEnds (s : State) : State := s.onLine (fun l => { l with idleFrom := s.clock + 2 ^ l.rate.getD 0 })

/-- The header is whole: LEN says what follows (R194). -/
def afterHeader (s : State) : State :=
  let len := byteAt s.line.rxBuf 3
  if 24 < len then (s.onCounters (fun k => { k with tooLong := satInc k.tooLong })).onLine LineUnit.discard
  else s.onLine (fun l => { l with rx := if len = 0 then .check else .payload })

/-- Both CHECK characters are in: the frame is complete and waits for FRAME_RECEIVED, or is counted CHECK and discarded. A complete
frame takes the place of one that still waits, which is lost uncounted. DESIGN CHOICE (log 47). -/
def afterCheck (s : State) : State :=
  let n := 4 + byteAt s.line.rxBuf 3
  let body := s.line.rxBuf.take n
  if (crc16 body).toNat = wordAt s.line.rxBuf n then s.onLine (fun l => { l.discard with rxDone := some body })
  else (s.onCounters (fun k => { k with check := satInc k.check })).onLine LineUnit.discard

/-- One character of a frame in progress, mark 0. -/
def frameChar (data : Byte) (s : State) : State :=
  let t := s.onLine (fun l => { l with rxBuf := l.rxBuf ++ [data] })
  let len := byteAt t.line.rxBuf 3
  match t.line.rx with
  | .header => if t.line.rxBuf.length = 4 then afterHeader t else t
  | .payload => if t.line.rxBuf.length = 4 + len then t.onLine (fun l => { l with rx := .check }) else t
  | .check => if t.line.rxBuf.length = 6 + len then afterCheck t else t
  | .awaitLead | .awaitAddress => t

/-- The receiver takes a character (R194). -/
def receive (ch : LineChar) (s : State) : State :=
  match s.line.rx with
  | .awaitLead => if isLead ch then s.onLine (fun l => { l with rx := .awaitAddress }) else s
  | .awaitAddress =>
    if ch.mark then s.onLine (fun l => { l with rx := .header, rxBuf := [ch.data] })
    else if isLead ch then s
    else s.onLine LineUnit.discard
  | .header | .payload | .check => if ch.mark then framing s else frameChar ch.data s

/-- A gap of more than 2 character times inside a frame (R194), measured as the idle time is: from the end of the last character or
the last falling edge after it. DESIGN CHOICE (log 48). -/
def gapAbort (s : State) : State :=
  if s.line.mode = .locked ∧ s.line.receiving ∧ s.line.idleFrom + 2 * charUs (s.line.rate.getD 0) < s.clock then
    (s.onCounters (fun k => { k with aborted := satInc k.aborted })).onLine LineUnit.discard
  else s

/-- FRAME_GAP_ABORT. -/
def execFrameGapAbort (now : Now) (s : State) : Host.Outcome State Fault Refusal := whenOn now s gapAbort

/-! ## Complete frames (R195, R196, R202) -/

/-- A frame that passed its tests: fire frames to the fire unit at once, the others to the receive queue. -/
def dispatchFrame (c : Config) (f : RxFrame) (s : State) : State :=
  match f.body with
  | .alarm mask cause => takeAlarm c mask cause s
  | .allclear mask => takeAllClear c f.src mask s
  | _ => enqueue f s

def frameComplete (s : State) : State :=
  match s.cfg, s.line.rxDone with
  | some c, some bytes =>
    let t := s.onLine (fun l => { l with rxDone := none })
    if addressAccepted c (byteAt bytes 0) then
      match parseFrame c.carriers bytes with
      | some f => dispatchFrame c f t
      | none => t
    else t.onCounters (fun k => { k with notMine := satInc k.notMine })
  | _, _ => s

/-- FRAME_RECEIVED. -/
def execFrameReceived (now : Now) (s : State) : Host.Outcome State Fault Refusal := whenOn now s frameComplete

/-! ## STATS (R200) -/

/-- The twelve counters in the order of the reply. -/
def State.twelve (s : State) : List Nat :=
  let k := s.line.counters
  [k.check, k.aborted, k.tooLong, k.framing, k.notMine, k.rxOverrun, k.collision, k.txLost, k.acqFail, k.ignoredOffer,
    s.front.slips, s.front.corrections]

def clearCounters (s : State) : State :=
  (s.onCounters (fun _ => LineCounters.reset)).onFront (fun f => { f with slips := 0, corrections := 0 })

/-- The reply formed, the counters cleared if asked, then the reply queued. -/
def takeStats (src clear : Nat) (s : State) : State :=
  send (.statsReply s.twelve) (.station src) (if clear = 1 then clearCounters s else s)

/-- STATS. -/
def execStats (now : Now) (src clear : Nat) (s : State) : Host.Outcome State Fault Refusal :=
  whenOn now s (handFrame { src := src, body := .stats clear } (takeStats src clear))

/-! ## Attempts (R198, R199) -/

/-- The head whose access gap and backoff the idle time has reached. -/
def State.mayAttempt (s : State) (c : Config) : Option TxEntry :=
  match s.line.head with
  | none => none
  | some e =>
    if s.line.mode == .locked && s.line.attempt.isNone && !s.line.receiving
        && decide (s.line.idleFrom + (accessGap c.address e.body.cls + e.backoff) * charUs (s.line.rate.getD 0) ≤ s.clock) then
      some e
    else none

def startAttempt (s : State) : State :=
  match s.cfg with
  | none => s
  | some c =>
    match s.mayAttempt c with
    | none => s
    | some e =>
      s.onLine (fun l =>
        { l.updateEntry e.order (fun x => { x with attempts := x.attempts + 1, backoff := 0 }) with
          attempt := some { order := e.order, remaining := e.chars c.address, since := s.clock } })

/-- TX_ATTEMPT_START (R198). -/
def execTxAttemptStart (now : Now) (s : State) : Host.Outcome State Fault Refusal := whenOn now s startAttempt

/-- A BEACON waits in the queue. -/
def LineUnit.beaconQueued (l : LineUnit) : Bool := l.general.any TxEntry.isBeacon

/-- The offer unit told that its BID went out (R125); a held window end then judges the sent bid. -/
def bidWentOut (c : Config) (serial : Nat) (s : State) : State :=
  match s.offers.entries.find? (fun e => e.serial == serial) with
  | none => s
  | some e =>
    if e.own = .bidPending then
      let sent : OfferEntry := { e with own := .bidSent, withheld := none }
      let t := updateOffer serial (fun _ => sent) s
      if e.withheld = some .windowEnd then judge c sent t else t
    else s

/-- The owner told that its frame was sent (R175, R199). -/
def reportSent (c : Config) (e : TxEntry) (s : State) : State :=
  if e.isBeacon then
    s.onFaults (fun u =>
      { u with accrued := u.accrued &&& ~~~e.reported, reported := if s.line.beaconQueued then u.reported else 0 })
  else
    match e.offer with
    | some serial => bidWentOut c serial s
    | none => s

/-- Every character of the frame has read back equal, those given now the last of them. -/
def Attempt.allBack (readBack : List LineChar) (a : Attempt) : Bool := a.remaining.isPrefixOf readBack

/-- The frame is sent: it leaves the queue and its owner is told. -/
def frameOut (c : Config) (a : Attempt) (s : State) : State :=
  let t := s.onLine (fun l => { l.removeEntry a.order with attempt := none, idleFrom := max l.idleFrom s.clock })
  match s.line.entry a.order with
  | some e => reportSent c e t
  | none => t

def sent (readBack : List LineChar) (s : State) : State :=
  match s.cfg, s.line.attempt with
  | some c, some a => if a.allBack readBack then frameOut c a s else s
  | _, _ => s

/-- FRAME_SENT (R199). -/
def execFrameSent (now : Now) (s : State) : Host.Outcome State Fault Refusal := whenOn now s (sent now.line.readBack)

/-- One step of the backoff generator (R199). -/
def stepBackoff (g : Word) : Word := if g.getLsbD 0 then (g >>> 1) ^^^ 0xB400#16 else g >>> 1

/-- The owner told that its frame was dropped: a BID's entry has no bid, a BEACON empties its reported set. -/
def reportDropped (e : TxEntry) (s : State) : State :=
  if e.isBeacon then s.onFaults (fun u => { u with reported := if s.line.beaconQueued then u.reported else 0 })
  else
    match e.offer with
    | some serial => updateOffer serial (fun x => if x.own = .bidPending then { x with own := .none } else x) s
    | none => s

/-- The frame after a collision: withdrawn, given a backoff, or dropped on its 16th attempt. A withdrawn one leaves with no
report whatever its attempt count (log 17). -/
def afterCollision (e : TxEntry) (s : State) : State :=
  if e.withdrawn then dropWithdrawn e s
  else if e.attempts < 16 then
    s.onLine (fun l => l.updateEntry e.order (fun x => { x with backoff := l.backoffGen.toNat % 8 + 1 }))
  else reportDropped e (raise .line (countLost (s.onLine (LineUnit.removeEntry e.order))))

/-- A character reads back unequal, or none reads back: driving stops and LDE is released. -/
def collided (a : Attempt) (s : State) : State :=
  let t := (s.onCounters (fun k => { k with collision := satInc k.collision })).onLine (fun l =>
    { l with attempt := none, backoffGen := stepBackoff l.backoffGen, idleFrom := max l.idleFrom s.clock })
  match s.line.entry a.order with
  | some e => afterCollision e t
  | none => t

/-- Of the characters read back, all equal, the next one is missing a character time after its sending (R199). The
characters are driven back to back (R198). -/
def Attempt.missing (charTime clock : Nat) (readBack : List LineChar) (a : Attempt) : Bool :=
  decide (a.since + (readBack.length + 1) * charTime ≤ clock)

/-- COLLISION before any character has read back unequal, and none missing a character time, changes nothing (log 2). -/
def collide (readBack : List LineChar) (s : State) : State :=
  match s.line.attempt with
  | some a =>
    if a.allBack readBack then s
    else if readBack.isPrefixOf a.remaining && !a.missing (charUs (s.line.rate.getD 0)) s.clock readBack then s
    else collided a s
  | none => s

/-- COLLISION (R199). -/
def execCollision (now : Now) (s : State) : Host.Outcome State Fault Refusal := whenOn now s (collide now.line.readBack)

/-! ## Characters and framing errors (R189, R194, R199) -/

/-- A character read back in an own attempt: unequal, the attempt has collided; the last one equal, the frame is sent. -/
def readBackChar (ch : LineChar) (a : Attempt) (s : State) : State :=
  match s.cfg, a.remaining with
  | some c, [x] => if x = ch then frameOut c a s else collided a s
  | _, x :: xs =>
    if x = ch then
      s.onLine (fun l =>
        { l with attempt := some { a with remaining := xs, since := a.since + charUs (l.rate.getD 0) } })
    else collided a s
  | _, [] => collided a s

def character (ch : LineChar) (s : State) : State :=
  if s.line.mode = .locked then
    let t := charEnds s
    match t.line.attempt with
    | some a => readBackChar ch a t
    | none => receive ch t
  else s

/-- CHARACTER_RECEIVED (R194, R199). -/
def execCharacterReceived (now : Now) (char : LineChar) (s : State) : Host.Outcome State Fault Refusal :=
  whenOn now s (character char)

/-- In an own attempt the character with the error has read back unequal (log 26). -/
def framingError (s : State) : State :=
  if s.line.mode = .locked then
    let t := framing (charEnds s)
    match t.line.attempt with
    | some a => collided a t
    | none => t
  else s

/-- FRAMING_ERROR (R189). -/
def execFramingError (now : Now) (s : State) : Host.Outcome State Fault Refusal := whenOn now s framingError

end Sys2Proof.Machine
end

