-- ==== Sys2Proof/Machine/Startup.lean ====
section
/-! DEFINITION. The start sequence, the memory port and the panel reset key: CONFIG_READ, MEMORY_READ_TIMEOUT,
IMAGE_RECORD_READ, KEY_TURN, PRK_INPUT_CHANGE, WRITE_DONE_REPORT, READBACK_DONE, WRITE_TIMEOUT. -/

namespace Sys2Proof.Machine

/-- A port access has gone 20 ms without an answer (R13, R16). -/
def State.portLate (s : State) : Bool := decide (s.dir.portSince + msec 20 ≤ s.clock)

/-! ## The configuration record (R178) -/

/-- A valid record is held: the backoff generator takes the address (R187), tracking begins (R68, R73). -/
def holdConfig (c : Config) (s : State) : State :=
  ((s.setConfig c).onLine (fun l => { l with backoffGen := BitVec.ofNat 16 c.address })).onFront
    (fun f => { f with view := List.replicate c.carriers .unknown, stopTimer := some (s.inMs 5000) })

/-- The station leaves START: LOADING in CALM, SHUTDOWN with start point LOADING otherwise (R158, R178). -/
def leaveStart (s : State) : State :=
  if s.fire.state = .calm then beginLoading s
  else beginAcquire ((s.setStation .shutdown).onFire (fun f => { f with startPoint := .loading }))

def takeConfig (record : List Byte) (s : State) : State :=
  if s.station = .start then
    let t := s.setMemory (Memory.setAll 0 record s.memory)
    match readConfig record with
    | some c => settle (leaveStart (holdConfig c t))
    | none => settle (enterHalted t)
  else s

/-- CONFIG_READ: the record read in START completes and is checked (R178, R179). -/
def execConfigRead (now : Now) (record : List Byte) (s : State) : Host.Outcome State Fault Refusal :=
  whenOn now s (takeConfig record)

/-! ## The load (R16, R17) -/

/-- A read of START or of a load has had no answer for 20 ms. -/
def State.readLate (s : State) : Bool :=
  match s.station with
  | .start => decide (msec 20 ≤ s.clock)
  | .loading => s.dir.port == .reading && s.portLate
  | _ => false

def readTimeout (s : State) : State := if s.readLate then settle (enterHalted s) else s

/-- MEMORY_READ_TIMEOUT: the memory is unreadable (R16, R178, R184). -/
def execMemoryReadTimeout (now : Now) (s : State) : Host.Outcome State Fault Refusal := whenOn now s readTimeout

/-- One record of the load; the last one ends it. -/
def takeImage (bytes : List Byte) (s : State) : State :=
  match s.cfg with
  | none => s
  | some c =>
    if s.station = .loading ∧ s.dir.port = .reading ∧ s.dir.staging.length < Config.capacity c then
      let t := (s.setMemory (Memory.setAll (imageAddress s.dir.staging.length) bytes s.memory)).onDir (fun d =>
        { d with staging := d.staging ++ [readImage bytes], portSince := s.clock })
      if t.dir.staging.length = Config.capacity c then settle (endLoad t) else t
    else s

/-- IMAGE_RECORD_READ: one slot image record read in LOADING (R16, R17). -/
def execImageRecordRead (now : Now) (b0 b1 b2 b3 : Byte) (s : State) : Host.Outcome State Fault Refusal :=
  whenOn now s (takeImage [b0, b1, b2, b3])

/-! ## The key (R185) -/

/-- PRK has read active for 50 ms, having read inactive before. -/
def State.keyDue (s : State) : Bool :=
  s.prk && s.prkArmed && (s.prkRun.map (fun t => decide (t + msec 50 ≤ s.clock))).getD false

/-- The panel reset, in FAULTED: the current set is read and cleared, the offers go, and the station reloads or homes. -/
def panelReset (s : State) : State :=
  let memory := inSet s.faults.current .memory
  let t := closeOffers (s.onFaults (fun u => { u with current := 0 }))
  if memory || !t.dir.holds then beginLoading t else enterHoming t

/-- A turn taken is used up in every state; only FAULTED acts on it. -/
def turnKey (s : State) : State :=
  if s.keyDue then
    let t := s.setKey s.prk false s.prkRun
    if s.station = .faulted then settle (panelReset t) else t
  else s

/-- KEY_TURN (R185). -/
def execKeyTurn (now : Now) (s : State) : Host.Outcome State Fault Refusal := whenOn now s turnKey

/-- Reading inactive arms the key and breaks a run; reading active begins a run. -/
def prkChange (active : Bool) (s : State) : State :=
  if active then (if s.prk then s else s.setKey true s.prkArmed (some s.clock)) else s.setKey false true none

/-- PRK_INPUT_CHANGE (R185). -/
def execPrkInputChange (now : Now) (active : Bool) (s : State) : Host.Outcome State Fault Refusal :=
  whenOn now s (prkChange active)

/-! ## The write under way (R13 to R15) -/

/-- The memory reports the write done: the record is read back. -/
def writeDone (s : State) : State := if s.dir.port = .writing then s.onDir (fun d => { d with port := .checking }) else s

/-- WRITE_DONE_REPORT (R13). -/
def execWriteDoneReport (now : Now) (s : State) : Host.Outcome State Fault Refusal := whenOn now s writeDone

/-- The entry of a write leaves the list and the port returns to IDLE. -/
def Directory.endWrite (d : Directory) : Directory := { d with writeList := d.writeList.drop 1, port := .idle, attempt := 0 }

/-- The STORE in COMMITTING whose place the entry writes (log 21). -/
def State.committing (s : State) (e : WriteEntry) : Option Job :=
  match e.job.bind s.job with
  | some j => if j.isStore && j.stage == .committing && j.slot == some e.slot then some j else none
  | none => none

/-- `n` SLOTACK replies with result ACCEPTED (R15). -/
def sendAcks (c : Config) (a : SlotAddr) : Nat → State → State
  | 0, s => s
  | n + 1, s => sendAcks c a n (send (.slotack (faceCode a.face) a.bay a.level .accepted) (.station c.maintenance) s)

/-- A verified write releases what waits on it (R15). -/
def verified (c : Config) (e : WriteEntry) (s : State) : State :=
  let t := s.onDir Directory.endWrite
  let t :=
    match s.committing e with
    | some j => removeJob j.num (send (.stored j.bin j.tag e.slot) (.station j.requester) t)
    | none => t
  sendAcks c e.slot e.acks t

/-- A failed attempt: the first starts a second with the same image, the second ends the write as failed (R13, R14). -/
def failedAttempt (c : Config) (e : WriteEntry) (s : State) : State :=
  if s.dir.attempt ≤ 1 then
    (s.onDir (fun d => { d with port := .writing, portSince := s.clock, attempt := 2 })).setMemory
      (Memory.dropAll (imageAddress (slotIndex c e.slot)) 4 s.memory)
  else
    let t := raise .memory (s.onDir Directory.endWrite)
    match s.committing e with
    | some j => requestFail j.num .stationFault t
    | none => t

def readback (bytes : List Byte) (s : State) : State :=
  match s.cfg, s.dir.writeList with
  | some c, e :: _ =>
    if s.dir.port = .checking then
      let t := s.setMemory (Memory.setAll (imageAddress (slotIndex c e.slot)) bytes s.memory)
      settle (if bytes = e.image.bytes then verified c e t else failedAttempt c e t)
    else s
  | _, _ => s

/-- READBACK_DONE (R13). -/
def execReadbackDone (now : Now) (b0 b1 b2 b3 : Byte) (s : State) : Host.Outcome State Fault Refusal :=
  whenOn now s (readback [b0, b1, b2, b3])

def writeLate (s : State) : State :=
  match s.cfg, s.dir.writeList with
  | some c, e :: _ => if s.dir.port = .writing ∧ s.portLate then settle (failedAttempt c e s) else s
  | _, _ => s

/-- WRITE_TIMEOUT (R13). -/
def execWriteTimeout (now : Now) (s : State) : Host.Outcome State Fault Refusal := whenOn now s writeLate

end Sys2Proof.Machine
end

