-- ==== Sys2Proof/Machine/Supply.lean ====
section
/-! DEFINITION. POWER_ON, NRST_ACTIVE and POWER_OFF (R177). The record memory and the waiting commands outlast the
supply; every other item of state takes its power-on value. -/

namespace Sys2Proof.Machine

/-- The station right after power-on with the pins as they read (R68, R139, R185), the record memory kept. -/
def poweredOn (pins : PowerPins) (s : State) : State :=
  { State.reset with
    sensors := pins.sensors
    prk := pins.prk
    prkArmed := !pins.prk
    crane := { Crane.reset with
      travel := { Axis.reset with phaseA := pins.ta, phaseB := pins.tb }
      lift := { Axis.reset with phaseA := pins.va, phaseB := pins.vb } }
    front := { Front.reset with intake := pins.mpi, dispatch := pins.mpo }
    fire := { FireUnit.reset with fin := pins.fin, finRun := if pins.fin then some 0 else none, scl := pins.scl }
    memory := s.memory
    pending := s.pending }

/-- The station without power (R177; log 8). -/
def unpowered (s : State) : State := { State.reset with powered := false, memory := s.memory, pending := s.pending }

/-- POWER_ON (R177). One that comes to a station already powered restarts it in the same way. DESIGN CHOICE (log 8). -/
def execPowerOn (pins : PowerPins) (s : State) : Host.Outcome State Fault Refusal := .next (poweredOn pins s)

/-- NRST_ACTIVE: power taken as removed (R177). -/
def execNrstActive (s : State) : Host.Outcome State Fault Refusal := .next (unpowered s)

/-- POWER_OFF (R177). -/
def execPowerOff (s : State) : Host.Outcome State Fault Refusal := .next (unpowered s)

end Sys2Proof.Machine
end

