-- ==== Sys2Proof/Machine/Dispatch.lean ====
section
/-! DEFINITION. One arm per command: one direct call of its meaning. -/

namespace Sys2Proof.Machine

def exec (i : Instr) (s : State) : Host.Outcome State Fault Refusal :=
  match i with
  | .powerOn pins => Sys2Proof.Machine.execPowerOn pins s
  | .nrstActive => Sys2Proof.Machine.execNrstActive s
  | .configRead now record => Sys2Proof.Machine.execConfigRead now record s
  | .memoryReadTimeout now => Sys2Proof.Machine.execMemoryReadTimeout now s
  | .imageRecordRead now b0 b1 b2 b3 => Sys2Proof.Machine.execImageRecordRead now b0 b1 b2 b3 s
  | .keyTurn now => Sys2Proof.Machine.execKeyTurn now s
  | .writeDoneReport now => Sys2Proof.Machine.execWriteDoneReport now s
  | .readbackDone now b0 b1 b2 b3 => Sys2Proof.Machine.execReadbackDone now b0 b1 b2 b3 s
  | .writeTimeout now => Sys2Proof.Machine.execWriteTimeout now s
  | .slotset now src face bay level state bin => Sys2Proof.Machine.execSlotset now src face bay level state bin s
  | .fetch now src bin tag => Sys2Proof.Machine.execFetch now src bin tag s
  | .cancel now src bin tag => Sys2Proof.Machine.execCancel now src bin tag s
  | .hold now src bin tag requester outcome estimate => Sys2Proof.Machine.execHold now src bin tag requester outcome estimate s
  | .storePromotion now job => Sys2Proof.Machine.execStorePromotion now job s
  | .encoderEdge now axis a b => Sys2Proof.Machine.execEncoderEdge now axis a b s
  | .endLimitSwitch now switch => Sys2Proof.Machine.execEndLimitSwitch now switch s
  | .axisAtRest now axis => Sys2Proof.Machine.execAxisAtRest now axis s
  | .dutyPeriodStart now axis => Sys2Proof.Machine.execDutyPeriodStart now axis s
  | .stallExpiry now axis => Sys2Proof.Machine.execStallExpiry now axis s
  | .drdyInactive now => Sys2Proof.Machine.execDrdyInactive now s
  | .forkSensorReached now => Sys2Proof.Machine.execForkSensorReached now s
  | .forkTimerExpiry now => Sys2Proof.Machine.execForkTimerExpiry now s
  | .fkcLost now => Sys2Proof.Machine.execFkcLost now s
  | .fprObstruction now => Sys2Proof.Machine.execFprObstruction now s
  | .binLost now => Sys2Proof.Machine.execBinLost now s
  | .homeSwitchEdge now axis => Sys2Proof.Machine.execHomeSwitchEdge now axis s
  | .homeSwitchReleased now axis => Sys2Proof.Machine.execHomeSwitchReleased now axis s
  | .homeTimerExpiry now => Sys2Proof.Machine.execHomeTimerExpiry now s
  | .carrierPassage now chm cld => Sys2Proof.Machine.execCarrierPassage now chm cld s
  | .loopStoppedTimeout now => Sys2Proof.Machine.execLoopStoppedTimeout now s
  | .intakeOccupancyChange now occupied => Sys2Proof.Machine.execIntakeOccupancyChange now occupied s
  | .dispatchOccupancyChange now occupied => Sys2Proof.Machine.execDispatchOccupancyChange now occupied s
  | .pusherPulseEnd now => Sys2Proof.Machine.execPusherPulseEnd now s
  | .pusherLimitExpiry now => Sys2Proof.Machine.execPusherLimitExpiry now s
  | .loaded now src carrier bin destination tag => Sys2Proof.Machine.execLoaded now src carrier bin destination tag s
  | .emptied now src carrier bin => Sys2Proof.Machine.execEmptied now src carrier bin s
  | .offer now src carrier bin tag => Sys2Proof.Machine.execOffer now src carrier bin tag s
  | .bid now src carrier tag offerer cost => Sys2Proof.Machine.execBid now src carrier tag offerer cost s
  | .claim now src carrier tag offerer cost => Sys2Proof.Machine.execClaim now src carrier tag offerer cost s
  | .bidWindowEnd now carrier => Sys2Proof.Machine.execBidWindowEnd now carrier s
  | .finActive now => Sys2Proof.Machine.execFinActive now s
  | .finInactive now => Sys2Proof.Machine.execFinInactive now s
  | .finSettled now => Sys2Proof.Machine.execFinSettled now s
  | .alarmRepeatTimer now => Sys2Proof.Machine.execAlarmRepeatTimer now s
  | .alarm now src zoneMask cause => Sys2Proof.Machine.execAlarm now src zoneMask cause s
  | .allclear now src zoneMask => Sys2Proof.Machine.execAllclear now src zoneMask s
  | .deadlineTimerExpiry now => Sys2Proof.Machine.execDeadlineTimerExpiry now s
  | .shutterTimerExpiry now => Sys2Proof.Machine.execShutterTimerExpiry now s
  | .sclActive now => Sys2Proof.Machine.execSclActive now s
  | .sclInactive now => Sys2Proof.Machine.execSclInactive now s
  | .sopActive now => Sys2Proof.Machine.execSopActive now s
  | .beaconTimerExpiry now => Sys2Proof.Machine.execBeaconTimerExpiry now s
  | .loopTestDone now readBack => Sys2Proof.Machine.execLoopTestDone now readBack s
  | .huntStartTimed now low char stop => Sys2Proof.Machine.execHuntStartTimed now low char stop s
  | .silentLineFallback now => Sys2Proof.Machine.execSilentLineFallback now s
  | .unreadableLineFallback now => Sys2Proof.Machine.execUnreadableLineFallback now s
  | .framingError now => Sys2Proof.Machine.execFramingError now s
  | .frameGapAbort now => Sys2Proof.Machine.execFrameGapAbort now s
  | .frameReceived now => Sys2Proof.Machine.execFrameReceived now s
  | .stats now src clear => Sys2Proof.Machine.execStats now src clear s
  | .txAttemptStart now => Sys2Proof.Machine.execTxAttemptStart now s
  | .frameSent now => Sys2Proof.Machine.execFrameSent now s
  | .collision now => Sys2Proof.Machine.execCollision now s
  | .bothPhasesChanged now axis => Sys2Proof.Machine.execBothPhasesChanged now axis s
  | .finReadActive now => Sys2Proof.Machine.execFinReadActive now s
  | .prkInputChange now active => Sys2Proof.Machine.execPrkInputChange now active s
  | .lrxFallingEdge now => Sys2Proof.Machine.execLrxFallingEdge now s
  | .characterReceived now char => Sys2Proof.Machine.execCharacterReceived now char s
  | .huntRearm now => Sys2Proof.Machine.execHuntRearm now s
  | .powerOff => Sys2Proof.Machine.execPowerOff s

end Sys2Proof.Machine
end

