-- ==== Sys2Proof/Safety.lean ====
section
/-! DEFINITION. What counts as a safe station, in the terms the claims use: the bounds of its queues, the EMPTY count, the
record memory's form, the crane held still where R54 holds its outputs; and what it means that a state waits for its next
command. -/

namespace Sys2Proof.Machine

/-! ## Invariants -/

/-- No queue holds more than the spec gives it room for: 8 jobs (R28), 4 writes (R10), 4 offers (R119), 8 general entries
(R197), 6 received frames (R196). -/
structure Bounded (s : State) : Prop where
  jobs : s.queue.jobs.length ≤ 8
  writes : s.dir.writeList.length ≤ 4
  offers : s.offers.entries.length ≤ 4
  general : s.line.general.length ≤ 8
  received : s.line.rxQueue.length ≤ 6

/-- The EMPTY count equals the number of EMPTY records (R3). -/
def EmptyCounted (s : State) : Prop := s.dir.emptyCount = countEmpty s.dir.records

/-- The known bytes of the record memory stand in canonical form. -/
def MemoryOrdered (s : State) : Prop := Memory.wf s.memory = true

/-- The directory holds no record or all of them, and none in START (R16, R18). -/
structure RecordsWhole (s : State) : Prop where
  all : s.dir.records = [] ∨ ∃ c, s.config = some c ∧ s.dir.records.length = Config.capacity c
  start : s.station = .start → s.dir.records = []

/-- The numbers of the jobs in the queue are all different and lie in 0..255, as the counter does (R24). -/
structure Numbered (s : State) : Prop where
  room : s.queue.jobs.length ≤ 8
  counter : s.queue.counter ≤ 255
  byte : ∀ j ∈ s.queue.jobs, j.num ≤ 255
  distinct : (s.queue.jobs.map (·.num)).Nodup

/-- The position counts, home counts, steps and the re-offer tag counter lie in their ranges (R41, R42, R46, R85). -/
structure Ranged (s : State) : Prop where
  home : ∀ c, s.config = some c → c.travel.home ≤ 65535 ∧ c.lift.home ≤ 65535
  count : s.crane.travel.count ≤ 65535 ∧ s.crane.lift.count ≤ 65535
  step : s.crane.travel.step ≤ 3 ∧ s.crane.lift.step ≤ 3
  tag : s.front.reofferTag ≤ 255

/-- An axis neither driven, nor about to be, nor in a move. -/
structure Axis.Quiet (a : Axis) : Prop where
  duty : a.duty = 0
  next : a.nextDuty = none
  move : a.move = .none

/-- The crane under R54: stopped wherever its outputs are held at zero, and still while stopped. The other fields rule out
states no run reaches: a fire outside SHUTDOWN, START and HALTED (R176), a homing or clearing move outside its mode (R58). -/
structure CraneHeld (s : State) : Prop where
  fire : s.fire.state ≠ .calm → s.station = .shutdown ∨ s.station = .start ∨ s.station = .halted
  stopped : s.outputsHeld = true → s.crane.mode = .stopped
  still : s.crane.mode = .stopped → s.crane.travel.Quiet ∧ s.crane.lift.Quiet ∧ s.crane.step = none
  homing : s.crane.homing.isSome = true → s.crane.mode = .homing
  homes : s.crane.mode = .homing → s.station = .homing
  clearing : s.crane.clearing.isSome = true → s.crane.mode = .clearing
  clears : s.crane.mode = .clearing → s.fire.state = .clearing ∧ s.crane.step = none

/-- Both speed outputs are zero wherever R54 holds them so. -/
def OutputsHeldZero (s : State) : Prop := s.outputsHeld = true → s.outputs.tspDuty = 0 ∧ s.outputs.vspDuty = 0

/-! ## Waiting for the next command -/

/-- Nothing follows from the state without a further event: no held step, owed or unbegun write, no step, stop, homing or
clearing move about to go on, no fire transition due, no record to serve and no job to start. -/
structure AtRest (s : State) : Prop where
  held : s.crane.held = none
  owed : s.dir.firstOwed = none
  writes : s.dir.writeList = [] ∨ s.dir.port ≠ .idle
  step : s.crane.step = none
  mode : s.crane.mode ≠ .step ∧ s.crane.mode ≠ .stopping
  front : s.crane.homing ≠ some .front
  clearing : s.crane.clearing = none
  halting : s.fire.state = .halting → s.crane.mode ≠ .stopped
  scl : s.fire.state = .sealing ∨ s.fire.state = .breached → s.fire.scl = false
  reopening : s.fire.state = .sealed ∨ s.fire.state = .breached → s.fire.allClear = false ∨ s.finSettledNow = false
  sop : s.fire.state = .reopening → s.sensors.sop = false
  record : s.inService = true → s.faults.suspension = none
  active : s.inService = true → ∀ j ∈ s.queue.jobs, j.stage ≠ .toPick ∧ j.stage ≠ .toPlace
  eligible : s.inService = true → s.activeJob = none → ∀ j ∈ s.queue.jobs, s.eligible j = false

/-- The consequences of `t` end in `u`, well within what one command may set off (log 11). -/
def SettlesTo (t u : State) : Prop := ∃ n, n ≤ 32 ∧ settleWith n t = u ∧ progress u = none

/-! ## A frame on its way to its block (R196) -/

/-- `b` is the station as it hands the frame of a row to its block, found in `a`: with the receive queue empty the frame
is accepted now, otherwise it is the oldest queued and leaves the queue. -/
structure Handed (c : Config) (f : RxFrame) (a b : State) : Prop where
  cfg : a.cfg = some c
  format : frameOk c.carriers f = true
  way : (a.line.rxQueue = [] ∧ a.line.mode = .locked ∧ b = a)
    ∨ ∃ rest, a.line.rxQueue = f :: rest ∧ b = { a with line := { a.line with rxQueue := rest } }

/-! ## A frame put on the transmit queue (R197) -/

/-- `b` with one more general entry at the end: a frame just queued, never tried, no backoff. -/
def Queued (body : TxBody) (dest : Dest) (b : State) : State :=
  { b with line := { b.line with
      general := b.line.general ++ [newEntry b.line.nextOrder body dest none]
      nextOrder := b.line.nextOrder + 1 } }

/-! ## Moves begun and ended (R45, R66) -/

/-- `y` is the axis `x` with a move to `goal` taken under cap 3: within the window it completes at once (R45), otherwise the axis
is driven toward the goal at the highest step whose threshold the distance reaches, its stall time begun (R49). That duty,
direction and stall time hold at once is the model's reading of R46 (log 12). -/
def Axis.Begins (ac : AxisConfig) (clock window goal : Nat) (x y : Axis) : Prop :=
  (dist goal x.count ≤ window ∧ y = { x with reversals := 0 })
    ∨ (window < dist goal x.count ∧ ∃ k, k ≤ 3 ∧ (k = 0 ∨ stepValue ac.threshold k ≤ dist goal x.count)
      ∧ (∀ m, k < m → m ≤ 3 → dist goal x.count < stepValue ac.threshold m)
      ∧ y = { x with
          move := .driving, target := some goal, cap := 3, reversals := 0, firstMark := true, step := k
          duty := stepValue ac.duty k, nextDuty := none, brake := false
          stall := some (clock + 1000 * stepValue ac.stall k)
          dir := some (if x.count ≤ goal then .up else .down)
          outDir := (if x.count ≤ goal then .up else .down) })

/-- The axis brought down by a move end (R66): driven, it takes duty zero at the next duty period; otherwise it is at rest. -/
def Axis.movedOut (x : Axis) : Axis :=
  if x.duty = 0 then
    { x with move := .none, target := none, dir := none, stall := none, nextDuty := none, brake := true }
  else { x with move := .none, target := none, dir := none, step := 0, nextDuty := some 0 }

/-- The crane as the move end of a job failed in TO_PICK leaves it (R66). -/
def Crane.movedOut (c : Crane) : Crane :=
  { c with travel := c.travel.movedOut, lift := c.lift.movedOut, step := none, named := none }

/-! ## The duplicate mark (R8, R117, R121) -/

/-- `m` is `b` with the bin's slot blocked at place `i`: BLOCKED DUPLICATE with its bin kept, the write on the list, or owed when
the list is full, and DIRECTORY raised. -/
def Blocks (c : Config) (i : Nat) (r : SlotRec) (b m : State) : Prop :=
  b.dir.hasPending (slotAt c i) = false ∧ ∃ owed writes,
    ((b.dir.writeList.length < 4 ∧ owed = false
        ∧ writes = b.dir.writeList ++ [⟨slotAt c i, ⟨.blocked .duplicate, r.bin⟩, none, 0⟩])
      ∨ (4 ≤ b.dir.writeList.length ∧ owed = true ∧ writes = b.dir.writeList))
    ∧ m = recordFault .directory { b with dir := { b.dir with
        records := setAt i { r with state := .blocked .duplicate, owed := owed } b.dir.records, writeList := writes } }

/-- `m` is `b` with the bin marked: a HELD record no job names is blocked; the OUTBOUND record of a FETCH in WAITING or TO_PICK is
blocked and its FETCH fails DUPLICATE, a move in TO_PICK ended. -/
def DuplicateMarked (c : Config) (bin : Nat) (b m : State) : Prop :=
  ∃ i r, b.dir.lookup bin = some i ∧ getAt i b.dir.records = some r
    ∧ ((r.state = .held ∧ b.jobOfBin bin = none ∧ Blocks c i r b m)
      ∨ ∃ j x, r.state = .outbound ∧ b.jobOfBin bin = some j ∧ b.job j.num = some j ∧ j.kind = .fetch
        ∧ j.slot = some (slotAt c i) ∧ namesRecord c (slotAt c i) = true ∧ slotIndex c (slotAt c i) = i
        ∧ b.crane.held = none ∧ b.line.general.length < 8 ∧ (∀ e ∈ b.offers.entries, e.job ≠ some j.num)
        ∧ (j.stage = .waiting ∨ (j.stage = .toPick ∧ b.crane.mode = .step)) ∧ Blocks c i r b x
        ∧ m = { Queued (.failed bin j.tag .duplicate) (.station j.requester) x with
            queue := { b.queue with jobs := b.queue.jobs.filter (fun k => k.num != j.num) }
            crane := if j.stage = .toPick then b.crane.movedOut else b.crane })

/-! ## Fire triggers (R141) -/

/-- FIN_ACTIVE at a moment at which FIN has been active without a break for 100 ms, not taken before (R140). -/
def FinTriggers (now : Now) (a : State) (i : Instr) : Prop :=
  i = .finActive now ∧ a.fire.fin = true ∧ a.fire.filtered = false ∧ ∃ t0, a.fire.finRun = some t0 ∧ t0 + 100000 ≤ a.clock

/-- An ALARM that names the zone or is flagged for all zones. -/
def AlarmTriggers (now : Now) (a : State) (i : Instr) : Prop :=
  ∃ src mask cause c, i = .alarm now src mask cause ∧ a.cfg = some c ∧ a.line.mode = .locked
    ∧ frameOk c.carriers ⟨src, .alarm mask cause⟩ = true ∧ (mask.testBit c.zone = true ∨ cause.testBit 7 = true)

/-! ## Severe faults raised by one row (R42, R43, R49, R51, R53, R54, R63) -/

/-- The row `i` raises the severe fault `f` at its moment. -/
def RaisesSevere (now : Now) (a : State) (i : Instr) (f : FaultName) : Prop :=
  (∃ axis, i = .bothPhasesChanged now axis ∧ f = .encoder)
    ∨ (∃ w, i = .endLimitSwitch now w ∧ f = .limit)
    ∨ (∃ axis due, i = .stallExpiry now axis ∧ f = .stall ∧ (a.axis axis).stall = some due ∧ due ≤ a.clock ∧ (a.axis axis).duty ≠ 0)
    ∨ (i = .drdyInactive now ∧ f = .drive ∧ (a.crane.travel.duty ≠ 0 ∨ a.crane.lift.duty ≠ 0))
    ∨ (i = .fkcLost now ∧ f = .forkJam ∧ (a.crane.fork = none ∨ a.crane.fork = some .retract))
    ∨ (∃ due, i = .forkTimerExpiry now ∧ f = .forkTimeout ∧ a.crane.fork ≠ none ∧ a.crane.forkTimer = some due ∧ due ≤ a.clock)
    ∨ (i = .binLost now ∧ f = .binLost ∧ a.crane.carry = true)

/-! ## FAULTED (R164) -/

/-- The station is in FAULTED by a fault: in both sets, the crane stopped with its outputs at zero, the fork off, both axes
unhomed, no offer open. -/
structure InFaulted (f : FaultName) (t : State) : Prop where
  station : t.station = .faulted
  current : inSet t.faults.current f = true
  accrued : inSet t.faults.accrued f = true
  mode : t.crane.mode = .stopped
  travel : t.crane.travel.Quiet ∧ t.crane.travel.brake = true ∧ t.crane.travel.homed = false
  lift : t.crane.lift.Quiet ∧ t.crane.lift.brake = true ∧ t.crane.lift.homed = false
  fork : t.crane.fork = none ∧ t.crane.step = none ∧ t.crane.homing = none ∧ t.crane.homeTimer = none
  offers : t.offers.entries = []

/-- What entering FAULTED leaves alone: position counts, the loop and the pushers, the fire unit, the receiver, the
configuration, the key, the clock. -/
structure KeptByFault (s t : State) : Prop where
  travel : t.crane.travel.count = s.crane.travel.count
  lift : t.crane.lift.count = s.crane.lift.count
  front : t.front = s.front
  fire : t.fire = s.fire
  config : t.config = s.config
  key : t.prk = s.prk ∧ t.prkArmed = s.prkArmed ∧ t.prkRun = s.prkRun
  clock : t.clock = s.clock
  receiver : t.line.mode = s.line.mode ∧ t.line.rate = s.line.rate ∧ t.line.rx = s.line.rx ∧ t.line.rxBuf = s.line.rxBuf
    ∧ t.line.rxQueue = s.line.rxQueue ∧ t.line.attempt = s.line.attempt ∧ t.line.backoffGen = s.line.backoffGen
  pending : t.pending = s.pending

/-! ## HALTED (R184) -/

/-- `t` is the station `a` halted: what R184 stops, and what it keeps. -/
structure Halts (a t : State) : Prop where
  station : t.station = .halted
  crane : t.crane.mode = .stopped ∧ t.crane.travel.Quiet ∧ t.crane.lift.Quiet
  outputs : t.outputs.tspDuty = 0 ∧ t.outputs.vspDuty = 0 ∧ t.outputs.pin = false ∧ t.outputs.pou = false
  line : t.line.mode = .off ∧ t.line.rxQueue = [] ∧ t.line.general = [] ∧ t.line.reserved = none ∧ t.line.attempt = none
  counters : t.line.counters = a.line.counters
  beacon : t.faults.beacon = none
  port : t.dir.port = .idle ∧ t.dir.writeList = a.dir.writeList ∧ t.dir.records = a.dir.records
  front : t.front.action = none ∧ t.front.view = a.front.view ∧ t.front.owner = a.front.owner
  offers : t.offers.entries = []
  jobs : t.queue.jobs = a.queue.jobs ∧ t.queue.held = []
  faults : t.faults.current = a.faults.current ∧ t.faults.accrued = a.faults.accrued
    ∧ t.faults.suspension = a.faults.suspension
  fire : t.fire = a.fire
  config : t.config = a.config

end Sys2Proof.Machine
end

