-- ==== Sys2Proof/Certificates/Slice0/Obligations.lean ====
section
/-! DEFINITION. The statements for the provers. A command is judged at its moment: `s.arrive now` is the station as it
finds it, the clock advanced and the inputs read (logs 1, 3). That a timed row before its time, or a row whose event cannot
be, changes nothing is the model's choice (log 2). -/

open Sys2Proof Sys2Proof.Machine

/-! ## The queue of commands, supply and reset -/

/-- The step takes the command at the front of the queue and runs it with the queue's rest; on an empty queue the block
idles (log 4). -/
def Obligations.StepRunsFrontCommand : Prop :=
  (∀ (c : Instr) (rest : List Instr) (s : State), s.pending = c :: rest → step s = exec c { s with pending := rest })
    ∧ ∀ s : State, s.pending = [] → step s = .next s

/-- Every command completes and leaves the commands behind it as they stand: no command faults or is refused. -/
def Obligations.CommandsCompleteAndKeepQueue : Prop :=
  ∀ (c : Instr) (s : State), ∃ t, exec c s = .next t ∧ t.pending = s.pending

/-- POWER_ON (R177): START with every block at its power-on values, the occupancies, FIN, SCL, PRK, the encoder pairs and the other
levels as the pins read, the record memory kept. That PRK read inactive arms the key is log 7; that a POWER_ON over a powered station
restarts it in the same way, which no rule gives, is log 8. POWER_OFF and NRST_ACTIVE (R177): every output off, all state lost but
the record memory and the waiting commands; from then on no command but the supply's changes anything (log 8). -/
def Obligations.SupplyIsFollowed : Prop :=
  (∀ (pins : PowerPins) (s : State), ∃ t, exec (.powerOn pins) s = .next t
      ∧ t.powered = true ∧ t.station = .start ∧ t.config = none
      ∧ t.dir.records = [] ∧ t.dir.emptyCount = 0 ∧ t.dir.writeList = [] ∧ t.dir.port = .idle
      ∧ t.queue.jobs = [] ∧ t.queue.counter = 0 ∧ t.queue.held = []
      ∧ (∀ a : AxisName, (t.axis a).count = 0 ∧ (t.axis a).homed = false ∧ (t.axis a).move = .none ∧ (t.axis a).target = none
          ∧ (t.axis a).dir = none ∧ (t.axis a).step = 0 ∧ (t.axis a).cap = 3 ∧ (t.axis a).reversals = 0
          ∧ (t.axis a).stall = none ∧ (t.axis a).lastRise = none ∧ (t.axis a).firstMark = true ∧ (t.axis a).duty = 0
          ∧ (t.axis a).brake = true)
      ∧ t.crane.mode = .idle ∧ t.crane.fork = none ∧ t.crane.forkTimer = none
      ∧ t.front.intake = pins.mpi ∧ t.front.dispatch = pins.mpo ∧ t.front.owner = .none ∧ t.front.action = none
      ∧ t.front.index = 0 ∧ t.front.indexValid = false ∧ t.front.period = none ∧ t.front.discard = false
      ∧ t.front.stopped = false ∧ t.front.stopEdges = 0 ∧ t.front.reofferTag = 0 ∧ t.front.slips = 0 ∧ t.front.corrections = 0
      ∧ t.offers.entries = []
      ∧ t.fire.state = .calm ∧ t.fire.allClear = false ∧ t.fire.filtered = false ∧ t.fire.alarmTimer = none
      ∧ t.fire.deadline = none ∧ t.fire.shutter = none ∧ t.fire.forced = false ∧ t.fire.rehome = false
      ∧ t.fire.recordMark = false ∧ t.fire.parked = false ∧ t.fire.startPoint = .none
      ∧ t.faults.current = 0 ∧ t.faults.accrued = 0 ∧ t.faults.reported = 0 ∧ t.faults.suspension = none ∧ t.primary = none
      ∧ t.line.mode = .off ∧ t.line.rate = none ∧ t.line.rxQueue = [] ∧ t.line.general = [] ∧ t.line.reserved = none
      ∧ t.line.counters = LineCounters.reset ∧ t.line.tally = [] ∧ t.line.backoffGen = 1
      ∧ t.sensors = pins.sensors ∧ t.prk = pins.prk ∧ t.prkArmed = !pins.prk ∧ t.prkRun = none
      ∧ t.fire.fin = pins.fin ∧ t.fire.finRun = (if pins.fin = true then some 0 else none) ∧ t.fire.scl = pins.scl
      ∧ t.crane.travel.phaseA = pins.ta ∧ t.crane.travel.phaseB = pins.tb
      ∧ t.crane.lift.phaseA = pins.va ∧ t.crane.lift.phaseB = pins.vb
      ∧ t.memory = s.memory ∧ t.pending = s.pending)
    ∧ (∀ s : State, ∃ t, exec .powerOff s = .next t ∧ exec .nrstActive s = .next t
        ∧ t = { State.reset with powered := false, memory := s.memory, pending := s.pending }
        ∧ t.outputs.tspDuty = 0 ∧ t.outputs.vspDuty = 0 ∧ t.outputs.tbk = false ∧ t.outputs.vbk = false
        ∧ t.outputs.fxl = false ∧ t.outputs.fxr = false ∧ t.outputs.frt = false ∧ t.outputs.pin = false ∧ t.outputs.pou = false
        ∧ t.outputs.shc = false ∧ t.outputs.sho = false ∧ t.outputs.seo = false ∧ t.outputs.lde = false)
    ∧ ∀ (c : Instr) (s : State), s.powered = false → (∀ pins, c ≠ .powerOn pins) → c ≠ .powerOff → c ≠ .nrstActive →
      exec c s = .next s

/-! ## Start, memory port, key -/

/-- CONFIG_READ (R178): in START and CALM a valid record is held, the backoff generator takes the address (R187), tracking
begins (R68), and the directory's load begins. An invalid record, or a read with no answer for 20 ms (R16, R178, R184), halts the
station: outputs at zero, the line not used and its queues emptied, no beacon, no offer, no action; jobs, records, fault
sets, counters and the configuration stay. That START's 20 ms run from power-on is the model's reading (log 10), and so is that a
record of another length than 116 is invalid (log 39). -/
def Obligations.StartReadsAreJudged : Prop :=
  ∀ (now : Now) (record : List Byte) (s a : State), a = s.arrive now → s.powered = true → a.fire.state = .calm →
    (∀ c, a.station = .start → AtRest a → readConfig record = some c →
      exec (.configRead now record) s = .next
        { a with
          memory := Memory.setAll 0 record a.memory
          station := .loading
          config := some c
          line := { a.line with backoffGen := BitVec.ofNat 16 c.address }
          front := { a.front with view := List.replicate c.carriers .unknown, stopTimer := some (a.clock + 5000000) }
          dir := { a.dir with records := [], emptyCount := 0, writeList := [], port := .reading, portSince := a.clock,
                              attempt := 0, staging := [] } })
    ∧ (CraneHeld a →
      (a.station = .start → readConfig record = none → ∃ t, exec (.configRead now record) s = .next t ∧ Halts a t)
      ∧ (a.station = .start → 20000 ≤ a.clock → ∃ t, exec (.memoryReadTimeout now) s = .next t ∧ Halts a t)
      ∧ (a.station = .loading → a.dir.port = .reading → a.dir.portSince + 20000 ≤ a.clock →
          ∃ t, exec (.memoryReadTimeout now) s = .next t ∧ Halts a t))

/-- IMAGE_RECORD_READ (R16, R17, R19, R20, R181, R182): a record that is not the last is taken as it stands, or as CORRUPT and
write-owed, the directory holding none yet. The last of a first load, all records lasting codes that fit their bins and no bin
held twice, gives the directory its records in the order read with their EMPTY count; the acquisition begins. Every HELD record of a bin held
twice becomes BLOCKED DUPLICATE and DIRECTORY is raised. The last of a reload is followed by the kept job: a FETCH's bin off its
slot leaves it EMPTY, a STORE in COMMITTING has it HELD, another STORE has its EMPTY slot INBOUND again; the station then homes. -/
def Obligations.ImageRecordsMakeDirectory : Prop :=
  ∀ (now : Now) (b0 b1 b2 b3 : Byte) (c : Config) (bin : Nat) (r : SlotRec) (s a : State), a = s.arrive now → s.powered = true →
    a.config = some c → a.station = .loading → a.dir.port = .reading →
    bin = b1.toNat * 65536 + b2.toNat * 256 + b3.toNat →
    r = (match slotStateOf b0.toNat with
      | some st => if imageFits st bin then { state := st, bin := bin, owed := false }
                   else { state := .blocked .corrupt, bin := bin, owed := true }
      | none => { state := .blocked .corrupt, bin := bin, owed := true }) →
    (a.dir.staging.length + 1 < Config.capacity c →
      exec (.imageRecordRead now b0 b1 b2 b3) s = .next
        { a with
          memory := Memory.setAll (128 + 4 * a.dir.staging.length) [b0, b1, b2, b3] a.memory
          dir := { a.dir with portSince := a.clock, staging := a.dir.staging ++ [r] } })
    ∧ (∀ rs, AtRest a → a.dir.staging.length + 1 = Config.capacity c → rs = a.dir.staging ++ [r] →
      (∀ r ∈ rs, r.owed = false) → (∀ r ∈ rs, r.state = .held → heldTwice r.bin rs = false) →
      a.dir.writeList = [] → a.queue.jobs = [] → a.line.everLocked = false → a.line.mode = .off →
      exec (.imageRecordRead now b0 b1 b2 b3) s = .next
        { a with
          memory := Memory.setAll (128 + 4 * a.dir.staging.length) [b0, b1, b2, b3] a.memory
          station := .acquiring
          line := { a.line with mode := .loopTest }
          dir := { a.dir with
            records := rs
            emptyCount := (rs.filter (fun r => r.state == .empty)).length
            port := .idle
            portSince := a.clock
            staging := [] } })
    ∧ (∀ rs, AtRest a → a.dir.staging.length + 1 = Config.capacity c → rs = a.dir.staging ++ [r] →
      (∃ q ∈ rs, q.state = .held ∧ heldTwice q.bin rs = true) →
      a.dir.writeList = [] → a.queue.jobs = [] → a.line.everLocked = false → a.line.mode = .off →
      ∃ t, exec (.imageRecordRead now b0 b1 b2 b3) s = .next t ∧ t.station = .acquiring ∧ t.line.mode = .loopTest
        ∧ inSet t.faults.current .directory = true ∧ inSet t.faults.accrued .directory = true
        ∧ t.dir.records.length = rs.length
        ∧ ∀ k q, getAt k rs = some q → ∃ p, getAt k t.dir.records = some p ∧ p.bin = q.bin
          ∧ p.state = (if q.state = .held ∧ heldTwice q.bin rs = true then .blocked .duplicate else q.state))
    ∧ ∀ rs j ad i q q', a.dir.staging.length + 1 = Config.capacity c → rs = a.dir.staging ++ [r] →
      (∀ r ∈ rs, r.owed = false) → (∀ r ∈ rs, r.state = .held → heldTwice r.bin rs = false) →
      a.dir.writeList = [] → a.line.everLocked = true → a.fire.state = .calm → hasSevere a.faults.current = false →
      a.crane.held = none → a.crane.clearing = none → a.sensors.fkc = true → a.sensors.drdy = true → anyLimit a.sensors = false →
      a.queue.jobs = [j] → j.slot = some ad → namesRecord c ad = true → slotIndex c ad = i → getAt i rs = some q →
      (∀ k p, k ≠ i → getAt k rs = some p → p.state = .held → p.bin ≠ j.bin) →
      (j.kind = .fetch ∧ (j.stage = .toPlace ∨ j.stage = .placing ∨ j.stage = .dispatching) ∧ q' = ⟨.empty, 0, false⟩)
        ∨ (j.kind = .store ∧ j.stage = .committing ∧ q' = ⟨.held, j.bin, false⟩)
        ∨ (j.kind = .store ∧ j.stage ≠ .committing ∧ q.state = .empty ∧ q' = ⟨.inbound, j.bin, false⟩) →
      ∃ t, exec (.imageRecordRead now b0 b1 b2 b3) s = .next t ∧ t.station = .homing ∧ t.crane.mode = .homing
        ∧ t.crane.travel.homed = false ∧ t.crane.lift.homed = false ∧ t.dir.records = setAt i q' rs ∧ t.queue.jobs = [j]

/-- PRK_INPUT_CHANGE (R185): reading inactive arms the key and breaks a run, reading active begins one; and a KEY_TURN taken
outside FAULTED is used up and changes nothing else; one that cannot be changes nothing (log 2). KEY_TURN in FAULTED (R185): the
current set is cleared. With MEMORY in it, or no records held, the directory is reloaded from its first record (R19); jobs, counter,
record, front, fire, accrued and reported sets and line counters stay. Otherwise the station enters HOMING (R55, R56) with both axes
unhomed and the lift driven down at creep toward its switch; that its duty, direction and stall time hold at once is the model's
reading of R46 (log 12). With an end limit switch active, or the fork off centre, homing ends before it drives: LIMIT, HOME or both are
raised and FAULTED is entered again, the record and the position counts kept. -/
def Obligations.KeyIsFollowed : Prop :=
  ∀ (now : Now) (since : Nat) (s a : State), a = s.arrive now → s.powered = true →
    exec (.prkInputChange now false) s = .next { a with prk := false, prkArmed := true, prkRun := none }
    ∧ (a.prk = false → exec (.prkInputChange now true) s = .next { a with prk := true, prkRun := some a.clock })
    ∧ (a.prk = true → exec (.prkInputChange now true) s = .next a)
    ∧ (a.prk = false ∨ a.prkArmed = false → exec (.keyTurn now) s = .next a)
    ∧ (a.prk = true → a.prkArmed = true → a.prkRun = some since → since + 50000 ≤ a.clock →
      (a.station ≠ .faulted → exec (.keyTurn now) s = .next { a with prkArmed := false })
      ∧ (a.station = .faulted → CraneHeld a → inSet a.faults.current .memory = true ∨ a.dir.records = [] →
        ∃ t, exec (.keyTurn now) s = .next t ∧ t.station = .loading ∧ t.prkArmed = false
          ∧ t.faults.current = 0 ∧ t.primary = none
          ∧ t.faults.accrued = a.faults.accrued ∧ t.faults.reported = a.faults.reported ∧ t.faults.suspension = a.faults.suspension
          ∧ t.faults.beacon = a.faults.beacon ∧ t.offers.entries = []
          ∧ t.dir.records = [] ∧ t.dir.emptyCount = 0 ∧ t.dir.writeList = [] ∧ t.dir.port = .reading ∧ t.dir.staging = []
          ∧ t.queue = a.queue ∧ t.front = a.front ∧ t.fire = a.fire ∧ t.crane = a.crane ∧ t.memory = a.memory
          ∧ t.line.counters = a.line.counters ∧ t.line.rxQueue = a.line.rxQueue ∧ t.config = a.config ∧ t.clock = a.clock)
      ∧ (∀ c, a.station = .faulted → CraneHeld a → a.config = some c → inSet a.faults.current .memory = false → a.dir.records ≠ [] →
        a.crane.held = none → a.sensors.fkc = false ∨ anyLimit a.sensors = true →
        ∃ t, exec (.keyTurn now) s = .next t ∧ t.prkArmed = false ∧ (a.sensors.fkc = false → InFaulted .home t)
          ∧ (anyLimit a.sensors = true → InFaulted .limit t) ∧ inSet t.faults.current .home = !a.sensors.fkc
          ∧ inSet t.faults.current .limit = anyLimit a.sensors
          ∧ t.crane.lift.count = a.crane.lift.count ∧ t.crane.travel.count = a.crane.travel.count
          ∧ t.faults.suspension = a.faults.suspension ∧ t.front = a.front ∧ t.fire = a.fire ∧ t.config = a.config)
      ∧ ∀ c, a.station = .faulted → CraneHeld a → a.config = some c → inSet a.faults.current .memory = false →
        a.dir.records ≠ [] → a.crane.held = none → a.sensors.fkc = true → a.sensors.drdy = true → a.sensors.vhs = false →
        a.sensors.tll = false → a.sensors.tlh = false → a.sensors.vll = false → a.sensors.vlh = false →
        ∃ t, exec (.keyTurn now) s = .next t ∧ t.station = .homing ∧ t.prkArmed = false ∧ t.faults.current = 0
          ∧ t.crane.mode = .homing ∧ t.crane.homing = some (.toward .lift)
          ∧ t.crane.homeTimer = some (a.clock + 1000 * c.homeLimit)
          ∧ t.crane.travel.homed = false ∧ t.crane.lift.homed = false
          ∧ t.crane.lift.duty = c.lift.duty.s0 ∧ t.crane.lift.outDir = .down ∧ t.crane.lift.brake = false
          ∧ t.crane.lift.stall = some (a.clock + 1000 * c.lift.stall.s0) ∧ t.crane.lift.firstMark = true
          ∧ t.crane.travel.duty = 0 ∧ t.crane.lift.count = a.crane.lift.count ∧ t.crane.travel.count = a.crane.travel.count
          ∧ t.faults.suspension = a.faults.suspension ∧ t.faults.accrued = a.faults.accrued
          ∧ t.front = a.front ∧ t.fire = a.fire ∧ t.offers.entries = [] ∧ t.line.counters = a.line.counters)

/-! ## The slot directory and its writes (chapter 1) -/

/-- READBACK_DONE with a match (R13, R15): the entry leaves the list and the port returns to IDLE. With no STORE waiting on
it, as many SLOTACK ACCEPTED as it carries follow; a STORE in COMMITTING at its slot sends STORED and leaves the queue. -/
def Obligations.VerifiedWriteReleases : Prop :=
  ∀ (now : Now) (b0 b1 b2 b3 : Byte) (c : Config) (e : WriteEntry) (rest : List WriteEntry) (s a b : State),
    a = s.arrive now → s.powered = true → a.cfg = some c → a.dir.port = .checking → a.dir.writeList = e :: rest →
    [b0, b1, b2, b3] = e.image.bytes →
    b = { a with
      memory := Memory.setAll (imageAddress (slotIndex c e.slot)) [b0, b1, b2, b3] a.memory
      dir := { a.dir with writeList := rest, port := .idle, attempt := 0 } } →
    (∀ t, e.job = none → a.line.general.length + e.acks ≤ 8 →
      t = { b with line := { a.line with
              general := a.line.general ++ (List.range e.acks).map (fun i => newEntry (a.line.nextOrder + i)
                (.slotack (faceCode e.slot.face) e.slot.bay e.slot.level .accepted) (.station c.maintenance) none)
              nextOrder := a.line.nextOrder + e.acks } } →
      AtRest t → exec (.readbackDone now b0 b1 b2 b3) s = .next t)
    ∧ ∀ j t, e.job = some j.num → a.job j.num = some j → j.kind = .store → j.stage = .committing → j.slot = some e.slot →
      e.acks = 0 → a.line.general.length < 8 →
      t = { Queued (.stored j.bin j.tag e.slot) (.station j.requester) b with
              queue := { a.queue with jobs := a.queue.jobs.filter (fun k => k.num != j.num) } } →
      AtRest t → exec (.readbackDone now b0 b1 b2 b3) s = .next t

/-- WRITE_DONE_REPORT begins the readback; a failed first attempt, by mismatch or no report within 20 ms, begins a second with
the same image (R13), what stands in the slot's image record then being unknown (log 9). A failed second attempt in RUN or HOMING
(R13, R14): MEMORY is raised and the station enters FAULTED; the entry leaves the list; the STORE in COMMITTING at its slot, its
pull's action ended, fails STATION_FAULT and leaves the queue. -/
def Obligations.WriteIsTriedTwice : Prop :=
  ∀ (now : Now) (b0 b1 b2 b3 : Byte) (c : Config) (e : WriteEntry) (s a : State), a = s.arrive now → s.powered = true →
    exec (.writeDoneReport now) s = .next (if a.dir.port = .writing then { a with dir := { a.dir with port := .checking } } else a)
    ∧ (∀ rest t, a.cfg = some c → a.dir.writeList = e :: rest → a.dir.attempt = 1 →
      t = { a with
        memory := Memory.dropAll (imageAddress (slotIndex c e.slot)) 4 a.memory
        dir := { a.dir with port := .writing, portSince := a.clock, attempt := 2 } } →
      AtRest t →
      (a.dir.port = .writing → a.dir.portSince + 20000 ≤ a.clock → exec (.writeTimeout now) s = .next t)
      ∧ (a.dir.port = .checking → [b0, b1, b2, b3] ≠ e.image.bytes → Memory.wf a.memory = true →
          exec (.readbackDone now b0 b1 b2 b3) s = .next t))
    ∧ ∀ j, a.cfg = some c → a.dir.writeList = [e] → a.dir.attempt = 2 → a.station = .run ∨ a.station = .homing →
      CraneHeld a → a.crane.mode ≠ .stopped → a.dir.firstOwed = none → a.crane.held = none → a.queue.jobs = [j] →
      e.job = some j.num → j.kind = .store → j.stage = .committing → j.slot = some e.slot → a.slotIs e.slot .held = true →
      a.line.general.length < 8 → a.front.pulling j.num = false →
      ∀ i : Instr, (i = .writeTimeout now ∧ a.dir.port = .writing ∧ a.dir.portSince + 20000 ≤ a.clock)
          ∨ (i = .readbackDone now b0 b1 b2 b3 ∧ a.dir.port = .checking ∧ [b0, b1, b2, b3] ≠ e.image.bytes) →
        ∃ t, exec i s = .next t ∧ InFaulted .memory t ∧ KeptByFault a t ∧ t.dir.writeList = [] ∧ t.dir.port = .idle
          ∧ t.dir.records = a.dir.records ∧ t.queue.jobs = []
          ∧ ∃ x ∈ t.line.general, x.body = .failed j.bin j.tag .stationFault ∧ x.dest = .station j.requester

/-- SLOTSET is tested in the order of R21, and the first test that fails decides the SLOTACK; a refused SLOTSET changes
nothing else. One that passes all four is accepted (R22): its record is stored as given, its write-owed mark clear, the EMPTY count
follows (R3), and a write of it carrying one SLOTACK ends the list; a pending write of the slot keeps its position instead, takes the
new image and one SLOTACK more (R11). `u` is where the consequences end (log 11). -/
def Obligations.SlotsetTestedInOrder : Prop :=
  ∀ (now : Now) (src face bay level state bin : Nat) (c : Config) (s a b : State),
    a = s.arrive now → s.powered = true → Handed c ⟨src, .slotset face bay level state bin⟩ a b →
    b.dir.records = [] ∨ b.dir.records.length = Config.capacity c →
    (src ≠ c.maintenance → exec (.slotset now src face bay level state bin) s = .next
        (send (.slotack face bay level .refusedSource) (.station c.maintenance) b))
    ∧ (src = c.maintenance →
        (¬ ∃ f st, faceOf face = some f ∧ slotStateOf state = some st ∧ namesRecord c ⟨f, bay, level⟩ = true
          ∧ imageFits st bin = true) →
        exec (.slotset now src face bay level state bin) s = .next
          (send (.slotack face bay level .refusedRange) (.station c.maintenance) b))
    ∧ ∀ (f : Face) (st : SlotState), src = c.maintenance → faceOf face = some f → slotStateOf state = some st →
        namesRecord c ⟨f, bay, level⟩ = true → imageFits st bin = true →
        ((¬ ((∃ r, b.slotRec ⟨f, bay, level⟩ = some r ∧ r.state ≠ .outbound ∧ r.state ≠ .inbound)
            ∧ (∀ e ∈ b.dir.writeList, e.slot = ⟨f, bay, level⟩ → e.job = none)
            ∧ (b.dir.writeList.length < 4 ∨ ∃ e ∈ b.dir.pendingWrites, e.slot = ⟨f, bay, level⟩))) →
          exec (.slotset now src face bay level state bin) s = .next
            (send (.slotack face bay level .refusedBusy) (.station c.maintenance) b))
        ∧ ∀ r, b.slotRec ⟨f, bay, level⟩ = some r → r.state ≠ .outbound → r.state ≠ .inbound →
          (∀ e ∈ b.dir.writeList, e.slot = ⟨f, bay, level⟩ → e.job = none) →
          b.dir.writeList.length < 4 ∨ (∃ e ∈ b.dir.pendingWrites, e.slot = ⟨f, bay, level⟩) →
          (bin ≠ 0 → ((∃ i q, i ≠ slotIndex c ⟨f, bay, level⟩ ∧ getAt i b.dir.records = some q ∧ q.state ≠ .empty ∧ q.bin = bin)
              ∨ ∃ j ∈ b.queue.jobs, j.bin = bin) →
            exec (.slotset now src face bay level state bin) s = .next
              (send (.slotack face bay level .refusedDuplicate) (.station c.maintenance) b))
          ∧ (bin = 0 ∨ ((∀ i q, i ≠ slotIndex c ⟨f, bay, level⟩ → getAt i b.dir.records = some q → q.state ≠ .empty → q.bin ≠ bin)
              ∧ ∀ j ∈ b.queue.jobs, j.bin ≠ bin) →
            ∀ (d : Directory) (u : State), d = { b.dir with
                records := setAt (slotIndex c ⟨f, bay, level⟩) ⟨st, bin, false⟩ b.dir.records
                emptyCount := b.dir.emptyCount - (if r.state = .empty then 1 else 0) + (if st = .empty then 1 else 0) } →
              ((∀ e ∈ b.dir.pendingWrites, e.slot ≠ ⟨f, bay, level⟩) →
                SettlesTo { b with dir := { d with
                  writeList := b.dir.writeList ++ [⟨⟨f, bay, level⟩, ⟨st, bin⟩, none, 1⟩] } } u →
                exec (.slotset now src face bay level state bin) s = .next u)
              ∧ ∀ under front e back, b.dir.writeList = under ++ front ++ e :: back →
                under.length = (if b.dir.port = .writing ∨ b.dir.port = .checking then 1 else 0) →
                (∀ x ∈ front, x.slot ≠ ⟨f, bay, level⟩) → e.slot = ⟨f, bay, level⟩ →
                SettlesTo { b with dir := { d with
                  writeList := under ++ front ++ { e with image := ⟨st, bin⟩, acks := e.acks + 1 } :: back } } u →
                exec (.slotset now src face bay level state bin) s = .next u)

/-! ## Calls, cancels, duplicates, promotion (chapters 2 and 6) -/

/-- A FETCH answered without a job (R104 to R106): by a job for its bin ALREADY_CALLED with the current estimate or RETURNING,
else by the lookup and the service state QUEUE_FULL or UNAVAILABLE with 65,535, or not at all; nothing else changes. That an OUTBOUND
record without a job answers UNAVAILABLE is the model's (log 20). -/
def Obligations.CallIsAnswered : Prop :=
  ∀ (now : Now) (src bin tag : Nat) (c : Config) (s a b : State),
    a = s.arrive now → s.powered = true → Handed c ⟨src, .fetch bin tag⟩ a b → b.line.general.length < 8 →
    (∀ j, b.jobOfBin bin = some j →
      (j.kind = .fetch →
        exec (.fetch now src bin tag) s = .next (Queued (.hold bin tag src .alreadyCalled (b.currentEstimate j)) .all b))
      ∧ (j.kind = .store → exec (.fetch now src bin tag) s = .next (Queued (.hold bin tag src .returning 65535) .all b)))
    ∧ (b.jobOfBin bin = none → b.dir.lookup bin = none → exec (.fetch now src bin tag) s = .next b)
    ∧ ∀ i, b.jobOfBin bin = none → b.dir.lookup bin = some i →
      (b.slotIs (slotAt c i) .held = true → b.station = .run → b.fire.state = .calm → b.queue.jobs.length = 8 →
        exec (.fetch now src bin tag) s = .next (Queued (.hold bin tag src .queueFull 65535) .all b))
      ∧ (b.slotIs (slotAt c i) .held = false ∨ b.station ≠ .run ∨ b.fire.state ≠ .calm →
        exec (.fetch now src bin tag) s = .next (Queued (.hold bin tag src .unavailable 65535) .all b))

/-- A FETCH for a HELD bin in service (R107, R24, R30, R97): the estimate first, then the job with the next number at its
place, its slot OUTBOUND with no write, and HOLD QUEUED with that estimate. -/
def Obligations.CallIsQueued : Prop :=
  ∀ (now : Now) (src bin tag i n : Nat) (c : Config) (j : Job) (r : SlotRec) (s a b t : State),
    a = s.arrive now → s.powered = true → Handed c ⟨src, .fetch bin tag⟩ a b → b.line.general.length < 8 →
    b.jobOfBin bin = none → b.dir.lookup bin = some i → namesRecord c (slotAt c i) = true → slotIndex c (slotAt c i) = i →
    getAt i b.dir.records = some r → r.state = .held → b.station = .run → b.fire.state = .calm → b.queue.jobs.length < 8 →
    n = b.queue.nextNumber →
    j = { num := n, kind := .fetch, bin := bin, slot := some (slotAt c i), requester := src, tag := tag, carrier := none,
          stage := .waiting, start := none, pulledSince := none, promoted := false, reoffer := false } →
    t = { Queued (.hold bin tag src .queued (b.holdEstimate j)) .all b with
      queue := { b.queue with jobs := placeJob j b.queue.jobs, counter := (n + 1) % 256 }
      dir := { b.dir with records := setAt i { r with state := .outbound } b.dir.records } } →
    AtRest t → exec (.fetch now src bin tag) s = .next t

/-- Selection (R28, R32 to R34, R45, R49, R50, R92): with the crane free in IDLE or STOPPED, homed and in service, no record and no
active job, the first job in WAITING that may be served stands first, enters TO_PICK with its start moment and start estimate, and the
crane begins both moves to its pick position, each at the start step of its distance, or done at once within the window. FETCHes
waiting while the dispatch position is taken or a FETCH is DISPATCHING are passed over for a STORE. So when the dispatch position goes
empty before waiting calls, and at once when a call is queued. That the duties and stall times hold at once is the model's reading of
R46 (log 12), that selection follows inside the command log 11. -/
def Obligations.JobIsSelected : Prop :=
  ∀ (now : Now) (c : Config) (j : Job) (ahead behind : List Job) (x y : Axis) (s a u t v : State),
    a = s.arrive now → s.powered = true → a.cfg = some c → u.clock = a.clock → u.cfg = some c →
    u.station = .run → u.fire.state = .calm → u.faults.suspension = none → u.queue.held = [] →
    u.crane.mode = .idle ∨ u.crane.mode = .stopped → u.crane.step = none → u.crane.held = none → u.crane.clearing = none →
    u.crane.homing = none → u.crane.travel.homed = true → u.crane.lift.homed = true → u.crane.travel.move = .none →
    u.crane.lift.move = .none → u.dir.firstOwed = none → u.dir.writeList = [] ∨ u.dir.port ≠ .idle → u.sensors.fkc = true →
    u.sensors.drdy = true → u.queue.jobs = ahead ++ j :: behind → (∀ k ∈ ahead ++ behind, k.num ≠ j.num ∧ k.active = false) →
    (∀ k ∈ ahead, k.stage = .waiting → k.kind = .fetch
      ∧ (u.front.dispatch = true ∨ ∃ q ∈ ahead ++ behind, q.kind = .fetch ∧ q.stage = .dispatching)) →
    j.stage = .waiting →
    (j.kind = .fetch → u.front.dispatch = false ∧ ∀ k ∈ ahead ++ behind, k.kind = .fetch → k.stage ≠ .dispatching) →
    Axis.Begins c.travel a.clock c.window (j.pickAt.travel c) u.crane.travel x →
    Axis.Begins c.lift a.clock c.window (c.v0 + (j.pickAt.level - 1) * c.cl) u.crane.lift y →
    t = { u with
      queue := { u.queue with
        jobs := { j with stage := .toPick, start := some ⟨u.serviceEstimate j, a.clock / 1000⟩ } :: (ahead ++ behind) }
      crane := { u.crane with
        mode := .step, named := none, step := some ⟨j.num, .movePick, j.pickAt, .moving⟩, travel := x, lift := y } } →
    SettlesTo t v →
    settle u = v
    ∧ (a.front.dispatch = true → a.front.action = none → a.front.owner = .none →
      u = { a with front := { a.front with dispatch := false } } → exec (.dispatchOccupancyChange now false) s = .next v)
    ∧ ∀ src bin tag i n r b, Handed c ⟨src, .fetch bin tag⟩ a b → b.line.general.length < 8 → b.jobOfBin bin = none →
      b.dir.lookup bin = some i → namesRecord c (slotAt c i) = true → slotIndex c (slotAt c i) = i →
      getAt i b.dir.records = some r → r.state = .held → b.queue.jobs.length < 8 → n = b.queue.nextNumber →
      j = { num := n, kind := .fetch, bin := bin, slot := some (slotAt c i), requester := src, tag := tag, carrier := none,
            stage := .waiting, start := none, pulledSince := none, promoted := false, reoffer := false } →
      u = { Queued (.hold bin tag src .queued (b.holdEstimate j)) .all b with
        queue := { b.queue with jobs := placeJob j b.queue.jobs, counter := (n + 1) % 256 }
        dir := { b.dir with records := setAt i { r with state := .outbound } b.dir.records } } →
      exec (.fetch now src bin tag) s = .next v

/-- A new FETCH stands behind the last waiting FETCH, else before the first STORE neither active nor promoted, else last; a new
STORE last (R30). -/
def Obligations.NewJobTakesItsPlace : Prop :=
  ∀ (j : Job) (jobs front back : List Job),
    (j.kind = .store → placeJob j jobs = jobs ++ [j])
    ∧ (j.kind = .fetch →
        (∀ k, jobs = front ++ k :: back → k.kind = .fetch → k.stage = .waiting →
          (∀ x ∈ back, x.kind = .fetch → x.stage ≠ .waiting) → placeJob j jobs = front ++ k :: j :: back)
        ∧ ((∀ x ∈ jobs, x.kind = .fetch → x.stage ≠ .waiting) →
            (∀ k, jobs = front ++ k :: back → k.kind = .store → k.active = false → k.promoted = false →
              (∀ x ∈ front, x.kind = .store → x.active = true ∨ x.promoted = true) → placeJob j jobs = front ++ j :: k :: back)
            ∧ ((∀ x ∈ jobs, x.kind = .store → x.active = true ∨ x.promoted = true) → placeJob j jobs = jobs ++ [j])))

/-- CANCEL (R110 to R112, R36): a match in WAITING releases the slot with no write, sends FAILED CANCELLED and removes the job; a
match in TO_PICK does so too, and its move is ended (R111, R66): each driven axis goes to zero at the next duty period, an axis that
settles ends its move, and the crane is IDLE once both outputs are zero. No match, or a match in PICKING, TO_PLACE, PLACING or
DISPATCHING, changes nothing. `u` is where the consequences end (log 11). -/
def Obligations.CancelEndsWaitingCall : Prop :=
  ∀ (now : Now) (src bin tag : Nat) (c : Config) (s a b : State),
    a = s.arrive now → s.powered = true → Handed c ⟨src, .cancel bin tag⟩ a b → b.line.general.length < 8 →
    ((∀ j ∈ b.queue.jobs, j.kind = .fetch → j.bin = bin → j.tag = tag → j.requester = src →
        j.stage ≠ .waiting ∧ j.stage ≠ .toPick) →
      exec (.cancel now src bin tag) s = .next b)
    ∧ (∀ j i r t u, b.cancelMatch src bin tag = some j → b.job j.num = some j → j.slot = some (slotAt c i) →
      namesRecord c (slotAt c i) = true → slotIndex c (slotAt c i) = i → getAt i b.dir.records = some r →
      r.state = .outbound → r.bin = bin → b.crane.held = none → (∀ e ∈ b.offers.entries, e.job ≠ some j.num) →
      t = { Queued (.failed bin tag .cancelled) (.station src) b with
        queue := { b.queue with jobs := b.queue.jobs.filter (fun k => k.num != j.num) }
        dir := { b.dir with records := setAt i { r with state := .held } b.dir.records } } →
      (j.stage = .waiting → SettlesTo t u → exec (.cancel now src bin tag) s = .next u)
      ∧ (j.stage = .toPick → b.crane.mode = .step → SettlesTo { t with crane := b.crane.movedOut } u →
          exec (.cancel now src bin tag) s = .next u))
    ∧ ∀ axis x u, x = a.axis axis → x.nextDuty = some 0 → (∀ y, y ≠ axis → (a.axis y).duty = 0) → a.crane.mode = .step →
      a.crane.step = none → a.crane.fork = none → a.crane.held = none → a.dir.firstOwed = none →
      a.dir.writeList = [] ∨ a.dir.port ≠ .idle →
      SettlesTo { a with crane := { (a.crane.onAxis axis (fun _ =>
        { x with duty := 0, nextDuty := none, brake := true, stall := none, quietSince := a.clock })) with mode := .idle } } u →
      exec (.dutyPeriodStart now axis) s = .next u

/-- A peer's HOLD (R8, R117): with QUEUED or ALREADY_CALLED a HELD record no job names becomes BLOCKED DUPLICATE with its bin
kept and its write listed, or owed with the list full (R12), and DIRECTORY is raised; so does the OUTBOUND record of a FETCH in WAITING
or TO_PICK, whose job fails DUPLICATE and leaves, a move in TO_PICK ended; with its FETCH in PICKING DIRECTORY alone is raised. The
other outcomes, a bin not here, a BLOCKED or INBOUND record, and a bin of any STORE (log 38) change nothing. `u` is where the
consequences end (log 11). -/
def Obligations.PeerHoldMarksDuplicate : Prop :=
  ∀ (now : Now) (src bin tag requester estimate : Nat) (o : HoldOutcome) (c : Config) (s a b : State),
    a = s.arrive now → s.powered = true → Handed c ⟨src, .hold bin tag requester o estimate⟩ a b →
    ((o = .queueFull ∨ o = .returning ∨ o = .unavailable ∨ b.dir.lookup bin = none
        ∨ (∃ i r, b.dir.lookup bin = some i ∧ getAt i b.dir.records = some r ∧ r.state ≠ .held ∧ r.state ≠ .outbound)
        ∨ ∃ j, b.jobOfBin bin = some j ∧ j.kind = .store) → AtRest b →
      exec (.hold now src bin tag requester o estimate) s = .next b)
    ∧ (o = .queued ∨ o = .alreadyCalled →
      (∀ m u, DuplicateMarked c bin b m → SettlesTo m u → exec (.hold now src bin tag requester o estimate) s = .next u)
      ∧ ∀ i r j u, b.dir.lookup bin = some i → getAt i b.dir.records = some r → r.state = .outbound → b.jobOfBin bin = some j →
        j.kind = .fetch → j.stage = .picking → SettlesTo (recordFault .directory b) u →
        exec (.hold now src bin tag requester o estimate) s = .next u)

/-- STORE_PROMOTION (R31): a STORE in WAITING whose patience has passed since its pull takes the mark and stands before the first
waiting FETCH ahead of it, or keeps its place; a job not yet due, promoted before or of another stage is left (log 2). -/
def Obligations.PatientStoreIsPromoted : Prop :=
  ∀ (now : Now) (c : Config) (j : Job) (ahead behind : List Job) (s a : State),
    a = s.arrive now → s.powered = true → a.cfg = some c → a.job j.num = some j → a.queue.jobs = ahead ++ j :: behind →
    (∀ x ∈ ahead, x.num ≠ j.num) → (∀ x ∈ behind, x.num ≠ j.num) →
    (∀ p, j.kind = .store → j.stage = .waiting → j.promoted = false → j.pulledSince = some p →
      c.storePatience < a.clock / 1000 - p →
      ((∀ x ∈ ahead, x.kind = .fetch → x.stage ≠ .waiting) →
        exec (.storePromotion now j.num) s = .next
          { a with queue := { a.queue with jobs := ahead ++ { j with promoted := true } :: behind } })
      ∧ ∀ l1 x l2, ahead = l1 ++ x :: l2 → x.kind = .fetch → x.stage = .waiting → (∀ y ∈ l1, y.kind = .fetch →
        y.stage ≠ .waiting) →
        exec (.storePromotion now j.num) s = .next
          { a with queue := { a.queue with jobs := l1 ++ { j with promoted := true } :: x :: (l2 ++ behind) } })
    ∧ (j.kind = .fetch ∨ j.stage ≠ .waiting ∨ j.promoted = true ∨ j.pulledSince = none
        ∨ (∃ p, j.pulledSince = some p ∧ a.clock / 1000 - p ≤ c.storePatience) →
      exec (.storePromotion now j.num) s = .next a)

/-! ## Crane axes and fork (chapter 3) -/

/-- ENCODER_EDGE on an axis at rest (R42, R43): phase A leading counts up, the reverse changes down; an unhomed axis wraps at
65,536; a pair unchanged changes nothing. Nothing else follows. -/
def Obligations.EdgeIsCounted : Prop :=
  ∀ (now : Now) (axis : AxisName) (pa pb : Bool) (x : Axis) (s a : State), a = s.arrive now → s.powered = true →
    x = a.axis axis → x.move = .none → x.duty = 0 → x.count < 65536 →
    (pa = x.phaseA → pb = x.phaseB → exec (.encoderEdge now axis pa pb) s = .next a)
    ∧ ∀ n y, y = { x with
            count := n, phaseA := pa, phaseB := pb, quietSince := a.clock
            lastRise := if x.phaseA = false ∧ pa = true then some a.clock else x.lastRise } →
        (((x.phaseA, x.phaseB), (pa, pb)) ∈ [((false, false), (true, false)), ((true, false), (true, true)),
            ((true, true), (false, true)), ((false, true), (false, false))] →
          n = (if x.count = 65535 then 0 else x.count + 1) → x.homed = false ∨ x.count < 65535 →
          exec (.encoderEdge now axis pa pb) s = .next (a.onAxis axis (fun _ => y)))
        ∧ (((pa, pb), (x.phaseA, x.phaseB)) ∈ [((false, false), (true, false)), ((true, false), (true, true)),
            ((true, true), (false, true)), ((false, true), (false, false))] →
          n = (if x.count = 0 then 65535 else x.count - 1) → x.homed = false ∨ 0 < x.count →
          exec (.encoderEdge now axis pa pb) s = .next (a.onAxis axis (fun _ => y)))

/-- An edge of phase B in DRIVING (R46, R47, R49): the distance is worked out anew, the step walks down its table, a changed duty
waits for the next duty period, the stall time starts again; at creep inside the window the output is zero at once, the brake
applied, and the move settles. -/
def Obligations.DrivingSlowsAndStops : Prop :=
  ∀ (now : Now) (axis : AxisName) (pb : Bool) (c : Config) (x : Axis) (target n k : Nat) (s a : State),
    a = s.arrive now → s.powered = true → a.cfg = some c → x = a.axis axis → x.move = .driving → x.target = some target →
    x.homed = true → 0 < x.count → x.count < 65535 → 0 < x.duty → x.step ≤ 3 → pb ≠ x.phaseB →
    n = (if x.phaseA = pb then x.count + 1 else x.count - 1) →
    k ≤ x.step → (k = 0 ∨ stepValue (Config.axis c axis).threshold k ≤ Machine.dist target n) →
    (∀ m, k < m → m ≤ x.step → Machine.dist target n < stepValue (Config.axis c axis).threshold m) →
    (0 < k ∨ c.window < Machine.dist target n →
      exec (.encoderEdge now axis x.phaseA pb) s = .next (a.onAxis axis (fun _ =>
        { x with
          count := n, phaseB := pb, quietSince := a.clock, step := k
          nextDuty := if k = x.step then x.nextDuty else some (stepValue (Config.axis c axis).duty k)
          stall := some (a.clock + 1000 * stepValue (Config.axis c axis).stall k) })))
    ∧ (k = 0 → Machine.dist target n ≤ c.window →
      exec (.encoderEdge now axis x.phaseA pb) s = .next (a.onAxis axis (fun _ =>
        { x with
          count := n, phaseB := pb, quietSince := a.clock, step := 0
          nextDuty := none, stall := none, move := .settling, duty := 0, brake := true })))

/-- An edge of phase B in SETTLING (R47, R48): a count that has passed the target by more than the window reverses at once, driven at
creep toward the target with its reversals one more and the first-period mark set; a reversal that would be the third raises POSITION
and FAULTED is entered; a count not past the window is counted alone. With DRDY inactive the drive raises DRIVE (R51); with the fork
off centre travel is not driven (R54) but ends in FORK_JAM (log 43). That the reversal's duty holds at once is log 12. -/
def Obligations.ReversalsEndInPosition : Prop :=
  ∀ (now : Now) (axis : AxisName) (pb : Bool) (c : Config) (x y : Axis) (target n : Nat) (d : Dir) (past : Prop) (s a b : State),
    a = s.arrive now → s.powered = true → a.cfg = some c → x = a.axis axis → x.move = .settling → x.target = some target →
    x.dir = some d → x.duty = 0 → 0 < x.count → x.count < 65535 → pb ≠ x.phaseB →
    n = (if x.phaseA = pb then x.count + 1 else x.count - 1) →
    (past ↔ (d = .up ∧ target + c.window < n) ∨ (d = .down ∧ n + c.window < target)) →
    y = { x with count := n, phaseB := pb, quietSince := a.clock } → b = a.onAxis axis (fun _ => y) →
    (¬ past → exec (.encoderEdge now axis x.phaseA pb) s = .next b)
    ∧ (past → x.reversals < 2 → a.axisHeld axis = false → a.sensors.drdy = true →
        exec (.encoderEdge now axis x.phaseA pb) s = .next (a.onAxis axis (fun _ =>
          { y with
            move := .driving, step := 0, duty := (Config.axis c axis).duty.s0, nextDuty := none, brake := false
            dir := some (if n ≤ target then .up else .down), outDir := (if n ≤ target then .up else .down)
            stall := some (a.clock + 1000 * (Config.axis c axis).stall.s0), reversals := x.reversals + 1, firstMark := true })))
    ∧ (past → a.station = .run ∨ a.station = .homing → CraneHeld a → a.crane.mode ≠ .stopped → a.crane.held = none →
      (2 ≤ x.reversals →
        ∃ t, exec (.encoderEdge now axis x.phaseA pb) s = .next t ∧ InFaulted .position t ∧ KeptByFault b t)
      ∧ (x.reversals < 2 → a.axisHeld axis = false → a.sensors.drdy = false →
        ∃ t, exec (.encoderEdge now axis x.phaseA pb) s = .next t ∧ InFaulted .drive t ∧ KeptByFault b t)
      ∧ (x.reversals < 2 → axis = .travel → a.sensors.fkc = false →
        ∃ t, exec (.encoderEdge now axis x.phaseA pb) s = .next t ∧ InFaulted .forkJam t ∧ KeptByFault b t))

/-- AXIS_AT_REST (R47): 20 ms without an edge, output zero. A settling move inside the window completes, one outside it drives
again at creep toward its target with its reversal count as it stands; before 20 ms nothing changes (log 2). DUTY_PERIOD_START (R46,
R64): a duty that waited takes effect; zero applies the brake and stops the stall time. Travel with the fork off centre is not
driven (R54) but, in RUN, ends in FORK_JAM (log 43). That the 20 ms run from the zero output too is log 15, that the new drive's duty
holds at once is log 12. -/
def Obligations.RestAndDutyPeriods : Prop :=
  ∀ (now : Now) (axis : AxisName) (c : Config) (x : Axis) (target : Nat) (s a : State),
    a = s.arrive now → s.powered = true → a.cfg = some c → x = a.axis axis →
    (x.move = .settling → x.target = some target → x.duty = 0 →
      (a.clock < x.quietSince + 20000 → exec (.axisAtRest now axis) s = .next a)
      ∧ (x.quietSince + 20000 ≤ a.clock → Machine.dist target x.count ≤ c.window →
          ∀ t, t = a.onAxis axis (fun _ => { x with move := .none, target := none, dir := none }) → progress t = none →
            exec (.axisAtRest now axis) s = .next t)
      ∧ (x.quietSince + 20000 ≤ a.clock → c.window < Machine.dist target x.count → a.axisHeld axis = false →
        a.sensors.drdy = true →
          exec (.axisAtRest now axis) s = .next (a.onAxis axis (fun _ =>
            { x with
              move := .driving, step := 0, duty := (Config.axis c axis).duty.s0, nextDuty := none, brake := false
              outDir := (if x.count ≤ target then .up else .down), dir := some (if x.count ≤ target then .up else .down)
              stall := some (a.clock + 1000 * (Config.axis c axis).stall.s0) })))
      ∧ (x.quietSince + 20000 ≤ a.clock → c.window < Machine.dist target x.count → axis = .travel → a.sensors.fkc = false →
          a.station = .run → CraneHeld a → a.crane.mode ≠ .stopped → a.crane.held = none →
          ∃ t, exec (.axisAtRest now axis) s = .next t ∧ InFaulted .forkJam t ∧ KeptByFault a t))
    ∧ (x.nextDuty = none → exec (.dutyPeriodStart now axis) s = .next a)
    ∧ (∀ d, 0 < d → x.nextDuty = some d →
        exec (.dutyPeriodStart now axis) s = .next (a.onAxis axis (fun _ => { x with duty := d, nextDuty := none })))
    ∧ (x.nextDuty = some 0 → ∀ t,
        t = a.onAxis axis (fun _ => { x with duty := 0, nextDuty := none, brake := true, stall := none, quietSince := a.clock }) →
        progress t = none → exec (.dutyPeriodStart now axis) s = .next t)

/-- In RUN or HOMING (R42, R43, R49 to R54, R57, R63, R162, R164): both phases changed raises ENCODER, an end limit switch LIMIT,
DRDY lost with an output driven DRIVE, FKC lost with no extend FORK_JAM, FBN lost in a carry BIN_LOST, a stall time run out with the
output driven STALL, the fork timer FORK_TIMEOUT, the home timer HOME, a homed count leaving its range LIMIT, a period below the
step's minimum OVERSPEED; each enters FAULTED. -/
def Obligations.CraneFaultsEnterFaulted : Prop :=
  ∀ (now : Now) (axis : AxisName) (w : LimitSwitch) (pb : Bool) (c : Config) (x : Axis) (s a : State), a = s.arrive now →
    s.powered = true → a.station = .run ∨ a.station = .homing → CraneHeld a → a.crane.mode ≠ .stopped → a.crane.held = none →
    x = a.axis axis →
    (∃ t, exec (.bothPhasesChanged now axis) s = .next t ∧ InFaulted .encoder t ∧ KeptByFault a t)
    ∧ (∃ t, exec (.endLimitSwitch now w) s = .next t ∧ InFaulted .limit t ∧ KeptByFault a t)
    ∧ (a.crane.travel.duty ≠ 0 ∨ a.crane.lift.duty ≠ 0 →
        ∃ t, exec (.drdyInactive now) s = .next t ∧ InFaulted .drive t ∧ KeptByFault a t)
    ∧ (a.crane.fork = none ∨ a.crane.fork = some .retract →
        ∃ t, exec (.fkcLost now) s = .next t ∧ InFaulted .forkJam t ∧ KeptByFault a t)
    ∧ (a.crane.carry = true → ∃ t, exec (.binLost now) s = .next t ∧ InFaulted .binLost t ∧ KeptByFault a t ∧ t.crane.carry = false)
    ∧ (∀ since, x.stall = some since → since ≤ a.clock → x.duty ≠ 0 →
      ∃ t, exec (.stallExpiry now axis) s = .next t ∧ InFaulted .stall t ∧ KeptByFault a t)
    ∧ (∀ since, a.crane.fork ≠ none → a.crane.forkTimer = some since → since ≤ a.clock →
      ∃ t, exec (.forkTimerExpiry now) s = .next t ∧ InFaulted .forkTimeout t ∧ KeptByFault a t)
    ∧ (∀ since, a.crane.homeTimer = some since → since ≤ a.clock →
      ∃ t, exec (.homeTimerExpiry now) s = .next t ∧ InFaulted .home t ∧ KeptByFault a t)
    ∧ (a.cfg = some c →
      (x.homed = true → (x.count = 65535 ∧ x.phaseA = pb ∨ x.count = 0 ∧ x.phaseA ≠ pb) → pb ≠ x.phaseB →
        ∃ t, exec (.encoderEdge now axis x.phaseA pb) s = .next t ∧ InFaulted .limit t ∧ KeptByFault a t)
      ∧ (∀ since, x.move = .none → 0 < x.count → x.count < 65535 → x.phaseA = false → x.lastRise = some since → x.duty ≠ 0 →
        x.firstMark = false → a.clock - since < stepValue (Config.axis c axis).minPeriod x.step → a.clock - since < 65536 →
        ∃ t, exec (.encoderEdge now axis true x.phaseB) s = .next t ∧ InFaulted .overspeed t))

/-- A fault with the bin on the fork (R145, R166, R168): the job in TO_PLACE stays, and a LADEN record holds its number, stage,
unfinished step, cause FAULT, the counts and the primary fault; that it keeps the kind of the step too, and whether homing has come
since, is the model's (log 19). The bin lost while a FETCH's verified pick waits for a place on the write list (R63): the FETCH fails
STATION_FAULT (R166); that its slot is EMPTY at once with its write owed is the model's reading of R7 and R35 (log 20). At any of these
faults the waiting work is failed STATION_FAULT, its slots HELD or EMPTY again, and the FETCHes in DISPATCHING and the STOREs in
WAITING and COMMITTING stay (R165); an active STORE not picked stays with a QUIET record, an active FETCH not picked is failed. -/
def Obligations.FaultDisposesOfJobs : Prop :=
  ∀ (now : Now) (axis : AxisName) (j : Job) (st : CraneStep) (since : Nat) (s a : State), a = s.arrive now → s.powered = true →
    a.station = .run → CraneHeld a → a.job j.num = some j → (∀ k ∈ a.queue.jobs, k.num = j.num → k = j) →
    (a.crane.mode = .step → a.crane.step = some st → st.job = j.num → j.stage = .toPlace → a.sensors.fbn = true →
        a.crane.held = none → (a.axis axis).move ≠ .none → (a.axis axis).stall = some since → since ≤ a.clock →
        (a.axis axis).duty ≠ 0 →
      ∃ t, exec (.stallExpiry now axis) s = .next t ∧ InFaulted .stall t ∧ t.job j.num = some j
        ∧ t.faults.suspension = some
            { kind := .laden, job := j.num, stage := .toPlace, done := false, cause := .fault, travel := a.crane.travel.count
              lift := a.crane.lift.count, primary := t.primary, step := st.kind, homed := false })
    ∧ (∀ i f, RaisesSevere now a i f → a.crane.mode ≠ .stopped → a.crane.held = none → a.front.action = none →
      (a.queue.jobs.map (·.num)).Nodup → a.line.general.length + a.queue.jobs.length < 8 →
      ∃ t, exec i s = .next t ∧ InFaulted f t
        ∧ (∀ k ∈ a.queue.jobs, (k.kind = .fetch ∧ k.stage = .waiting) ∨ (k.kind = .store ∧ k.stage = .awaitCarrier) →
          (∀ q ∈ t.queue.jobs, q.num ≠ k.num)
          ∧ (∃ x ∈ t.line.general, x.body = .failed k.bin k.tag .stationFault ∧ x.dest = .station k.requester)
          ∧ ∀ ad r, k.slot = some ad → a.slotRec ad = some r → r.bin = k.bin →
            (k.kind = .fetch → r.state = .outbound → t.slotIs ad .held = true)
            ∧ (k.kind = .store → r.state = .inbound → t.slotIs ad .empty = true))
        ∧ (∀ k ∈ a.queue.jobs, (k.kind = .fetch ∧ k.stage = .dispatching)
            ∨ (k.kind = .store ∧ (k.stage = .waiting ∨ k.stage = .committing)) → k ∈ t.queue.jobs)
        ∧ (a.crane.mode = .step → a.crane.step = some st → st.job = j.num → j.stage = .toPick ∨ j.stage = .picking →
          (j.kind = .store → t.job j.num = some j ∧ t.faults.suspension = some
            { kind := .quiet, job := j.num, stage := j.stage, done := false, cause := .fault, travel := a.crane.travel.count
              lift := a.crane.lift.count, primary := t.primary, step := st.kind, homed := false })
          ∧ (j.kind = .fetch → (∀ q ∈ t.queue.jobs, q.num ≠ j.num) ∧ t.faults.suspension = none
            ∧ (∃ x ∈ t.line.general, x.body = .failed j.bin j.tag .stationFault ∧ x.dest = .station j.requester)
            ∧ ∀ ad r, j.slot = some ad → a.slotRec ad = some r → r.bin = j.bin → r.state = .outbound → t.slotIs ad .held = true)))
    ∧ ∀ ad r, a.crane.mode = .writeWait → a.crane.step = none →
      a.crane.held = some ⟨⟨j.num, .pick, .slot ad, .retract⟩, .pickVerified⟩ →
      a.crane.carry = true → j.kind = .fetch → j.stage = .picking → j.slot = some ad → a.front.pulling j.num = false →
      a.slotRec ad = some r → r.state = .outbound → 4 ≤ a.dir.writeList.length → a.dir.hasPending ad = false →
      a.dir.port ≠ .idle → a.line.general.length < 8 →
      ∃ t q, exec (.binLost now) s = .next t ∧ InFaulted .binLost t ∧ t.faults.suspension = none
        ∧ t.slotRec ad = some q ∧ q.state = .empty ∧ q.bin = 0 ∧ q.owed = true ∧ (∀ k ∈ t.queue.jobs, k.num ≠ j.num)
        ∧ ∃ x ∈ t.line.general, x.body = .failed j.bin j.tag .stationFault ∧ x.dest = .station j.requester

/-- Cycles (R59 to R62, R25, R26). The last move of a move step completed, the cycle follows at once: its checks passed, the job enters
PICKING or PLACING and the fork goes out toward the position's face, its timer running; a pick that finds a bin on the fork raises
FORK_JAM, one at an empty intake ends its STORE NOT_FOUND without extending, a place at an occupied dispatch position waits in TO_PLACE
until it goes empty. At the extend's sensor the lift moves by Lo at creep, a place's carry ending; at its rest the retract begins. That
the lift's duty, direction and stall time hold at once is the model's reading of R46 (log 12); `u` is where the consequences end (log
11). A verified place at a slot (R61, R9, R26): with the fork centred again and FBN clear the slot becomes HELD with the STORE's
bin, its write enters the list with the job's number, the STORE is COMMITTING and the crane IDLE. FPR_OBSTRUCTION (R62): in a place
extend at a slot the extend's output goes off at once and a retract is performed; otherwise only the reading changes. -/
def Obligations.CyclesAreCarriedOut : Prop :=
  ∀ (now : Now) (c : Config) (s a t : State), a = s.arrive now → s.powered = true → a.cfg = some c →
    (∀ j r ad, a.crane.mode = .step → a.crane.step = some ⟨j.num, .place, .slot ad, .retract⟩ →
      a.crane.fork = some .retract → a.crane.held = none → a.sensors.fbn = false → a.job j.num = some j →
      a.dir.port = .writing ∨ a.dir.port = .checking → a.dir.writeList.length < 4 → (∀ e ∈ a.dir.writeList, e.slot ≠ ad) →
      a.dir.firstOwed = none → a.slotRec ad = some r → r.state = .inbound →
      t = { a with
        sensors := { a.sensors with fkc := true }
        crane := { a.crane with fork := none, forkTimer := none, mode := .idle, step := none
                                named := a.crane.named.map (fun n => { n with done := true }) }
        dir := { a.dir with
          records := setAt (slotIndex c ad) { r with state := .held, owed := false } a.dir.records
          writeList := a.dir.writeList ++ [⟨ad, ⟨.held, r.bin⟩, some j.num, 0⟩] }
        queue := { a.queue with jobs := a.queue.jobs.map (fun k => if k.num = j.num then { k with stage := .committing } else k) } } →
      progress t = none → exec (.forkSensorReached now) s = .next t)
    ∧ (∀ st ad, a.crane.step = some st → st.phase = .extend → st.kind = .place → st.place = .slot ad → a.crane.fork ≠ none →
      a.sensors.fkc = false →
      t = { a with
        sensors := { a.sensors with fpr := true }
        crane := { a.crane with fork := some .retract, forkTimer := some (a.clock + 1000 * c.forkLimit)
                                step := some { st with phase := .retractObstructed } } } →
      progress t = none → exec (.fprObstruction now) s = .next t)
    ∧ (a.crane.held = none → a.dir.firstOwed = none → a.dir.writeList = [] ∨ a.dir.port ≠ .idle →
      (∀ n kind place axis x m out goal, a.crane.mode = .step → a.crane.step = some ⟨n, kind, place, .moving⟩ → a.crane.fork = none →
        x = a.axis axis → x.move = .settling → x.target = some goal → x.duty = 0 → x.quietSince + 20000 ≤ a.clock →
        Machine.dist goal x.count ≤ c.window → (∀ ax, ax ≠ axis → (a.axis ax).move = .none ∧ (a.axis ax).duty = 0) →
        m = { (a.crane.onAxis axis (fun _ => { x with move := .none, target := none, dir := none })) with named := none } →
        out = (match place with
          | .slot ad => if ad.face = .left then .extendL else .extendR
          | .intake => .extendL
          | .dispatch => .extendR) →
        (∀ cycle stage u, (out = .extendL → a.sensors.fkl = false) → (out = .extendR → a.sensors.fkr = false) →
          (kind = .movePick ∧ cycle = .pick ∧ stage = .picking ∧ a.sensors.fbn = false ∧ (place = .intake → a.front.intake = true))
            ∨ (kind = .movePlace ∧ cycle = .place ∧ stage = .placing ∧ (place = .dispatch → a.front.dispatch = false)
              ∧ (∀ ad, place = .slot ad → a.sensors.fpr = false)) →
          SettlesTo { a with
            crane := { m with
              step := some ⟨n, cycle, place, .extend⟩, fork := some out, forkTimer := some (a.clock + 1000 * c.forkLimit) }
            queue := { a.queue with
              jobs := a.queue.jobs.map (fun k => if k.num = n then { k with stage := stage } else k) } } u →
          exec (.axisAtRest now axis) s = .next u)
        ∧ (kind = .movePick → a.sensors.fbn = true → a.station = .run → CraneHeld a →
          ∃ t, exec (.axisAtRest now axis) s = .next t ∧ InFaulted .forkJam t)
        ∧ (∀ j ad r u, kind = .movePick → place = .intake → a.front.intake = false → a.sensors.fbn = false → a.job n = some j →
          j.kind = .store → j.slot = some ad → a.slotRec ad = some r → r.state = .inbound → r.bin = j.bin →
          a.line.general.length < 8 →
          SettlesTo { Queued (.failed j.bin j.tag .notFound) (.station j.requester) a with
            crane := { m with mode := .idle, step := none }
            dir := { a.dir with
              records := setAt (slotIndex c ad) { r with state := .empty, bin := 0 } a.dir.records
              emptyCount := a.dir.emptyCount + 1 }
            queue := { a.queue with jobs := a.queue.jobs.filter (fun k => k.num != n) }
            offers := { a.offers with entries := a.offers.entries.filter (fun e => e.job != some n) } } u →
          exec (.axisAtRest now axis) s = .next u)
        ∧ (∀ u, kind = .movePlace → place = .dispatch → a.front.dispatch = true →
          SettlesTo { a with crane := { m with step := some ⟨n, .place, .dispatch, .waitEmpty⟩ } } u →
          exec (.axisAtRest now axis) s = .next u))
      ∧ (∀ n u, a.crane.step = some ⟨n, .place, .dispatch, .waitEmpty⟩ → a.front.dispatch = true → a.front.action = none →
        a.front.owner = .none → a.sensors.fkr = false →
        SettlesTo { a with
          front := { a.front with dispatch := false }
          crane := { a.crane with
            step := some ⟨n, .place, .dispatch, .extend⟩, fork := some .extendR
            forkTimer := some (a.clock + 1000 * c.forkLimit) }
          queue := { a.queue with
            jobs := a.queue.jobs.map (fun k => if k.num = n then { k with stage := .placing } else k) } } u →
        exec (.dispatchOccupancyChange now false) s = .next u)
      ∧ (∀ n kind place f x y goal u, a.crane.step = some ⟨n, kind, place, .extend⟩ → kind = .pick ∨ kind = .place →
        a.crane.fork = some f → f = .extendL ∨ f = .extendR → x = a.crane.lift → x.move = .none → x.homed = true →
        a.outputsHeld = false → a.sensors.fkc = false → a.sensors.drdy = true →
        goal = c.v0 + (place.level - 1) * c.cl + (if kind = .pick then c.lo else 0) →
        (Machine.dist goal x.count ≤ c.window ∧ y = { x with reversals := 0 })
          ∨ (c.window < Machine.dist goal x.count ∧ y = { x with
            move := .driving, target := some goal, cap := 0, reversals := 0, firstMark := true, step := 0, duty := c.lift.duty.s0
            nextDuty := none, brake := false, stall := some (a.clock + 1000 * c.lift.stall.s0)
            dir := some (if x.count ≤ goal then .up else .down), outDir := (if x.count ≤ goal then .up else .down) }) →
        SettlesTo { a with
          sensors := if f = .extendL then { a.sensors with fkl := true } else { a.sensors with fkr := true }
          crane := { a.crane with
            fork := none, forkTimer := none, lift := y, step := some ⟨n, kind, place, .liftMove⟩
            carry := if kind = .place then false else a.crane.carry } } u →
        exec (.forkSensorReached now) s = .next u)
      ∧ ∀ n kind place x goal u, a.crane.step = some ⟨n, kind, place, .liftMove⟩ → x = a.crane.lift → x.move = .settling →
        x.target = some goal → x.duty = 0 → x.quietSince + 20000 ≤ a.clock → Machine.dist goal x.count ≤ c.window →
        a.sensors.fkc = false →
        SettlesTo { a with crane := { a.crane with
          lift := { x with move := .none, target := none, dir := none }
          step := some ⟨n, kind, place, .retract⟩, fork := some .retract, forkTimer := some (a.clock + 1000 * c.forkLimit) } } u →
        exec (.axisAtRest now .lift) s = .next u)
    ∧ ((∀ st, a.crane.step = some st → st.phase ≠ .extend ∨ st.kind ≠ .place ∨ st.place = .intake ∨ st.place = .dispatch) →
      exec (.fprObstruction now) s = .next { a with sensors := { a.sensors with fpr := true } })

/-- The other results of a cycle, its retract at its sensor (R9, R12, R25 to R27, R60 to R63, R70, R92). A verified pick empties the
slot, the job going to TO_PLACE and the carry beginning; a pick without a bin blocks the slot MISSING, or frees a STORE's, and fails
the job NOT_FOUND; an obstructed place blocks the slot and chooses another or makes a re-offer; a verified place at the dispatch
position gives it its owner, or loses the bin when the position reads empty. A slot's result that meets a full write list is held in
WRITE_WAIT, and a verified write's freed place finishes it. `u` is where the consequences of the result end (log 11). -/
def Obligations.CycleResultsAreApplied : Prop :=
  ∀ (now : Now) (c : Config) (j : Job) (kind : StepKind) (place : Place) (phase : StepPhase) (s a b u : State),
    a = s.arrive now → s.powered = true → a.cfg = some c → a.job j.num = some j → a.line.general.length < 8 →
    a.dir.firstOwed = none →
    b = { a with
      sensors := { a.sensors with fkc := true }
      crane := { a.crane with fork := none, forkTimer := none, mode := .idle, step := none
                              named := a.crane.named.map (fun n => { n with done := true }) } } →
    (a.crane.mode = .step → a.crane.step = some ⟨j.num, kind, place, phase⟩ → a.crane.fork = some .retract → a.crane.held = none →
      a.dir.writeList = [] ∨ a.dir.port ≠ .idle → j.stage ≠ .toPick →
      (kind = .pick → phase = .retract → a.sensors.fbn = true →
        (∀ ad r, place = .slot ad → a.slotRec ad = some r → r.state = .outbound → a.dir.writeList.length < 4 →
          a.dir.hasPending ad = false →
          SettlesTo { b with
            crane := { b.crane with carry := true }
            dir := { a.dir with
              records := setAt (slotIndex c ad) ⟨.empty, 0, false⟩ a.dir.records
              emptyCount := a.dir.emptyCount + 1
              writeList := a.dir.writeList ++ [⟨ad, ⟨.empty, 0⟩, some j.num, 0⟩] }
            queue := { a.queue with jobs := a.queue.jobs.map (fun k =>
              if k.num = j.num then { k with stage := .toPlace, pulledSince := none } else k) } } u →
          exec (.forkSensorReached now) s = .next u)
        ∧ (place = .intake →
          SettlesTo { b with
            crane := { b.crane with carry := true }
            queue := { a.queue with jobs := a.queue.jobs.map (fun k =>
              if k.num = j.num then { k with stage := .toPlace, pulledSince := none } else k) } } u →
          exec (.forkSensorReached now) s = .next u)
        ∧ (∀ ad, place = .slot ad → 4 ≤ a.dir.writeList.length → a.dir.hasPending ad = false →
          SettlesTo { b with crane := { b.crane with
            carry := true, mode := .writeWait, held := some ⟨⟨j.num, .pick, place, .retract⟩, .pickVerified⟩ } } u →
          exec (.forkSensorReached now) s = .next u))
      ∧ (kind = .pick → phase = .retract → a.sensors.fbn = false →
        (∀ ad r, place = .slot ad → j.slot = some ad → a.slotRec ad = some r → r.state = .outbound → a.dir.writeList.length < 4 →
          a.dir.hasPending ad = false →
          SettlesTo { Queued (.failed j.bin j.tag .notFound) (.station j.requester) b with
            dir := { a.dir with
              records := setAt (slotIndex c ad) ⟨.blocked .missing, r.bin, false⟩ a.dir.records
              writeList := a.dir.writeList ++ [⟨ad, ⟨.blocked .missing, r.bin⟩, some j.num, 0⟩] }
            queue := { a.queue with jobs := a.queue.jobs.filter (fun k => k.num != j.num) }
            offers := { a.offers with entries := a.offers.entries.filter (fun e => e.job != some j.num) } } u →
          exec (.forkSensorReached now) s = .next u)
        ∧ (∀ ad r, place = .intake → j.kind = .store → j.slot = some ad → a.slotRec ad = some r → r.state = .inbound →
          r.bin = j.bin →
          SettlesTo { Queued (.failed j.bin j.tag .notFound) (.station j.requester) b with
            dir := { a.dir with
              records := setAt (slotIndex c ad) { r with state := .empty, bin := 0 } a.dir.records
              emptyCount := a.dir.emptyCount + 1 }
            queue := { a.queue with jobs := a.queue.jobs.filter (fun k => k.num != j.num) }
            offers := { a.offers with entries := a.offers.entries.filter (fun e => e.job != some j.num) } } u →
          exec (.forkSensorReached now) s = .next u))
      ∧ (∀ ad r d, kind = .place → phase = .retractObstructed → place = .slot ad → j.kind = .store → a.slotRec ad = some r →
        r.state = .inbound → a.dir.writeList.length < 4 → a.dir.hasPending ad = false →
        d = { a.dir with
          records := setAt (slotIndex c ad) ⟨.blocked .obstructed, 0, false⟩ a.dir.records
          writeList := a.dir.writeList ++ [⟨ad, ⟨.blocked .obstructed, 0⟩, some j.num, 0⟩] } →
        (∀ e, ({ b with dir := d } : State).nearestEmpty = none → e = b.placeEstimate { j with slot := none } →
          SettlesTo { b with
            dir := d
            queue := { a.queue with jobs := a.queue.jobs.map (fun k => if k.num = j.num then
              { k with stage := .toPlace, slot := none, reoffer := true, start := some ⟨e, a.clock / 1000⟩ } else k) } } u →
          exec (.forkSensorReached now) s = .next u)
        ∧ (∀ e ad2 q, ({ b with dir := d } : State).nearestEmpty = some ad2 → namesRecord c ad2 = true →
          getAt (slotIndex c ad2) d.records = some q → q.state = .empty → q.bin = 0 →
          e = b.placeEstimate { j with slot := some ad2 } →
          SettlesTo { b with
            dir := { d with
              records := setAt (slotIndex c ad2) { q with state := .inbound, bin := j.bin } d.records
              emptyCount := a.dir.emptyCount - 1 }
            queue := { a.queue with jobs := a.queue.jobs.map (fun k => if k.num = j.num then
              { k with stage := .toPlace, slot := some ad2, start := some ⟨e, a.clock / 1000⟩ } else k) } } u →
          exec (.forkSensorReached now) s = .next u))
      ∧ (kind = .place → phase = .retract → place = .dispatch → a.sensors.fbn = false →
        (j.kind = .fetch → a.front.dispatch = true →
          SettlesTo { b with
            front := { a.front with owner := .fetch j.num }
            queue := { a.queue with jobs := a.queue.jobs.map (fun k =>
              if k.num = j.num then { k with stage := .dispatching } else k) } } u →
          exec (.forkSensorReached now) s = .next u)
        ∧ (j.kind = .fetch → a.front.dispatch = false → (∀ ad, j.slot = some ad → a.slotIs ad .outbound = false) →
          SettlesTo { Queued (.failed j.bin j.tag .notFound) (.station j.requester) b with
            front := { a.front with owner := .none }
            queue := { a.queue with jobs := a.queue.jobs.filter (fun k => k.num != j.num) }
            offers := { a.offers with entries := a.offers.entries.filter (fun e => e.job != some j.num) } } u →
          exec (.forkSensorReached now) s = .next u)
        ∧ (j.kind = .store → j.slot = none → a.front.dispatch = true →
          SettlesTo { Queued (.failed j.bin j.tag .reOffered) (.station j.requester) b with
            front := { a.front with owner := .reOffer j.bin j.tag }
            queue := { a.queue with jobs := a.queue.jobs.filter (fun k => k.num != j.num) }
            offers := { a.offers with entries := a.offers.entries.filter (fun e => e.job != some j.num) } } u →
          exec (.forkSensorReached now) s = .next u)))
    ∧ ∀ e rest ad r b0 b1 b2 b3, a.crane.mode = .writeWait → a.crane.step = none →
      a.crane.held = some ⟨⟨j.num, .pick, .slot ad, .retract⟩, .pickVerified⟩ → a.dir.port = .checking →
      a.dir.writeList = e :: rest → rest.length < 4 → (∀ x ∈ rest, x.slot ≠ ad) → e.job = none → e.acks = 0 →
      [b0, b1, b2, b3] = e.image.bytes → a.slotRec ad = some r → r.state = .outbound →
      SettlesTo { a with
        memory := Memory.setAll (imageAddress (slotIndex c e.slot)) [b0, b1, b2, b3] a.memory
        crane := { a.crane with held := none, mode := .idle }
        dir := { a.dir with
          records := setAt (slotIndex c ad) ⟨.empty, 0, false⟩ a.dir.records
          emptyCount := a.dir.emptyCount + 1
          port := .idle
          attempt := 0
          writeList := rest ++ [⟨ad, ⟨.empty, 0⟩, some j.num, 0⟩] }
        queue := { a.queue with jobs := a.queue.jobs.map (fun k =>
          if k.num = j.num then { k with stage := .toPlace, pulledSince := none } else k) } } u →
      exec (.readbackDone now b0 b1 b2 b3) s = .next u

/-- HOME_SWITCH_EDGE and HOME_SWITCH_RELEASED (R56): in the drive toward the switch its edge loads the home count, sets the
homed flag and stops the axis; in the drive away its release stops the axis; otherwise only the reading changes. That the 20
ms of rest run from the zero output is the model's reading (log 15). -/
def Obligations.HomeSwitchIsFollowed : Prop :=
  ∀ (now : Now) (axis : AxisName) (c : Config) (x : Axis) (s a : State), a = s.arrive now → s.powered = true → a.cfg = some c →
    x = a.axis axis → x.duty ≠ 0 →
    (a.crane.homing = some (.toward axis) →
      exec (.homeSwitchEdge now axis) s = .next
        { a with
          sensors := setHome axis true a.sensors
          crane := { (a.crane.onAxis axis (fun _ => { x with
            move := .none, target := none, dir := none, stall := none, duty := 0, nextDuty := none, brake := true
            quietSince := a.clock, count := (Config.axis c axis).home, homed := true })) with
            homing := some (.towardRest axis) } })
    ∧ (a.crane.homing ≠ some (.toward axis) →
      exec (.homeSwitchEdge now axis) s = .next { a with sensors := setHome axis true a.sensors })
    ∧ (a.crane.homing = some (.away axis) →
      exec (.homeSwitchReleased now axis) s = .next
        { a with
          sensors := setHome axis false a.sensors
          crane := { (a.crane.onAxis axis (fun _ => { x with
            move := .none, target := none, dir := none, stall := none, duty := 0, nextDuty := none, brake := true
            quietSince := a.clock })) with homing := some (.awayRest axis) } })
    ∧ (a.crane.homing ≠ some (.away axis) →
      exec (.homeSwitchReleased now axis) s = .next { a with sensors := setHome axis false a.sensors })

/-- AXIS_AT_REST in homing (R56, R57, R183, R186): at rest the drive away is followed by the drive toward the switch, the homed lift
by the travel axis, away from its switch when that is active and else toward it, and the homed travel axis by the moves to the front
begun together; both completed, the home timer stops, the crane is IDLE and the station in RUN, the homed axes and every job kept. That
the 20 ms run from the zero output is log 15, that a drive's duty holds at once log 12. `u` is where the consequences end (log 11). -/
def Obligations.HomingRunsToService : Prop :=
  ∀ (now : Now) (axis : AxisName) (c : Config) (x y z : Axis) (s a t u : State), a = s.arrive now → s.powered = true →
    a.cfg = some c → x = a.axis axis → x.duty = 0 → x.quietSince + 20000 ≤ a.clock → a.crane.held = none →
    a.dir.firstOwed = none → a.dir.writeList = [] ∨ a.dir.port ≠ .idle → a.crane.step = none → a.crane.clearing = none →
    a.crane.mode = .homing → a.station = .homing → a.fire.state = .calm → a.sensors.drdy = true → a.sensors.fkc = true →
    (∀ ac goal dir, x.move = .none →
      y = { goal with
        move := .none, target := none, dir := none, step := 0, duty := (Config.axis c ac).duty.s0, outDir := dir, nextDuty := none
        brake := false, stall := some (a.clock + 1000 * (Config.axis c ac).stall.s0), firstMark := true } →
      (a.crane.homing = some (.awayRest axis) → ac = axis → goal = x → dir = .down →
        exec (.axisAtRest now axis) s = .next
          { a with crane := { (a.crane.onAxis axis (fun _ => y)) with homing := some (.toward axis) } })
      ∧ (a.crane.homing = some (.towardRest axis) → axis = .lift → ac = .travel → goal = a.crane.travel →
        dir = (if a.sensors.ths = true then .up else .down) →
        exec (.axisAtRest now axis) s = .next { a with crane := { a.crane with
          travel := y, homing := some (if a.sensors.ths = true then .away .travel else .toward .travel) } }))
    ∧ (x.move = .none → a.crane.homing = some (.towardRest axis) → axis = .travel → a.crane.travel.homed = true →
      a.crane.lift.homed = true → a.crane.lift.move = .none → Axis.Begins c.travel a.clock c.window c.t0 a.crane.travel y →
      Axis.Begins c.lift a.clock c.window c.v0 a.crane.lift z →
      SettlesTo { a with crane := { a.crane with homing := some .front, travel := y, lift := z } } u →
      exec (.axisAtRest now axis) s = .next u)
    ∧ ∀ target, x.move = .settling → x.target = some target → Machine.dist target x.count ≤ c.window →
      a.crane.homing = some .front → (∀ ax, ax ≠ axis → (a.axis ax).move = .none ∧ (a.axis ax).duty = 0) →
      a.faults.suspension = none →
      t = { a with
        station := .run
        crane := { (a.crane.onAxis axis (fun _ => { x with move := .none, target := none, dir := none })) with
          mode := .idle, homing := none, homeTimer := none } } →
      SettlesTo t u → exec (.axisAtRest now axis) s = .next u

/-! ## Aisle front and loop conveyor (chapter 4) -/

/-- CARRIER_PASSAGE steps the index by CHM (R72); an index slip raises LOOP, is counted, and reloads the index to 0 with every
other entry of the view UNKNOWN. The inputs, both occupancies, the position counts and the receive queue stay. -/
def Obligations.PassageStepsIndex : Prop :=
  ∀ (now : Now) (chm cld : Bool) (c : Config) (s a : State), a = s.arrive now → s.powered = true → a.cfg = some c →
    0 < c.carriers → ∃ t, exec (.carrierPassage now chm cld) s = .next t
      ∧ t.config = a.config ∧ t.clock = a.clock ∧ t.sensors = a.sensors ∧ t.line.rxQueue = a.line.rxQueue
      ∧ t.line.mode = a.line.mode ∧ t.front.intake = a.front.intake ∧ t.front.dispatch = a.front.dispatch
      ∧ t.crane.travel.count = a.crane.travel.count ∧ t.crane.lift.count = a.crane.lift.count
      ∧ (a.front.indexValid = false → chm = false → t.front.indexValid = false ∧ t.front.index = a.front.index)
      ∧ (a.front.indexValid = false → chm = true → t.front.indexValid = true ∧ t.front.index = 0 ∧ t.front.discard = true)
      ∧ (a.front.indexValid = true → chm = false →
          t.front.indexValid = true ∧ t.front.index = (a.front.index + 1) % c.carriers ∧ t.front.slips = a.front.slips)
      ∧ (a.front.indexValid = true → chm = true → (a.front.index + 1) % c.carriers = 0 →
          t.front.indexValid = true ∧ t.front.index = 0 ∧ t.front.slips = a.front.slips)
      ∧ (a.front.indexValid = true → chm = true → (a.front.index + 1) % c.carriers ≠ 0 →
          t.front.indexValid = true ∧ t.front.index = 0 ∧ t.front.slips = min (a.front.slips + 1) 65535
            ∧ inSet t.faults.current .loop = true ∧ inSet t.faults.accrued .loop = true
            ∧ t.front.view.length = c.carriers ∧ (∀ k, 0 < k → k < c.carriers → t.front.entry k = .unknown))

/-- CARRIER_PASSAGE and the loop period (R73): the timer restarts; an interval is taken as P when the index was valid, the flag
clear and the discard mark clear, and discarded under the mark; the second passage in a stop clears the flag and sets the mark.
LOOP_STOPPED_TIMEOUT sets the flag and removes P once the timer has run (before that nothing, log 2), index and view kept. -/
def Obligations.LoopPeriodIsMeasured : Prop :=
  ∀ (now : Now) (chm cld : Bool) (c : Config) (p : Nat) (s a : State), a = s.arrive now → s.powered = true → a.cfg = some c →
    (∀ due, a.front.stopTimer = some due →
      exec (.loopStoppedTimeout now) s = .next (if due ≤ a.clock then
        { a with front := { a.front with stopped := true, period := none, stopEdges := 0, stopTimer := none } } else a))
    ∧ (a.front.previous = some p → p < a.clock / 1000 → a.clock / 1000 ≤ p + 5000 →
    ∃ t, exec (.carrierPassage now chm cld) s = .next t
      ∧ t.front.stopTimer = some (a.clock + 5000000) ∧ t.front.previous = some (a.clock / 1000)
      ∧ (a.front.indexValid = true → a.front.stopped = false → a.front.discard = false →
          t.front.period = some (a.clock / 1000 - p) ∧ t.front.stopped = false)
      ∧ (a.front.indexValid = true → a.front.stopped = false → a.front.discard = true →
          t.front.period = a.front.period ∧ t.front.discard = false ∧ t.front.stopped = false)
      ∧ (a.front.indexValid = false ∨ a.front.stopped = true → t.front.period = a.front.period)
      ∧ (a.front.stopped = true → a.front.stopEdges = 0 → t.front.stopped = true ∧ t.front.stopEdges = 1)
      ∧ (a.front.stopped = true → a.front.stopEdges = 1 →
          t.front.stopped = false ∧ t.front.stopEdges = 2 ∧ t.front.discard = true))

/-- The loop view. LOADED and EMPTIED from peers (R75): the carrier's entry is replaced whatever it held. CARRIER_PASSAGE (R77):
whatever frames have set, CLD decides laden or empty; a contradiction is counted, and a LADEN entry read laden keeps what frames gave
it. -/
def Obligations.ViewIsCorrected : Prop :=
  ∀ (now : Now) (s a : State), a = s.arrive now → s.powered = true →
    (∀ src carrier bin destination tag c b, Handed c ⟨src, .loaded carrier bin destination tag⟩ a b →
      exec (.loaded now src carrier bin destination tag) s = .next
        { b with front := { b.front with view := setAt carrier (.laden (some bin) (some destination) (some src)) b.front.view } })
    ∧ (∀ src carrier bin c b, Handed c ⟨src, .emptied carrier bin⟩ a b →
      exec (.emptied now src carrier bin) s = .next
        { b with front := { b.front with view := setAt carrier .free b.front.view } })
    ∧ ∀ cld c i, a.cfg = some c → a.front.indexValid = true → i = (a.front.index + 1) % c.carriers → i < a.front.view.length →
    ∃ t, exec (.carrierPassage now false cld) s = .next t
      ∧ (cld = true → a.front.entry i = .free →
          t.front.entry i = .laden none none none ∧ t.front.corrections = min (a.front.corrections + 1) 65535)
      ∧ (cld = true → a.front.entry i = .unknown →
          t.front.entry i = .laden none none none ∧ t.front.corrections = a.front.corrections)
      ∧ (∀ b d l, cld = true → a.front.entry i = .laden b d l →
          t.front.entry i = .laden b d l ∧ t.front.corrections = a.front.corrections)
      ∧ (∀ b d l, cld = false → a.front.entry i = .laden b d l →
          t.front.entry i = .free ∧ t.front.corrections = min (a.front.corrections + 1) 65535)
      ∧ (cld = false → a.front.entry i = .unknown → t.front.entry i = .free ∧ t.front.corrections = a.front.corrections)
      ∧ (cld = false → a.front.entry i = .free → t.front.entry i = .free ∧ t.front.corrections = a.front.corrections)
      ∧ ∀ k, k ≠ i → t.front.entry k = a.front.entry k

/-- CARRIER_PASSAGE, the pull and the load tests (R81, R84, R78): a laden carrier a STORE awaits fires PIN in service with the
intake empty and no action in flight; read empty, or seen with another bin, it fails the STORE NOT_FOUND; a carrier free and
empty takes the owned bin from the dispatch position. -/
def Obligations.PassageFiresPushers : Prop :=
  ∀ (now : Now) (cld : Bool) (c : Config) (i : Nat) (s a : State), a = s.arrive now → s.powered = true → a.cfg = some c →
    a.front.indexValid = true → i = (a.front.index + 1) % c.carriers → i < a.front.view.length → a.front.action = none →
    ∃ t, exec (.carrierPassage now false cld) s = .next t
      ∧ (∀ j, a.awaiting i = some j → cld = true → (a.front.entry i).otherBin j.bin = false → a.front.intake = false →
          a.station = .run → a.fire.state = .calm →
          t.front.action = some { pusher := .intake, carrier := i, owner := .store j.num j.bin, fired := a.clock,
                                  pulseEnded := false, confirmed := false }
            ∧ t.outputs.pin = true ∧ t.outputs.pou = false ∧ t.queue = a.queue)
      ∧ (∀ j, a.awaiting i = some j → a.job j.num = some j → cld = false ∨ (a.front.entry i).otherBin j.bin = true →
          a.line.general.length < 8 →
          (∀ k ∈ t.queue.jobs, k.num ≠ j.num)
            ∧ ∃ x ∈ t.line.general, x.body = .failed j.bin j.tag .notFound ∧ x.dest = .station j.requester)
      ∧ (a.awaiting i = none → cld = false → a.front.owner ≠ .none → a.front.dispatch = true → a.station = .run →
          a.fire.state = .calm →
          t.front.action = some { pusher := .dispatch, carrier := i, owner := .dispatch a.front.owner, fired := a.clock,
                                  pulseEnded := false, confirmed := false }
            ∧ t.outputs.pou = true ∧ t.outputs.pin = false ∧ t.queue = a.queue)
      ∧ (a.station ≠ .run ∨ a.fire.state ≠ .calm → t.front.action = none)

/-- INTAKE_OCCUPANCY_CHANGE (R69, R76, R82). A pull confirmed: the action's carrier FREE, EMPTIED queued, the STORE in WAITING pulled
now with its offer entry closed; with the STORE gone only the view and the EMPTIED. Confirmed before its pulse has ended the action
stays, confirmed; after it the action ends at once. Going empty, a change with no action, and a change under a pull already confirmed
or a load change the occupancy alone, a reading as it stands nothing (log 2). `u` is where the consequences end (log 11). -/
def Obligations.PullIsConfirmed : Prop :=
  ∀ (now : Now) (act : PusherAction) (s a b u : State), a = s.arrive now → s.powered = true →
    exec (.intakeOccupancyChange now a.front.intake) s = .next a
    ∧ (a.front.intake = true → exec (.intakeOccupancyChange now false) s = .next { a with front := { a.front with intake := false } })
    ∧ (a.front.intake = false → a.front.action = none ∨ (∃ o, a.front.action = some act ∧ act.owner = .dispatch o)
        ∨ (a.front.action = some act ∧ act.confirmed = true) →
      exec (.intakeOccupancyChange now true) s = .next { a with front := { a.front with intake := true } })
    ∧ ∀ n bin, a.front.intake = false → a.front.action = some act → act.owner = .store n bin → act.confirmed = false →
      a.line.general.length < 8 → (act.pulseEnded = true → a.queue.held = []) →
      b = { Queued (.emptied act.carrier bin) .all a with
        front := { a.front with
          intake := true, view := setAt act.carrier .free a.front.view
          action := if act.pulseEnded = true then none else some { act with confirmed := true } } } →
      (∀ j, a.job n = some j → j.stage = .awaitCarrier →
        SettlesTo { b with
          queue := { a.queue with jobs := a.queue.jobs.map (fun k =>
            if k.num = n then { k with stage := .waiting, pulledSince := some (a.clock / 1000) } else k) }
          offers := { a.offers with entries := a.offers.entries.filter (fun e => e.job != some n) } } u →
        exec (.intakeOccupancyChange now true) s = .next u)
      ∧ (a.job n = none → SettlesTo b u → exec (.intakeOccupancyChange now true) s = .next u)

/-- A load confirmed (R85, R76): the owner NONE and the carrier LADEN by this station; a FETCH sends LOADED to its requester and
leaves; a re-offer sends OFFER with a tag other than the one it replaces. Confirmed before its pulse has ended the action stays,
confirmed; after it the action ends at once (R80). Emptied with no load under way (R69, R70) the position has
lost its bin: the owner is NONE, a FETCH fails NOT_FOUND, a re-offer is dropped. A change to occupied, or a reading as it stands (log
2), changes the occupancy alone. `u` is where the consequences end (log 11). -/
def Obligations.LoadIsConfirmed : Prop :=
  ∀ (now : Now) (c : Config) (act : PusherAction) (s a u : State), a = s.arrive now → s.powered = true → a.cfg = some c →
    (∀ o, a.front.dispatch = o → exec (.dispatchOccupancyChange now o) s = .next a)
    ∧ (a.front.dispatch = false →
        exec (.dispatchOccupancyChange now true) s = .next { a with front := { a.front with dispatch := true } })
    ∧ (a.front.dispatch = true → a.line.general.length < 8 →
      (a.front.action = some act → act.confirmed = false → (act.pulseEnded = true → a.queue.held = []) →
        (∀ n j, act.owner = .dispatch (.fetch n) → a.job n = some j →
          SettlesTo { Queued (.loaded act.carrier j.bin j.requester j.tag) .all a with
            front := { a.front with
              dispatch := false, owner := .none
              action := if act.pulseEnded = true then none else some { act with confirmed := true }
              view := setAt act.carrier (.laden (some j.bin) (some j.requester) (some c.address)) a.front.view }
            queue := { a.queue with jobs := a.queue.jobs.filter (fun k => k.num != n) } } u →
          exec (.dispatchOccupancyChange now false) s = .next u)
        ∧ (∀ bin tag fresh, act.owner = .dispatch (.reOffer bin tag) → a.front.reofferTag < 256 →
          fresh = (if a.front.reofferTag = tag then (tag + 1) % 256 else a.front.reofferTag) →
          fresh ≠ tag ∧ (SettlesTo { Queued (.offer act.carrier bin fresh) .all a with
            front := { a.front with
              dispatch := false, owner := .none, reofferTag := (fresh + 1) % 256
              action := if act.pulseEnded = true then none else some { act with confirmed := true }
              view := setAt act.carrier (.laden (some bin) none (some c.address)) a.front.view } } u →
            exec (.dispatchOccupancyChange now false) s = .next u)))
      ∧ (a.front.action = none ∨ (∃ n bin, a.front.action = some act ∧ act.owner = .store n bin) →
        (a.front.owner = .none → SettlesTo { a with front := { a.front with dispatch := false } } u →
          exec (.dispatchOccupancyChange now false) s = .next u)
        ∧ (∀ bin tag, a.front.owner = .reOffer bin tag →
          SettlesTo { a with front := { a.front with dispatch := false, owner := .none } } u →
          exec (.dispatchOccupancyChange now false) s = .next u)
        ∧ (∀ n j, a.front.owner = .fetch n → a.job n = some j → j.stage = .dispatching → a.crane.held = none →
          (∀ ad, j.slot = some ad → a.slotIs ad .outbound = false ∧ (j.kind = .store → a.slotIs ad .inbound = false)) →
          SettlesTo { Queued (.failed j.bin j.tag .notFound) (.station j.requester) a with
            front := { a.front with dispatch := false, owner := .none }
            queue := { a.queue with jobs := a.queue.jobs.filter (fun k => k.num != n) }
            offers := { a.offers with entries := a.offers.entries.filter (fun e => e.job != some n) } } u →
          exec (.dispatchOccupancyChange now false) s = .next u)))

/-- PUSHER_PULSE_END and PUSHER_LIMIT_EXPIRY (R80, R162, R164): after the pulse length the output goes off, and an action already
confirmed ends; an action not confirmed within its limit, in RUN, leaves its carrier UNKNOWN, ends, raises PUSHER and FAULTED is
entered; earlier nothing changes (log 2), and a confirmed action has no limit. A fail request held during the pull finds the bin
pulled and keeps the STORE (R83). -/
def Obligations.PulseAndLimitEndActions : Prop :=
  ∀ (now : Now) (c : Config) (act : PusherAction) (s a t : State), a = s.arrive now → s.powered = true → a.cfg = some c →
    a.front.action = some act →
    (act.pulseEnded = false →
      (a.clock < act.fired + 1000 * c.pusherPulse → exec (.pusherPulseEnd now) s = .next a)
      ∧ (act.fired + 1000 * c.pusherPulse ≤ a.clock → act.confirmed = false →
          t = { a with front := { a.front with action := some { act with pulseEnded := true } } } →
          exec (.pusherPulseEnd now) s = .next t ∧ t.outputs.pin = false ∧ t.outputs.pou = false)
      ∧ (act.fired + 1000 * c.pusherPulse ≤ a.clock → act.confirmed = true → a.queue.held = [] →
          t = { a with front := { a.front with action := none } } →
          exec (.pusherPulseEnd now) s = .next t ∧ t.outputs.pin = false ∧ t.outputs.pou = false)
      ∧ (∀ n o u, act.fired + 1000 * c.pusherPulse ≤ a.clock → act.confirmed = true → a.queue.held = [⟨n, .fail o, false⟩] →
          (∀ j, a.job n = some j → j.stage ≠ .awaitCarrier) →
          SettlesTo { a with front := { a.front with action := none }, queue := { a.queue with held := [] } } u →
          exec (.pusherPulseEnd now) s = .next u))
    ∧ (act.confirmed = true ∨ a.clock < act.fired + 1000 * c.pusherLimit → exec (.pusherLimitExpiry now) s = .next a)
    ∧ (act.confirmed = false → act.fired + 1000 * c.pusherLimit ≤ a.clock → a.station = .run → CraneHeld a →
        a.crane.mode ≠ .stopped → a.crane.held = none → a.queue.held = [] → act.carrier < a.front.view.length →
        ∃ u, exec (.pusherLimitExpiry now) s = .next u ∧ InFaulted .pusher u ∧ u.front.action = none
          ∧ u.front.entry act.carrier = .unknown ∧ u.front.owner = a.front.owner ∧ u.fire = a.fire)

/-! ## Time and cost estimates (chapter 5) -/

/-- round-half-even (R88): with q and r the whole quotient and the remainder, q + 1 above the half, q below it, and at the half
the even one of the two; the five examples; and its three uses, the loop period, the elapsed time and the fill penalty. -/
def Obligations.HalvesRoundToEven : Prop :=
  (∀ x y q r : Nat, 0 < y → x = q * y + r → r < y →
    (y < 2 * r → roundHalfEven x y = q + 1) ∧ (2 * r < y → roundHalfEven x y = q)
    ∧ (2 * r = y → roundHalfEven x y = (if q % 2 = 0 then q else q + 1)))
    ∧ roundHalfEven 1237 10 = 124 ∧ roundHalfEven 1235 10 = 124 ∧ roundHalfEven 1245 10 = 124 ∧ roundHalfEven 5 10 = 0
    ∧ roundHalfEven 420000 960 = 438
    ∧ (∀ (f : Front) (p : Nat), f.indexValid = true → f.stopped = false → f.period = some p →
        f.pcs = some (roundHalfEven p 10))
    ∧ (∀ (s : State) (j : Job) (e : StartEstimate), j.start = some e →
        s.remaining j = e.estimate - min (roundHalfEven (s.clock / 1000 - e.moment) 10) 65535)
    ∧ ∀ (s : State) (c : Config), s.dir.records ≠ [] →
        s.fillPenalty c = roundHalfEven (c.fillWeight * (s.dir.records.length - s.dir.emptyCount)) s.dir.records.length

/-- The leg time (R90): the larger of the travel and the lift term, each 0 when its axis stands still, alike both ways, 0 from a
position to itself, and at most 34,000 for a valid configuration, which one of them reaches. -/
def Obligations.LegIsItsLongerAxis : Prop :=
  ∀ (c : Config) (b1 l1 b2 l2 db dl travel lift : Nat),
    (b1 + db = b2 ∨ b2 + db = b1) → (l1 + dl = l2 ∨ l2 + dl = l1) →
    travel = (if db = 0 then 0 else c.rt + db * c.tb) → lift = (if dl = 0 then 0 else c.rl + dl * c.tl) →
    leg c ⟨b1, l1⟩ ⟨b2, l2⟩ = max travel lift ∧ leg c ⟨b1, l1⟩ ⟨b2, l2⟩ = leg c ⟨b2, l2⟩ ⟨b1, l1⟩
    ∧ leg c ⟨b1, l1⟩ ⟨b1, l1⟩ = 0
    ∧ (Config.valid c = true → b1 ≤ c.bays → b2 ≤ c.bays → 1 ≤ l1 → 1 ≤ l2 → l1 ≤ c.levels → l2 ≤ c.levels →
        leg c ⟨b1, l1⟩ ⟨b2, l2⟩ ≤ 34000)
    ∧ ∃ w : Config, Config.valid w = true ∧ w.bays = 64 ∧ leg w ⟨0, 1⟩ ⟨64, 1⟩ = 34000

/-- The nearest-empty choice and the present position (R5, R89): the choice is an EMPTY slot of least leg time from the front, then of
least level, least bay, face L before R, and there is none exactly when no record is EMPTY. The position is unknown while an axis is not
homed; it is the bay whose centre, the front's at bay 0, stands nearest the travel count, the lower of two equally near, and the level
one of whose heights stands nearest the lift count, the lower of equally near ones. -/
def Obligations.NearestIsChosen : Prop :=
  ∀ (c : Config) (s : State), s.cfg = some c →
    (s.nearestEmpty = none ↔ ∀ r ∈ s.dir.records, r.state ≠ .empty)
    ∧ (∀ ad, s.nearestEmpty = some ad → ∃ i r, getAt i s.dir.records = some r ∧ r.state = .empty ∧ ad = slotAt c i
      ∧ ∀ k q o, getAt k s.dir.records = some q → q.state = .empty → o = slotAt c k →
        leg c ⟨0, 1⟩ ⟨ad.bay, ad.level⟩ < leg c ⟨0, 1⟩ ⟨o.bay, o.level⟩
        ∨ (leg c ⟨0, 1⟩ ⟨ad.bay, ad.level⟩ = leg c ⟨0, 1⟩ ⟨o.bay, o.level⟩
          ∧ (ad.level < o.level ∨ (ad.level = o.level
            ∧ (ad.bay < o.bay ∨ (ad.bay = o.bay ∧ (ad.face = .left ∨ o.face = .right)))))))
    ∧ (s.crane.travel.homed = false ∨ s.crane.lift.homed = false → s.position = none)
    ∧ (s.crane.travel.homed = true → s.crane.lift.homed = true → ∃ p, s.position = some p ∧ p.bay ≤ c.bays ∧ 1 ≤ p.level
      ∧ (1 ≤ c.levels → p.level ≤ c.levels)
      ∧ (∀ bay, bay ≤ c.bays →
          Machine.dist s.crane.travel.count (c.t0 + p.bay * c.cb) < Machine.dist s.crane.travel.count (c.t0 + bay * c.cb)
          ∨ (Machine.dist s.crane.travel.count (c.t0 + p.bay * c.cb) = Machine.dist s.crane.travel.count (c.t0 + bay * c.cb)
            ∧ p.bay ≤ bay))
      ∧ ∀ near : Nat → Nat,
          (∀ l, near l = min (Machine.dist s.crane.lift.count (c.v0 + (l - 1) * c.cl))
            (Machine.dist s.crane.lift.count (c.v0 + (l - 1) * c.cl + c.lo))) →
          ∀ l, 1 ≤ l → l ≤ c.levels → near p.level < near l ∨ (near p.level = near l ∧ p.level ≤ l))

/-- The estimates (R87, R91 to R100), every sum saturating at 65,535. The service time of each kind of job from a position; the
start estimate at selection and with the bin on the fork; the walk of the queue job by job, the active job first, which gives the
backlog W and the tail position q; Pcs and the loop term; the estimate E of a HOLD, the current estimate of a FETCH by its stage, and the
bid cost K. With the position unknown each figure made from it is 65,535; with the loop unknown the loop term is 65,535 and there
is no bid cost, nor is there one with no EMPTY slot. -/
def Obligations.EstimatesAreSums : Prop :=
  ∀ (c : Config) (s : State), s.cfg = some c →
    (∀ q j ad, j.slot = some ad →
      (j.kind = .fetch → service c q j
        = min (leg c q ⟨ad.bay, ad.level⟩ + c.fork + leg c ⟨ad.bay, ad.level⟩ ⟨0, 1⟩ + c.fork) 65535)
      ∧ (j.kind = .store → service c q j
        = min (leg c q ⟨0, 1⟩ + c.fork + leg c ⟨0, 1⟩ ⟨ad.bay, ad.level⟩ + c.fork) 65535))
    ∧ (∀ q j, j.kind = .store → j.slot = none → service c q j = min (leg c q ⟨0, 1⟩ + c.fork) 65535)
    ∧ (s.position = none → s.backlog.1 = 65535 ∧ ∀ j, s.serviceEstimate j = 65535 ∧ s.placeEstimate j = 65535
      ∧ s.currentEstimate j = 65535 ∧ s.holdEstimate j = 65535)
    ∧ (∀ p, s.position = some p → s.walk [] = (0, p) ∧ (s.queue.jobs = [] → s.backlog = (0, p))
      ∧ (∀ j, s.serviceEstimate j = service c p j
        ∧ (j.kind = .fetch ∨ j.slot = none → s.placeEstimate j = min (leg c p ⟨0, 1⟩ + c.fork) 65535)
        ∧ ∀ ad, j.kind = .store → j.slot = some ad → s.placeEstimate j = min (leg c p ⟨ad.bay, ad.level⟩ + c.fork) 65535)
      ∧ (∀ jobs j w q e, s.walk jobs = (w, q) →
        ((j.kind = .fetch ∨ j.slot = none) ∧ e = (⟨0, 1⟩ : Pos))
          ∨ (j.kind = .store ∧ ∃ ad, j.slot = some ad ∧ e = ⟨ad.bay, ad.level⟩) →
        (j.stage = .dispatching → s.walk (jobs ++ [j]) = (w, q))
        ∧ (j.stage = .waiting ∨ j.stage = .awaitCarrier → s.walk (jobs ++ [j]) = (min (w + service c q j) 65535, e))
        ∧ (j.active = true → s.walk (jobs ++ [j]) = (min (w + s.remaining j) 65535, e)))
      ∧ (∀ j rest, s.queue.jobs = j :: rest → (∀ k ∈ rest, k.active = false) → s.backlog = s.walk (j :: rest)
        ∧ ∀ ahead k behind, j :: rest = ahead ++ k :: behind → (∀ x ∈ ahead, x.num ≠ k.num) →
          (k.stage = .waiting → s.currentEstimate k = min ((s.walk (ahead ++ [k])).1 + s.loopTerm) 65535)
          ∧ (k.active = true → s.currentEstimate k = min (s.remaining k + s.loopTerm) 65535)
          ∧ (k.stage = .dispatching → s.currentEstimate k = s.loopTerm)))
    ∧ (s.front.period = none ∨ s.front.indexValid = false ∨ s.front.stopped = true → s.front.pcs = none)
    ∧ (s.front.pcs = none → s.loopTerm = 65535)
    ∧ (∀ u, s.front.pcs = some u →
      (∀ k, 1 ≤ k → k ≤ c.carriers → getAt ((s.front.index + k) % c.carriers) s.front.view = some .free →
        (∀ m, 1 ≤ m → m < k → getAt ((s.front.index + m) % c.carriers) s.front.view ≠ some .free) → s.loopTerm = min (k * u) 65535)
      ∧ ((∀ m, 1 ≤ m → m ≤ c.carriers → getAt ((s.front.index + m) % c.carriers) s.front.view ≠ some .free) →
        s.loopTerm = min (c.carriers * u) 65535))
    ∧ (∀ j w q, s.backlog = (w, q) → s.holdEstimate j = min (w + service c q j + s.loopTerm) 65535)
    ∧ (∀ carrier, s.front.pcs = none ∨ s.nearestEmpty = none → s.bidCost carrier = none)
    ∧ ∀ carrier k u w q ad, s.front.pcs = some u → s.nearestEmpty = some ad → s.backlog = (w, q) → k < c.carriers →
      s.front.index < c.carriers → (s.front.index + k) % c.carriers = carrier →
      s.bidCost carrier = some (min (max (w + leg c q ⟨0, 1⟩) (k * u) + c.fork + c.fork + leg c ⟨0, 1⟩ ⟨ad.bay, ad.level⟩
        + s.fillPenalty c) 65535)

/-! ## Returns and put-away bidding (chapter 7) -/

/-- OFFER (R120, R122 to R124, R75): for a bin not here and with no open entry for its carrier, the front unit sees it laden; an
eligible station opens an entry with its cost and queues its BID, an ineligible one opens it without either, and with four open
the offer is ignored and counted. -/
def Obligations.OfferIsBidFor : Prop :=
  ∀ (now : Now) (src carrier bin tag : Nat) (c : Config) (e : OfferEntry) (s a b u : State), a = s.arrive now → s.powered = true →
    Handed c ⟨src, .offer carrier bin tag⟩ a b → b.dir.lookup bin = none → b.jobOfBin bin = none →
    (∀ x ∈ b.offers.entries, x.carrier ≠ carrier) → b.line.general.length < 8 →
    u = { b with front := { b.front with view := setAt carrier (.laden (some bin) none (some src)) b.front.view } } →
    e = { serial := b.offers.nextSerial, carrier := carrier, bin := bin, tag := tag, offerer := src
          windowEnd := b.clock / 1000 + c.bidWindow, ownCost := none, own := .none, best := none, heard := 0, job := none
          withheld := none } →
    (∀ k, b.offers.entries.length < 4 → b.station = .run → b.fire.state = .calm → 0 < b.dir.emptyCount → b.queue.jobs.length < 8 →
      b.front.pcs.isSome = true → (∀ j ∈ b.queue.jobs, j.kind = .store → j.carrier ≠ some carrier) → b.bidCost carrier = some k →
      exec (.offer now src carrier bin tag) s = .next
        { u with
          offers := { entries := b.offers.entries ++ [{ e with ownCost := some k, own := .bidPending }]
                      nextSerial := b.offers.nextSerial + 1 }
          line := { b.line with
            general := b.line.general ++ [newEntry b.line.nextOrder (.bid carrier tag src k) .all (some b.offers.nextSerial)]
            nextOrder := b.line.nextOrder + 1 } })
    ∧ (b.offers.entries.length < 4 →
        b.station ≠ .run ∨ b.fire.state ≠ .calm ∨ b.dir.emptyCount = 0 ∨ 8 ≤ b.queue.jobs.length ∨ b.front.pcs = none
          ∨ (∃ j ∈ b.queue.jobs, j.kind = .store ∧ j.carrier = some carrier) ∨ b.bidCost carrier = none →
        exec (.offer now src carrier bin tag) s = .next
          { u with offers := { entries := b.offers.entries ++ [e], nextSerial := b.offers.nextSerial + 1 } })
    ∧ (4 ≤ b.offers.entries.length →
        exec (.offer now src carrier bin tag) s = .next
          { u with line := { b.line with counters := { b.line.counters with
              ignoredOffer := satInc b.line.counters.ignoredOffer } } })

/-- The duplicate check of an OFFER (R121), made before eligibility: a bin HELD with no job, or OUTBOUND with its FETCH in WAITING
or TO_PICK, is marked as by a peer's HOLD, and the eligible station bids for it all the same; OUTBOUND with its FETCH in PICKING
raises DIRECTORY, a BLOCKED or INBOUND record and a picked FETCH change nothing, nor does a bin of any STORE (log 38), and in all of
these the bin test fails and the entry has no bid. An OFFER for the carrier of an open entry replaces that entry in place, its
waiting BID or CLAIM leaving the transmit queue (R123, R129). The front unit sees the carrier laden in every case (R75). `u` is where
the consequences end (log 11). -/
def Obligations.OfferFindsDuplicate : Prop :=
  ∀ (now : Now) (src carrier bin tag : Nat) (c : Config) (e : OfferEntry) (s a b : State) (seen : State → State),
    a = s.arrive now → s.powered = true → Handed c ⟨src, .offer carrier bin tag⟩ a b →
    (∀ t, seen t = { t with front := { t.front with
      view := setAt carrier (.laden (some bin) none (some src)) t.front.view } }) →
    e = { serial := b.offers.nextSerial, carrier := carrier, bin := bin, tag := tag, offerer := src
          windowEnd := b.clock / 1000 + c.bidWindow, ownCost := none, own := .none, best := none, heard := 0, job := none
          withheld := none } →
    (b.offers.entries.length < 4 → (∀ x ∈ b.offers.entries, x.carrier ≠ carrier) →
      (∀ m u k, DuplicateMarked c bin b m → m.station = .run → m.fire.state = .calm → 0 < m.dir.emptyCount →
        m.queue.jobs.length < 8 → m.front.pcs.isSome = true → (∀ j ∈ m.queue.jobs, j.kind = .store → j.carrier ≠ some carrier) →
        m.bidCost carrier = some k → m.line.general.length < 8 →
        SettlesTo { m with
          offers := { entries := b.offers.entries ++ [{ e with ownCost := some k, own := .bidPending }]
                      nextSerial := b.offers.nextSerial + 1 }
          line := { m.line with
            general := m.line.general ++ [newEntry m.line.nextOrder (.bid carrier tag src k) .all (some b.offers.nextSerial)]
            nextOrder := m.line.nextOrder + 1 } } u →
        exec (.offer now src carrier bin tag) s = .next (seen u))
      ∧ (∀ m u, DuplicateMarked c bin b m → m.station ≠ .run ∨ m.fire.state ≠ .calm →
        SettlesTo { m with offers := { entries := b.offers.entries ++ [e], nextSerial := b.offers.nextSerial + 1 } } u →
        exec (.offer now src carrier bin tag) s = .next (seen u))
      ∧ (∀ i r j u, b.dir.lookup bin = some i → getAt i b.dir.records = some r → b.jobOfBin bin = some j →
        (r.state = .outbound → j.kind = .fetch → j.stage = .picking →
          SettlesTo { recordFault .directory b with
            offers := { entries := b.offers.entries ++ [e], nextSerial := b.offers.nextSerial + 1 } } u →
          exec (.offer now src carrier bin tag) s = .next (seen u))
        ∧ (r.state = .held ∨ r.state = .outbound → j.kind = .store →
          SettlesTo { b with offers := { entries := b.offers.entries ++ [e], nextSerial := b.offers.nextSerial + 1 } } u →
          exec (.offer now src carrier bin tag) s = .next (seen u)))
      ∧ ((∃ i r, b.dir.lookup bin = some i ∧ getAt i b.dir.records = some r ∧ r.state ≠ .held ∧ r.state ≠ .outbound)
          ∨ (b.dir.lookup bin = none ∧ ∃ j, b.jobOfBin bin = some j) →
        exec (.offer now src carrier bin tag) s = .next
          (seen { b with offers := { entries := b.offers.entries ++ [e], nextSerial := b.offers.nextSerial + 1 } })))
    ∧ ∀ before old behind general, b.offers.entries = before ++ old :: behind → (∀ x ∈ before, x.carrier ≠ carrier) →
      old.carrier = carrier → b.dir.lookup bin = none → b.jobOfBin bin = none → b.line.attempt = none →
      general = b.line.general.filter (fun z => z.offer != some old.serial) →
      (b.station ≠ .run ∨ (∃ j ∈ b.queue.jobs, j.kind = .store ∧ j.carrier = some carrier) →
        exec (.offer now src carrier bin tag) s = .next (seen { b with
          offers := { entries := before ++ e :: behind, nextSerial := b.offers.nextSerial + 1 }
          line := { b.line with general := general } }))
      ∧ (∀ k, b.station = .run → b.fire.state = .calm → 0 < b.dir.emptyCount → b.queue.jobs.length < 8 →
        b.front.pcs.isSome = true → (∀ j ∈ b.queue.jobs, j.kind = .store → j.carrier ≠ some carrier) →
        b.bidCost carrier = some k → general.length < 8 →
        exec (.offer now src carrier bin tag) s = .next (seen { b with
          offers := { entries := before ++ { e with ownCost := some k, own := .bidPending } :: behind
                      nextSerial := b.offers.nextSerial + 1 }
          line := { b.line with
            general := general ++ [newEntry b.line.nextOrder (.bid carrier tag src k) .all (some b.offers.nextSerial)]
            nextOrder := b.line.nextOrder + 1 } }))

/-- BID and CLAIM (R126, R130): unmatched they are ignored. A matched BID is counted and kept when best, and a better one
suppresses a BID that waits. A matched CLAIM closes the entry; a claimed one yields its STORE to a better pair and keeps it
against a worse. -/
def Obligations.BidsAndClaimsAreHeard : Prop :=
  ∀ (now : Now) (src carrier tag offerer cost : Nat) (c : Config) (e : OfferEntry) (p own : BidPair) (x : OfferEntry)
    (s a b : State), a = s.arrive now → s.powered = true →
    p = { cost := cost, address := src } → own = { cost := e.ownCost.getD 65535, address := c.address } →
    x = { e with
      heard := min (e.heard + 1) 255
      best := match e.best with
        | none => some p
        | some q => if p.better q then some p else some q } →
    (Handed c ⟨src, .bid carrier tag offerer cost⟩ a b →
      (b.offerMatch carrier tag offerer = none → exec (.bid now src carrier tag offerer cost) s = .next b)
      ∧ (b.offerMatch carrier tag offerer = some e → (∀ y ∈ b.offers.entries, y.serial = e.serial → y = e) →
          (e.own ≠ .bidPending ∨ own.better p = true →
            exec (.bid now src carrier tag offerer cost) s = .next { b with offers := { b.offers with
              entries := b.offers.entries.map (fun y => if y.serial = e.serial then x else y) } })
          ∧ (e.own = .bidPending → p.better own = true ∨ p = own → b.line.attempt = none →
            exec (.bid now src carrier tag offerer cost) s = .next
              { b with
                offers := { b.offers with
                  entries := b.offers.entries.map (fun y => if y.serial = e.serial then { x with own := .none } else y) }
                line := { b.line with general := b.line.general.filter (fun z => z.offer != some e.serial) } })))
    ∧ (Handed c ⟨src, .claim carrier tag offerer cost⟩ a b →
      (b.offerMatch carrier tag offerer = none → exec (.claim now src carrier tag offerer cost) s = .next b)
      ∧ (b.offerMatch carrier tag offerer = some e →
          (e.own = .none ∨ e.own = .bidSent ∨ (e.own = .claimed ∧ own.better p = true) →
            exec (.claim now src carrier tag offerer cost) s = .next
              { b with offers := { b.offers with entries := b.offers.entries.filter (fun y => y.serial != e.serial) } })
          ∧ (∀ n j i r, e.own = .claimed → e.job = some n → p.better own = true ∨ p = own → b.job n = some j →
              j.kind = .store → j.stage = .awaitCarrier → b.front.action = none → j.slot = some (slotAt c i) →
              namesRecord c (slotAt c i) = true → slotIndex c (slotAt c i) = i → getAt i b.dir.records = some r →
              r.state = .inbound → r.bin = j.bin → b.crane.held = none → b.line.attempt = none →
            exec (.claim now src carrier tag offerer cost) s = .next
              { b with
                offers := { b.offers with
                  entries := b.offers.entries.filter (fun y => y.job != some n && y.serial != e.serial) }
                line := { b.line with general := b.line.general.filter (fun z => z.offer != some e.serial) }
                queue := { b.queue with jobs := b.queue.jobs.filter (fun k => k.num != n) }
                dir := { b.dir with
                  records := setAt i { r with state := .empty, bin := 0 } b.dir.records
                  emptyCount := b.dir.emptyCount + 1 } })))

/-- BID_WINDOW_END (R127, R128): a sent bid that no foreign one beats claims the nearest empty slot: INBOUND, a STORE in
AWAIT_CARRIER last in the queue, CLAIM with the cost made at the OFFER, the entry CLAIMED. A claim refused by a test of R128 (out of
service, eight jobs, the bin or the carrier named by a job, the bin in the directory, no EMPTY slot) closes the entry and does nothing
else. A beaten bid and an entry without one close; a BID that still waits is withdrawn. Before its end nothing changes (log 2). -/
def Obligations.WindowEndClaims : Prop :=
  ∀ (now : Now) (carrier : Nat) (c : Config) (e : OfferEntry) (own : BidPair) (s a : State), a = s.arrive now → s.powered = true →
    a.cfg = some c → a.offers.entries.find? (fun x => x.carrier == carrier) = some e →
    own = { cost := e.ownCost.getD 65535, address := c.address } → a.line.attempt = none →
    (a.clock / 1000 < e.windowEnd → exec (.bidWindowEnd now carrier) s = .next a)
    ∧ (e.windowEnd ≤ a.clock / 1000 →
      (e.own = .none ∨ (e.own = .bidSent ∧ ∃ q, e.best = some q ∧ (q.better own = true ∨ q = own)) →
        exec (.bidWindowEnd now carrier) s = .next
          { a with offers := { a.offers with entries := a.offers.entries.filter (fun x => x.serial != e.serial) } })
      ∧ (e.own = .bidPending → exec (.bidWindowEnd now carrier) s = .next
          { a with
            offers := { a.offers with entries := a.offers.entries.filter (fun x => x.serial != e.serial) }
            line := { a.line with general := a.line.general.filter (fun z => z.offer != some e.serial) } })
      ∧ (e.own = .bidSent → (∀ q, e.best = some q → own.better q = true) →
          a.station ≠ .run ∨ a.fire.state ≠ .calm ∨ 8 ≤ a.queue.jobs.length ∨ (∃ j ∈ a.queue.jobs, j.bin = e.bin)
            ∨ (∃ j ∈ a.queue.jobs, j.kind = .store ∧ j.carrier = some e.carrier)
            ∨ (∃ q ∈ a.dir.records, q.bin = e.bin ∧ (q.state = .held ∨ q.state = .outbound ∨ q.state = .inbound))
            ∨ a.nearestEmpty = none →
          exec (.bidWindowEnd now carrier) s = .next
            { a with offers := { a.offers with entries := a.offers.entries.filter (fun x => x.serial != e.serial) } })
      ∧ (∀ ad i r n, e.own = .bidSent → (∀ q, e.best = some q → own.better q = true) →
          a.station = .run → a.fire.state = .calm → a.queue.jobs.length < 8 → a.line.general.length < 8 →
          (∀ j ∈ a.queue.jobs, j.bin ≠ e.bin ∧ (j.kind = .store → j.carrier ≠ some e.carrier)) →
          (∀ q ∈ a.dir.records, q.bin = e.bin → q.state ≠ .held ∧ q.state ≠ .outbound ∧ q.state ≠ .inbound) →
          a.nearestEmpty = some ad → namesRecord c ad = true → slotIndex c ad = i → getAt i a.dir.records = some r →
          r.state = .empty → r.bin = 0 → n = a.queue.nextNumber →
          exec (.bidWindowEnd now carrier) s = .next
            { a with
              dir := { a.dir with
                records := setAt i { r with state := .inbound, bin := e.bin } a.dir.records
                emptyCount := a.dir.emptyCount - 1 }
              queue := { a.queue with
                jobs := a.queue.jobs ++
                  [{ num := n, kind := .store, bin := e.bin, slot := some ad, requester := e.offerer, tag := e.tag
                     carrier := some e.carrier, stage := .awaitCarrier, start := none, pulledSince := none, promoted := false
                     reoffer := false }]
                counter := (n + 1) % 256 }
              offers := { a.offers with
                entries := a.offers.entries.map
                  (fun x => if x.serial = e.serial then { x with own := .claimed, job := some n } else x) }
              line := { a.line with
                general := a.line.general ++
                  [newEntry a.line.nextOrder (.claim e.carrier e.tag e.offerer (e.ownCost.getD 65535)) .all (some e.serial)]
                nextOrder := a.line.nextOrder + 1 } }))

/-! ## Fire shutdown (chapter 8) -/

/-- FIN (R140, R142): a reading active begins or keeps its run and is the moment FIN was last active; 100 ms without a break, in a
shutdown, clears the all-clear flag, queues ALARM and starts the repeat timer; the timer's expiry queues another in its place; a
reading inactive stops both. ALLCLEAR (R143, R154): from the fire panel with the zone in its mask it sets the flag; from any
other source it is counted NOT_MINE. A row whose event cannot be changes nothing (log 2); the repeat is timed from the expiry
command's moment (log 24), and an ALARM that replaces one keeps its queuing order (log 34). -/
def Obligations.FinAndAllClearAreTaken : Prop :=
  ∀ (now : Now) (c : Config) (s a : State), a = s.arrive now → s.powered = true → a.cfg = some c →
    exec (.finReadActive now) s = .next { a with fire := { a.fire with
        fin := true, finLast := a.clock
        finRun := if a.fire.fin = true ∧ a.fire.finRun ≠ none then a.fire.finRun else some a.clock } }
    ∧ exec (.finInactive now) s = .next { a with fire := { a.fire with
        fin := false, filtered := false, finRun := none, alarmTimer := none
        finLast := if a.fire.fin = true then a.clock else a.fire.finLast } }
    ∧ (a.fire.fin = false ∨ a.fire.filtered = true ∨ a.fire.finRun = none
        ∨ (∃ t0, a.fire.finRun = some t0 ∧ a.clock < t0 + 100000) → exec (.finActive now) s = .next a)
    ∧ (∀ t0, a.fire.fin = true → a.fire.filtered = false → a.fire.finRun = some t0 → t0 + 100000 ≤ a.clock →
        a.fire.state = .sealing ∨ a.fire.state = .sealed ∨ a.fire.state = .breached → a.line.reserved = none →
        (∀ e ∈ a.line.general, e.isAlarm = false) →
        exec (.finActive now) s = .next { a with
          fire := { a.fire with filtered := true, finLast := a.clock, alarmTimer := some (a.clock + 1000000), allClear := false }
          line := { a.line with
            reserved := some (newEntry a.line.nextOrder (.alarm c.zone) .all none), nextOrder := a.line.nextOrder + 1 } })
    ∧ (∀ t0 e, a.fire.alarmTimer = some t0 →
        (a.clock < t0 → exec (.alarmRepeatTimer now) s = .next a)
        ∧ (t0 ≤ a.clock → a.line.reserved = some e → e.isAlarm = true → a.line.attempt = none →
          exec (.alarmRepeatTimer now) s = .next { a with
            fire := { a.fire with alarmTimer := some (a.clock + 1000000) }
            line := { a.line with reserved := some (newEntry e.order (.alarm c.zone) .all none) } }))
    ∧ ∀ src mask, a.line.mode = .locked → frameOk c.carriers ⟨src, .allclear mask⟩ = true →
      (src ≠ c.panel → exec (.allclear now src mask) s = .next { a with line := { a.line with counters := { a.line.counters with
          notMine := satInc a.line.counters.notMine } } })
      ∧ (src = c.panel → mask.testBit c.zone = false → exec (.allclear now src mask) s = .next a)
      ∧ ∀ t, src = c.panel → mask.testBit c.zone = true → t = { a with fire := { a.fire with allClear := true } } →
        progress t = none → exec (.allclear now src mask) s = .next t

/-- A trigger (R141, R143, R144, R146, R147, R151): an ALARM naming the zone or flagged for all zones, or FIN active for 100 ms. In RUN
with the crane IDLE, homed and clear of the shutter plane the station is in SHUTDOWN and SEALING, the crane STOPPED, the offers
closed, and each FETCH in WAITING and each STORE in AWAIT_CARRIER failed FIRE_STOP, its slot HELD or EMPTY again, and gone from the
queue, the other jobs kept. With an axis driven the station is in HALTING, its deadline running, the crane in STOPPING (R64): a move
step ends and stays named, homing is given up, both axes come down; a running cycle goes on and is named. An ALARM for other zones
changes nothing. -/
def Obligations.TriggerShutsDown : Prop :=
  ∀ (now : Now) (src mask cause : Nat) (c : Config) (s a : State), a = s.arrive now → s.powered = true → a.cfg = some c →
    a.line.mode = .locked → frameOk c.carriers ⟨src, .alarm mask cause⟩ = true →
    (mask.testBit c.zone = false → cause.testBit 7 = false → exec (.alarm now src mask cause) s = .next a)
    ∧ ∀ i, AlarmTriggers now a i ∨ FinTriggers now a i →
      a.fire.state = .calm →
      (a.station = .run → a.fire.scl = false → a.crane.mode = .idle → a.crane.travel.duty = 0 →
        a.crane.lift.duty = 0 → a.crane.fork = none → a.crane.step = none → a.crane.held = none → a.crane.named = none →
        a.crane.clearing = none → a.crane.homing = none → a.front.action = none → a.crane.travel.homed = true →
        c.t0 + c.clearBay * c.cb ≤ a.crane.travel.count + c.window →
        ∃ t, exec i s = .next t ∧ t.station = .shutdown ∧ t.fire.state = .sealing ∧ t.crane.mode = .stopped
          ∧ t.crane.travel.Quiet ∧ t.crane.lift.Quiet ∧ t.fire.shutter = some (a.clock + 1000 * c.shutterLimit)
          ∧ t.fire.deadline = none ∧ t.fire.allClear = false ∧ t.fire.startPoint = .none ∧ t.outputs.shc = true
          ∧ t.offers.entries = []
          ∧ (∀ j ∈ t.queue.jobs, ¬ (j.kind = .fetch ∧ j.stage = .waiting) ∧ ¬ (j.kind = .store ∧ j.stage = .awaitCarrier))
          ∧ ((a.queue.jobs.map (·.num)).Nodup → a.line.general.length + a.queue.jobs.length < 8 →
            t.queue.jobs = a.queue.jobs.filter (fun j => !decide ((j.kind = .fetch ∧ j.stage = .waiting)
              ∨ (j.kind = .store ∧ j.stage = .awaitCarrier)))
            ∧ ∀ j ∈ a.queue.jobs, (j.kind = .fetch ∧ j.stage = .waiting) ∨ (j.kind = .store ∧ j.stage = .awaitCarrier) →
              (∃ x ∈ t.line.general, x.body = .failed j.bin j.tag .fireStop ∧ x.dest = .station j.requester)
              ∧ ∀ ad r, j.slot = some ad → a.slotRec ad = some r → r.bin = j.bin →
                (j.kind = .fetch → r.state = .outbound → t.slotIs ad .held = true)
                ∧ (j.kind = .store → r.state = .inbound → t.slotIs ad .empty = true))
          ∧ t.crane.travel.count = a.crane.travel.count ∧ t.crane.lift.count = a.crane.lift.count
          ∧ t.config = a.config ∧ t.clock = a.clock ∧ t.sensors = a.sensors ∧ t.line.rxQueue = a.line.rxQueue
          ∧ t.front.index = a.front.index ∧ t.front.view = a.front.view ∧ t.front.owner = a.front.owner
          ∧ t.front.intake = a.front.intake ∧ t.front.dispatch = a.front.dispatch ∧ t.faults.current = a.faults.current)
      ∧ (a.crane.held = none → a.dir.firstOwed = none → a.dir.writeList = [] ∨ a.dir.port ≠ .idle → a.crane.clearing = none →
        (∀ st, a.station = .run → a.crane.mode = .step → a.crane.step = some st →
            a.crane.travel.duty ≠ 0 ∨ a.crane.lift.duty ≠ 0 →
            st.phase = .openingRetract ∨ st.phase = .moving →
          ∃ t, exec i s = .next t ∧ t.station = .shutdown ∧ t.fire.state = .halting ∧ t.fire.startPoint = .none
            ∧ t.fire.deadline = some (a.clock + 1000 * (c.fireDeadline - c.shutterLimit))
            ∧ t.crane.mode = .stopping ∧ t.crane.step = none ∧ t.crane.named = some ⟨st.job, st.kind, false⟩
            ∧ (∀ x, ((a.axis x).duty = 0 → (t.axis x).Quiet ∧ (t.axis x).brake = true)
                ∧ ((a.axis x).duty ≠ 0 → t.axis x =
                    { a.axis x with move := .none, target := none, dir := none, step := 0, nextDuty := some 0 }))
            ∧ t.queue = a.queue ∧ t.dir = a.dir ∧ t.offers.entries = [] ∧ t.faults = a.faults ∧ t.outputs.shc = false)
        ∧ (a.station = .homing → a.crane.mode = .homing → a.crane.step = none → a.crane.travel.duty ≠ 0 ∨ a.crane.lift.duty ≠ 0 →
          ∃ t, exec i s = .next t ∧ t.station = .shutdown ∧ t.fire.state = .halting ∧ t.fire.startPoint = .homing
            ∧ t.crane.mode = .stopping ∧ t.crane.homing = none ∧ t.crane.homeTimer = none ∧ t.crane.homingStopped = true
            ∧ (∀ x, ((a.axis x).duty = 0 → (t.axis x).Quiet)
                ∧ ((a.axis x).duty ≠ 0 → (t.axis x).nextDuty = some 0 ∧ (t.axis x).duty = (a.axis x).duty))
            ∧ t.queue = a.queue ∧ t.dir = a.dir)
        ∧ ∀ st, a.station = .run → a.crane.mode = .step → a.crane.homing = none → a.crane.step = some st →
            ((st.phase = .extend ∨ st.phase = .retract ∨ st.phase = .retractObstructed) ∧ a.crane.fork ≠ none)
              ∨ (st.phase = .liftMove ∧ a.crane.lift.duty ≠ 0) →
          ∃ t, exec i s = .next t ∧ t.station = .shutdown ∧ t.fire.state = .halting
            ∧ t.crane = { a.crane with mode := .stopping, named := some ⟨st.job, st.kind, false⟩, homingStopped := false }
            ∧ t.queue = a.queue ∧ t.dir = a.dir)

/-- A trigger outside RUN and HOMING (R158, R159, R141, R147): the crane at rest cannot clear, and the shutter closes in SEALING with
the re-home mark. In START the station stays, with start point LOADING; in LOADING the load ends, its records discarded, and the line
is acquired, with start point LOADING; in ACQUIRING the acquisition runs on, with start point HOMING; in FAULTED the faults, the record
and the jobs it kept stand, with no start point; each of these three becomes SHUTDOWN. HALTED stays HALTED. START and HALTED use the
defaults of R180 and send no ALARM. That in LOADING a loop test or a hunt already begun runs on, where R158 asks for an acquisition, is
the model's reading (log 23). -/
def Obligations.TriggersOutsideRun : Prop :=
  ∀ (now : Now) (i : Instr) (s a : State), a = s.arrive now → s.powered = true → AlarmTriggers now a i ∨ FinTriggers now a i →
    a.fire.state = .calm → a.fire.scl = false → CraneHeld a → a.crane.held = none → a.crane.step = none → a.crane.fork = none →
    a.crane.travel.duty = 0 → a.crane.lift.duty = 0 → a.crane.clearing = none → a.crane.travel.homed = false →
    a.front.action = none → (a.crane.mode = .idle ∧ a.crane.named = none) ∨ a.crane.mode = .stopped →
    (a.station = .start ∨ a.station = .loading ∨ a.station = .acquiring ∨ a.station = .faulted ∨ a.station = .halted →
      ∃ t, exec i s = .next t ∧ t.fire.state = .sealing ∧ t.fire.rehome = true ∧ t.fire.forced = false ∧ t.fire.allClear = false
        ∧ t.fire.deadline = none ∧ t.fire.recordMark = true ∧ t.crane.mode = .stopped ∧ t.crane.travel.Quiet ∧ t.crane.lift.Quiet
        ∧ t.crane.travel.count = a.crane.travel.count ∧ t.crane.lift.count = a.crane.lift.count
        ∧ t.outputs.shc = true ∧ t.outputs.seo = false ∧ t.offers.entries = [] ∧ t.faults = a.faults ∧ t.config = a.config
        ∧ t.clock = a.clock ∧ t.sensors = a.sensors ∧ t.front = a.front ∧ t.line.rxQueue = a.line.rxQueue
        ∧ t.line.counters.collision = a.line.counters.collision
        ∧ (a.station = .start → a.config = none → t.station = .start ∧ t.fire.startPoint = .loading
          ∧ t.fire.shutter = some (a.clock + 20000000) ∧ t.line.mode = a.line.mode ∧ t.line.reserved = a.line.reserved)
        ∧ (a.station = .loading → t.station = .shutdown ∧ t.fire.startPoint = .loading ∧ t.dir.port ≠ .reading ∧ t.dir.staging = []
          ∧ t.line.mode = (if a.line.mode = .off then .loopTest else a.line.mode))
        ∧ (a.station = .acquiring → t.station = .shutdown ∧ t.fire.startPoint = .homing ∧ t.line.mode = a.line.mode)
        ∧ (a.station = .faulted → t.station = .shutdown ∧ t.fire.startPoint = .none ∧ t.line.mode = a.line.mode
          ∧ ((∀ j ∈ a.queue.jobs, ¬ (j.kind = .fetch ∧ j.stage = .waiting) ∧ ¬ (j.kind = .store ∧ j.stage = .awaitCarrier)) →
            t.queue = a.queue))
        ∧ (a.station = .halted → t.station = .halted ∧ t.fire.startPoint = .none ∧ t.fire.shutter = some (a.clock + 20000000)
          ∧ t.queue = a.queue ∧ t.line.mode = a.line.mode ∧ t.line.reserved = a.line.reserved)
        ∧ ∀ c, a.cfg = some c → t.fire.shutter = some (a.clock + 1000 * c.shutterLimit)
          ∧ (i = .finActive now → a.line.reserved = none → (∀ e ∈ a.line.general, e.isAlarm = false) →
            t.fire.alarmTimer = some (a.clock + 1000000) ∧ ∃ x, t.line.reserved = some x ∧ x.body = .alarm c.zone ∧ x.dest = .all))

/-- A controlled stop carried out in HALTING (R64, R66, R67, R145 to R147): once the last output is zero the crane is STOPPED with its
report, the active job is disposed of by it, and the station goes to SEALING when the crane is clear of the shutter plane, into the
clearing move when it is not, and to SEALING with the re-home mark when it cannot tell. A FETCH not picked fails FIRE_STOP and its slot
is HELD again; a STORE not picked leaves a QUIET record, a job with its bin on the fork a LADEN one; with FBN clear it fails. The
clearing move done, the record takes the counts and SEALING follows (R148). That the clearing drive's duty holds at once is log 12; that
the records keep the kind of the step too, and whether homing has come since, is the model's (log 19). -/
def Obligations.StopsAreCarriedOut : Prop :=
  ∀ (now : Now) (axis : AxisName) (c : Config) (s a : State), a = s.arrive now → s.powered = true → a.cfg = some c →
    a.station = .shutdown → a.fire.scl = false → a.crane.step = none → a.crane.held = none → a.dir.firstOwed = none →
    a.dir.writeList = [] ∨ a.dir.port ≠ .idle → a.line.general.length < 8 →
    (a.fire.state = .halting → a.fire.recordMark = false → a.crane.mode = .stopping → a.crane.fork = none →
        (a.axis axis).nextDuty = some 0 → (∀ x, x ≠ axis → (a.axis x).duty = 0) → a.crane.homing = none →
          a.crane.clearing = none →
      ∃ t, exec (.dutyPeriodStart now axis) s = .next t ∧ t.station = .shutdown ∧ t.fire.recordMark = true
        ∧ t.crane.travel.count = a.crane.travel.count ∧ t.crane.lift.count = a.crane.lift.count
        ∧ (a.crane.travel.homed = true → c.t0 + c.clearBay * c.cb ≤ a.crane.travel.count + c.window →
            t.fire.state = .sealing ∧ t.fire.shutter = some (a.clock + 1000 * c.shutterLimit) ∧ t.fire.deadline = none
              ∧ t.crane.mode = .stopped ∧ t.crane.travel.Quiet ∧ t.crane.lift.Quiet
              ∧ t.fire.rehome = (a.fire.rehome || a.crane.homingStopped))
        ∧ (a.crane.travel.homed = false →
            t.fire.state = .sealing ∧ t.fire.rehome = true ∧ t.crane.mode = .stopped ∧ t.crane.travel.Quiet ∧ t.crane.lift.Quiet)
        ∧ (a.crane.travel.homed = true → a.crane.travel.count + c.window < c.t0 + c.clearBay * c.cb → a.sensors.fkc = true →
            a.sensors.drdy = true →
            t.fire.state = .clearing ∧ t.fire.deadline = a.fire.deadline ∧ t.crane.mode = .clearing ∧ t.crane.lift.Quiet
              ∧ t.crane.travel.move = .driving ∧ t.crane.travel.target = some (c.t0 + c.clearBay * c.cb)
              ∧ t.crane.travel.cap = 1 ∧ t.crane.travel.step ≤ 1 ∧ t.crane.travel.outDir = .up ∧ t.crane.travel.brake = false)
        ∧ (a.crane.named = none → t.faults.suspension = a.faults.suspension)
        ∧ ∀ st j, a.crane.named = some st → st.job = j.num → a.job j.num = some j → (∀ k ∈ a.queue.jobs, k.num = j.num → k = j) →
            a.front.pulling j.num = false →
          (∀ ad r, j.kind = .fetch → j.stage = .toPick ∨ j.stage = .picking → j.slot = some ad → a.slotRec ad = some r →
              r.state = .outbound → r.bin = j.bin →
            t.slotIs ad .held = true ∧ (∀ k ∈ t.queue.jobs, k.num ≠ j.num) ∧ t.faults.suspension = none
              ∧ ∃ x ∈ t.line.general, x.body = .failed j.bin j.tag .fireStop ∧ x.dest = .station j.requester)
          ∧ (j.kind = .store → j.stage = .toPick ∨ j.stage = .picking →
            t.job j.num = some j ∧ t.faults.suspension = some
              { kind := .quiet, job := j.num, stage := j.stage, done := st.done, cause := .fire, travel := a.crane.travel.count
                lift := a.crane.lift.count, primary := a.primary, step := st.kind, homed := false })
          ∧ (j.stage = .toPlace ∨ j.stage = .placing → a.sensors.fbn = true →
            t.job j.num = some j ∧ t.faults.suspension = some
              { kind := .laden, job := j.num, stage := j.stage, done := st.done, cause := .fire, travel := a.crane.travel.count
                lift := a.crane.lift.count, primary := a.primary, step := st.kind, homed := false })
          ∧ (j.stage = .toPlace ∨ j.stage = .placing → a.sensors.fbn = false →
            (∀ k ∈ t.queue.jobs, k.num ≠ j.num) ∧ t.faults.suspension = none
              ∧ ∃ x ∈ t.line.general, x.body = .failed j.bin j.tag .fireStop ∧ x.dest = .station j.requester))
    ∧ ∀ goal, a.fire.state = .clearing → a.crane.mode = .clearing → a.crane.clearing = some .moving → a.crane.homing = none →
      a.crane.travel.move = .settling → a.crane.travel.target = some goal → a.crane.travel.duty = 0 →
      a.crane.travel.quietSince + 20000 ≤ a.clock → Machine.dist goal a.crane.travel.count ≤ c.window →
      ∃ t, exec (.axisAtRest now .travel) s = .next t ∧ t.fire.state = .sealing ∧ t.crane.mode = .stopped ∧ t.crane.clearing = none
        ∧ t.fire.shutter = some (a.clock + 1000 * c.shutterLimit) ∧ t.crane.travel.Quiet ∧ t.crane.lift.Quiet
        ∧ t.faults.suspension = a.faults.suspension.map
            (fun r => { r with travel := a.crane.travel.count, lift := a.crane.lift.count })
        ∧ t.queue = a.queue ∧ t.dir = a.dir

/-- SCL and the shutter's limit (R151 to R153): closed in SEALING it is SEALED with SEO and PARKED; open in SEALED it is BREACHED
with SHUTTER raised; not closed within the limit SEALING is BREACHED with SHUTTER and PARKED; closed in BREACHED it is SEALED with SEO
and no second PARKED. In REOPENING (R155, R164) the limit run out makes the fire unit CALM, raises SHUTTER and enters FAULTED; a
trigger clears the all-clear flag and returns to SEALING with the limit afresh, FIN's with the station's own ALARM. SCL lost there
changes nothing else. `u` is where the consequences end (log 11). -/
def Obligations.ShutterIsWatched : Prop :=
  ∀ (now : Now) (c : Config) (k : Option SuspKind) (s a t : State), a = s.arrive now → s.powered = true → a.cfg = some c →
    k = a.faults.suspension.map (·.kind) → progress t = none →
    (a.fire.state = .sealing → a.fire.parked = false → a.line.reserved = none → AtRest a →
      t = { a with
        fire := { a.fire with state := .sealed, scl := true, shutter := none, parked := true }
        line := { a.line with
          reserved := some (newEntry a.line.nextOrder (.parked c.zone a.fire.forced false k) .all none)
          nextOrder := a.line.nextOrder + 1 } } →
      exec (.sclActive now) s = .next t ∧ t.outputs.seo = true ∧ t.outputs.shc = true)
    ∧ (a.fire.state = .sealed →
      t = recordFault .shutter { a with fire := { a.fire with state := .breached, scl := false } } →
      exec (.sclInactive now) s = .next t ∧ t.outputs.seo = false ∧ t.outputs.shc = true)
    ∧ (∀ due, a.fire.state = .sealing → a.fire.parked = false → a.line.reserved = none → a.fire.shutter = some due →
      due ≤ a.clock →
      t = recordFault .shutter { a with
        fire := { a.fire with state := .breached, shutter := none, parked := true }
        line := { a.line with
          reserved := some (newEntry a.line.nextOrder (.parked c.zone a.fire.forced true k) .all none)
          nextOrder := a.line.nextOrder + 1 } } →
      exec (.shutterTimerExpiry now) s = .next t ∧ t.outputs.seo = false ∧ t.outputs.shc = true)
    ∧ (a.fire.state = .breached → AtRest a →
      t = { a with fire := { a.fire with state := .sealed, scl := true, shutter := none } } →
      exec (.sclActive now) s = .next t ∧ t.outputs.seo = true ∧ t.outputs.shc = true)
    ∧ (a.fire.state = .reopening →
      exec (.sclInactive now) s = .next { a with fire := { a.fire with scl := false } }
      ∧ (∀ due, a.station = .shutdown → CraneHeld a → a.crane.held = none → a.fire.shutter = some due → due ≤ a.clock →
        ∃ u, exec (.shutterTimerExpiry now) s = .next u ∧ u.station = .faulted ∧ inSet u.faults.current .shutter = true
          ∧ inSet u.faults.accrued .shutter = true ∧ u.crane.mode = .stopped ∧ u.crane.travel.Quiet ∧ u.crane.lift.Quiet
          ∧ u.crane.travel.homed = false ∧ u.crane.lift.homed = false ∧ u.offers.entries = []
          ∧ u.fire.state = .calm ∧ u.fire.allClear = false
          ∧ u.outputs.sho = false ∧ u.outputs.shc = false ∧ u.front = a.front ∧ u.config = a.config ∧ u.clock = a.clock
          ∧ u.crane.travel.count = a.crane.travel.count ∧ u.crane.lift.count = a.crane.lift.count
          ∧ u.faults.suspension = a.faults.suspension)
      ∧ ∀ i u, (AlarmTriggers now a i →
          SettlesTo { a with fire := { a.fire with
            state := .sealing, allClear := false, parked := false, deadline := none
            shutter := some (a.clock + 1000 * c.shutterLimit) } } u → exec i s = .next u)
        ∧ (FinTriggers now a i → a.line.reserved = none → (∀ e ∈ a.line.general, e.isAlarm = false) →
          SettlesTo { a with
            fire := { a.fire with
              state := .sealing, allClear := false, parked := false, deadline := none, filtered := true, finLast := a.clock
              alarmTimer := some (a.clock + 1000000), shutter := some (a.clock + 1000 * c.shutterLimit) }
            line := { a.line with
              reserved := some (newEntry a.line.nextOrder (.alarm c.zone) .all none), nextOrder := a.line.nextOrder + 1 } } u →
          exec i s = .next u))

/-- DEADLINE_TIMER_EXPIRY in HALTING or CLEARING (R149): an emergency stop, the forced and re-home marks, SHC at once and SEALING;
earlier nothing changes (log 2). A severe fault raised there (R150, R162) does the same but for the forced mark, and is in both sets; the
first stop report of the shutdown forms a LADEN record with cause FAULT, one already formed stands. That the record keeps the kind of the
step too, and whether homing has come since, is the model's (log 19). -/
def Obligations.DeadlineOrFaultForcesSealing : Prop :=
  ∀ (now : Now) (c : Config) (s a : State), a = s.arrive now → s.powered = true → a.cfg = some c →
    (∀ due, a.fire.deadline = some due → a.clock < due → exec (.deadlineTimerExpiry now) s = .next a)
    ∧ (a.fire.state = .halting ∨ a.fire.state = .clearing → a.fire.scl = false → a.crane.held = none → CraneHeld a →
      (∀ due, a.fire.deadline = some due → due ≤ a.clock →
        ∃ t, exec (.deadlineTimerExpiry now) s = .next t ∧ t.station = a.station ∧ t.fire.state = .sealing
          ∧ t.fire.forced = true ∧ t.fire.rehome = true ∧ t.fire.recordMark = true ∧ t.fire.deadline = none
          ∧ t.fire.shutter = some (a.clock + 1000 * c.shutterLimit) ∧ t.outputs.shc = true
          ∧ t.crane.mode = .stopped ∧ t.crane.travel.Quiet ∧ t.crane.lift.Quiet
          ∧ t.outputs.tspDuty = 0 ∧ t.outputs.vspDuty = 0 ∧ t.faults.current = a.faults.current
          ∧ t.config = a.config ∧ t.clock = a.clock ∧ t.sensors = a.sensors ∧ t.front = a.front
          ∧ t.line.rxQueue = a.line.rxQueue
          ∧ t.crane.travel.count = a.crane.travel.count ∧ t.crane.lift.count = a.crane.lift.count)
      ∧ ∀ i f, RaisesSevere now a i f → a.station = .shutdown →
        ∃ t, exec i s = .next t ∧ t.station = .shutdown ∧ t.fire.state = .sealing
          ∧ t.fire.forced = a.fire.forced ∧ t.fire.rehome = true ∧ t.fire.recordMark = true ∧ t.fire.deadline = none
          ∧ t.fire.shutter = some (a.clock + 1000 * c.shutterLimit) ∧ t.outputs.shc = true
          ∧ t.crane.mode = .stopped ∧ t.crane.travel.Quiet ∧ t.crane.lift.Quiet
          ∧ t.outputs.tspDuty = 0 ∧ t.outputs.vspDuty = 0 ∧ inSet t.faults.current f = true ∧ inSet t.faults.accrued f = true
          ∧ t.config = a.config ∧ t.clock = a.clock ∧ t.front = a.front ∧ t.line.rxQueue = a.line.rxQueue
          ∧ t.crane.travel.count = a.crane.travel.count ∧ t.crane.lift.count = a.crane.lift.count
          ∧ (a.fire.recordMark = true → t.faults.suspension = a.faults.suspension ∧ t.queue = a.queue)
          ∧ ∀ st j, a.fire.recordMark = false → a.crane.mode = .stopping → a.crane.step = some st → st.job = j.num →
            a.job j.num = some j → (∀ k ∈ a.queue.jobs, k.num = j.num → k = j) → j.stage = .toPlace ∨ j.stage = .placing →
            a.sensors.fbn = true → f ≠ .binLost →
            t.job j.num = some j ∧ t.faults.suspension = some
              { kind := .laden, job := j.num, stage := j.stage, done := false, cause := .fault, travel := a.crane.travel.count
                lift := a.crane.lift.count, primary := t.primary, step := st.kind, homed := false })

/-- REOPENING (R155 to R157): FIN settled with the all-clear flag set opens a SEALED or BREACHED shutter; open, the fire unit is
CALM with its marks clear and the station takes the first row of R156 that fits: start point LOADING loads, a severe fault goes to
FAULTED, start point HOMING, a forced stop or the re-home mark home first, and else the station serves again in RUN. -/
def Obligations.ReopeningResumes : Prop :=
  ∀ (now : Now) (c : Config) (s a t : State), a = s.arrive now → s.powered = true → a.cfg = some c →
    (a.fire.state = .sealed ∨ a.fire.state = .breached → a.fire.allClear = true → a.fire.fin = false →
      a.fire.finLast + 1000 * c.finSettle ≤ a.clock → a.fire.scl = false ∨ a.fire.state = .sealed →
      a.crane.held = none → a.dir.firstOwed = none → a.dir.writeList = [] ∨ a.dir.port ≠ .idle → a.crane.step = none →
      a.crane.mode = .stopped → a.crane.clearing = none → a.crane.homing = none → a.sensors.sop = false →
      t = { a with fire := { a.fire with state := .reopening, shutter := some (a.clock + 1000 * c.shutterLimit) } } →
      exec (.finSettled now) s = .next t ∧ t.outputs.sho = true ∧ t.outputs.shc = false ∧ t.outputs.seo = false)
    ∧ (a.fire.state = .reopening → a.station = .shutdown → a.crane.mode = .stopped → a.crane.step = none → a.crane.held = none →
      a.crane.clearing = none → a.crane.homing = none → a.dir.firstOwed = none → a.dir.writeList = [] ∨ a.dir.port ≠ .idle →
      (a.fire.startPoint = .loading →
        ∃ u, exec (.sopActive now) s = .next u ∧ u.station = .loading ∧ u.fire.state = .calm ∧ u.fire.startPoint = .none
          ∧ u.dir.port = .reading ∧ u.dir.records = [] ∧ u.dir.staging = [] ∧ u.dir.portSince = a.clock ∧ u.queue = a.queue)
      ∧ (a.fire.startPoint ≠ .loading → hasSevere a.faults.current = true →
        ∃ u, exec (.sopActive now) s = .next u ∧ u.station = .faulted ∧ u.fire.state = .calm ∧ u.fire.startPoint = .none
          ∧ u.crane.mode = .stopped ∧ u.crane.travel.homed = false ∧ u.crane.lift.homed = false ∧ u.offers.entries = []
          ∧ u.faults.current = a.faults.current ∧ u.faults.suspension = a.faults.suspension)
      ∧ (a.fire.startPoint = .none → hasSevere a.faults.current = false → a.fire.forced = false → a.fire.rehome = false →
        a.faults.suspension = none → a.queue.jobs = [] →
        exec (.sopActive now) s = .next
          { a with
            station := .run
            sensors := { a.sensors with sop := true }
            fire := { a.fire with state := .calm, allClear := false, shutter := none, deadline := none, forced := false
                                  rehome := false, recordMark := false, startPoint := .none } })
      ∧ (hasSevere a.faults.current = false → a.fire.startPoint ≠ .loading →
          a.fire.startPoint = .homing ∨ a.fire.forced = true ∨ a.fire.rehome = true → a.sensors.fkc = true →
          a.sensors.drdy = true → anyLimit a.sensors = false →
        ∃ u, exec (.sopActive now) s = .next u ∧ u.station = .homing ∧ u.fire.state = .calm ∧ u.fire.forced = false
          ∧ u.fire.rehome = false ∧ u.crane.mode = .homing ∧ u.crane.travel.homed = false ∧ u.crane.lift.homed = false
          ∧ u.crane.homeTimer = some (a.clock + 1000 * c.homeLimit) ∧ u.faults.suspension = a.faults.suspension
          ∧ u.queue = a.queue))

/-- The suspension record served as the station enters RUN from a shutdown (R38, R157, R171, R172). QUIET: the STORE is in WAITING
again, before the first waiting job, else first. LADEN: with FBN clear the job fails with the outcome of the record's cause and a
STORE's slot is EMPTY; with the crane moved beyond the window since, POSITION enters FAULTED and the record stands; a slot jammed by
the fork is BLOCKED OBSTRUCTED and another taken, the record then standing in TO_PLACE (log 41); otherwise the job is given its step and
the record is NONE. `u` is where the consequences end (log 11). -/
def Obligations.RecordIsServed : Prop :=
  ∀ (now : Now) (c : Config) (r : Suspension) (j : Job) (s a b u : State), a = s.arrive now → s.powered = true → a.cfg = some c →
    a.fire.state = .reopening → a.station = .shutdown → a.crane.mode = .stopped → a.crane.step = none → a.crane.held = none →
    a.crane.clearing = none → a.crane.homing = none → a.dir.firstOwed = none → a.dir.writeList = [] ∨ a.dir.port ≠ .idle →
    hasSevere a.faults.current = false → a.fire.startPoint = .none → a.fire.forced = false → a.fire.rehome = false →
    a.faults.suspension = some r → r.job = j.num → a.job j.num = some j → (∀ k ∈ a.queue.jobs, k.num = j.num → k = j) →
    b = { a with
      station := .run
      sensors := { a.sensors with sop := true }
      fire := { a.fire with state := .calm, allClear := false, shutter := none, deadline := none, forced := false
                            rehome := false, recordMark := false, startPoint := .none } } →
    (∀ ahead behind k, r.kind = .quiet → a.queue.jobs = ahead ++ j :: behind → (∀ x ∈ ahead ++ behind, x.num ≠ j.num) →
      k = { j with stage := .waiting, start := none } →
      (∀ front x back, ahead ++ behind = front ++ x :: back → x.stage = .waiting → (∀ y ∈ front, y.stage ≠ .waiting) →
        SettlesTo { b with
          queue := { a.queue with jobs := front ++ k :: x :: back }
          faults := { a.faults with suspension := none } } u → exec (.sopActive now) s = .next u)
      ∧ ((∀ y ∈ ahead ++ behind, y.stage ≠ .waiting) →
        SettlesTo { b with
          queue := { a.queue with jobs := k :: (ahead ++ behind) }
          faults := { a.faults with suspension := none } } u → exec (.sopActive now) s = .next u))
    ∧ (r.kind = .laden → a.sensors.fbn = false → a.line.general.length < 8 → a.front.pulling j.num = false → j.stage ≠ .toPick →
      (∀ o t, o = (match r.cause with
          | .fire => FailOutcome.fireStop
          | .fault => FailOutcome.stationFault) →
        t = { Queued (.failed j.bin j.tag o) (.station j.requester) b with
          queue := { a.queue with jobs := a.queue.jobs.filter (fun k => k.num != j.num) }
          offers := { a.offers with entries := a.offers.entries.filter (fun e => e.job != some j.num) }
          faults := { a.faults with suspension := none } } →
        (j.slot = none ∨ (j.kind = .fetch ∧ ∃ ad, j.slot = some ad ∧ a.slotIs ad .outbound = false) → SettlesTo t u →
          exec (.sopActive now) s = .next u)
        ∧ (∀ ad q, j.kind = .store → j.slot = some ad → a.slotRec ad = some q → q.state = .inbound → q.bin = j.bin →
          SettlesTo { t with dir := { a.dir with
            records := setAt (slotIndex c ad) { q with state := .empty, bin := 0 } a.dir.records
            emptyCount := a.dir.emptyCount + 1 } } u →
          exec (.sopActive now) s = .next u)))
    ∧ (r.kind = .laden → a.sensors.fbn = true → r.homed = false → j.stage = .toPlace ∨ j.stage = .placing →
      c.window < Machine.dist a.crane.travel.count r.travel ∨ c.window < Machine.dist a.crane.lift.count r.lift →
      ∃ t, exec (.sopActive now) s = .next t ∧ t.station = .faulted ∧ t.fire.state = .calm
        ∧ inSet t.faults.current .position = true ∧ inSet t.faults.accrued .position = true ∧ t.crane.mode = .stopped
        ∧ t.crane.travel.homed = false ∧ t.crane.lift.homed = false ∧ t.offers.entries = []
        ∧ t.faults.suspension = some r ∧ t.job j.num = some j)
    ∧ (r.kind = .laden → a.sensors.fbn = true →
      r.homed = true ∨ (Machine.dist a.crane.travel.count r.travel ≤ c.window ∧ Machine.dist a.crane.lift.count r.lift ≤ c.window) →
      j.stage = .toPlace ∨ j.stage = .placing →
      (∀ k kind t, jammed r j = false →
        kind = (if j.stage = .toPlace ∧ r.stage = .toPlace ∧ r.done = true ∧ r.step = .movePlace then .place else .movePlace) →
        k = { j with stage := .toPlace } →
        giveStep j.num kind k.placeAt { b with queue := { a.queue with
          jobs := a.queue.jobs.map (fun x => if x.num = j.num then k else x) } } = .taken t →
        SettlesTo { t with
          queue := { t.queue with jobs := t.queue.jobs.map (fun x =>
            if x.num = j.num then { x with start := some ⟨t.placeEstimate k, a.clock / 1000⟩ } else x) }
          faults := { t.faults with suspension := none } } u →
        exec (.sopActive now) s = .next u)
      ∧ (∀ ad ad2 p q d, r.primary = some .forkJam → j.kind = .store → j.slot = some ad → a.slotRec ad = some p →
        p.state = .inbound →
        a.dir.writeList.length < 4 → a.dir.hasPending ad = false →
        d = { a.dir with
          records := setAt (slotIndex c ad) ⟨.blocked .obstructed, 0, false⟩ a.dir.records
          writeList := a.dir.writeList ++ [⟨ad, ⟨.blocked .obstructed, 0⟩, none, 0⟩] } →
        ({ b with dir := d } : State).nearestEmpty = some ad2 → namesRecord c ad2 = true →
        getAt (slotIndex c ad2) d.records = some q → q.state = .empty → q.bin = 0 →
        SettlesTo { b with
          dir := { d with
            records := setAt (slotIndex c ad2) { q with state := .inbound, bin := j.bin } d.records
            emptyCount := a.dir.emptyCount - 1 }
          queue := { a.queue with jobs := a.queue.jobs.map (fun x =>
            if x.num = j.num then { x with stage := .toPlace, slot := some ad2 } else x) }
          faults := { a.faults with suspension := some { r with stage := .toPlace, done := false } } } u →
        exec (.sopActive now) s = .next u))

/-! ## Reports (chapter 9) -/

/-- BEACON_TIMER_EXPIRY (R173 to R175): with no BEACON waiting one is queued, formed from the state as it stands, its reported set
the accrued set, and the next is due one period on; before the timer has run nothing changes (log 2). -/
def Obligations.BeaconIsQueued : Prop :=
  ∀ (now : Now) (c : Config) (due : Nat) (s a : State), a = s.arrive now → s.powered = true → a.cfg = some c →
    a.faults.beacon = some due →
    a.beacon = .beacon a.station a.fire.state a.queue.jobs.length a.dir.emptyCount a.dir.records.length a.primary a.faults.accrued
      a.faults.current ∧
    (a.clock < due → exec (.beaconTimerExpiry now) s = .next a)
    ∧ (due ≤ a.clock → (∀ e ∈ a.line.general, e.isBeacon = false) →
      (a.line.general.length < 8 → exec (.beaconTimerExpiry now) s = .next
        { a with
          faults := { a.faults with reported := a.faults.accrued, beacon := some (due + 1000 * c.beaconPeriod) }
          line := { a.line with
            general := a.line.general ++
              [{ (newEntry a.line.nextOrder a.beacon .all none) with reported := a.faults.accrued }]
            nextOrder := a.line.nextOrder + 1 } })
      ∧ (8 ≤ a.line.general.length → exec (.beaconTimerExpiry now) s = .next
        { a with
          faults := { a.faults with reported := 0, beacon := some (due + 1000 * c.beaconPeriod) }
          line := { a.line with counters := { a.line.counters with txLost := satInc a.line.counters.txLost } } }))

/-! ## The wing line (chapter 11) -/

/-- LOOP_TEST_DONE (R190, R191): every character of the test frame read back equal starts the hunt, armed, its run at 0 and both
fallback timers afresh; one unequal or missing halts the station; that characters beyond the last are not looked at, and those
given taken as read back in time, is the model's choice (log 45). The first lock, in ACQUIRING (R173, R182, R191, R192): by the third match its rate is locked, by silence, or 10 s into
the hunt with ACQ_FAIL counted, the preferred rate; the beacon timer starts and the station enters HOMING with the lift driven toward
its switch; that the lift's creep duty holds at once is the model's reading of R46 (log 12). -/
def Obligations.AcquisitionRuns : Prop :=
  ∀ (now : Now) (readBack : List LineChar) (c : Config) (s a : State), a = s.arrive now → s.powered = true → a.cfg = some c →
    (a.line.mode = .loopTest →
      ((loopTestChars c.address).isPrefixOf readBack = true → exec (.loopTestDone now readBack) s = .next { a with line := { a.line with
          mode := .hunting, armed := true, huntEntry := 0, run := 0, runEntry := 0, huntStart := a.clock, lastFall := a.clock
          tally := [], rx := .awaitLead, rxBuf := [], attempt := none } })
      ∧ ((loopTestChars c.address).isPrefixOf readBack = false → CraneHeld a → a.fire.state = .calm →
          ∃ t, exec (.loopTestDone now readBack) s = .next t ∧ Halts a t))
    ∧ (a.station = .acquiring →
      a.line.mode = .hunting → a.line.everLocked = false → a.fire.state = .calm →
      hasSevere a.faults.current = false → a.crane.held = none → a.crane.clearing = none → a.dir.firstOwed = none →
      a.dir.writeList = [] ∨ a.dir.port ≠ .idle → anyLimit a.sensors = false → a.sensors.fkc = true → a.sensors.drdy = true →
      a.sensors.vhs = false → ∀ i rate rx counters,
      (i = .silentLineFallback now ∧ a.line.lastFall + 2000000 ≤ a.clock ∧ rate = c.preferredRate ∧ rx = .awaitLead
          ∧ counters = a.line.counters)
        ∨ (i = .unreadableLineFallback now ∧ a.line.huntStart + 10000000 ≤ a.clock ∧ rate = c.preferredRate ∧ rx = .awaitLead
          ∧ counters = { a.line.counters with acqFail := satInc a.line.counters.acqFail })
        ∨ (∃ low ch, i = .huntStartTimed now low ch true ∧ isLead ch = true ∧ a.line.armed = true ∧ rate ≤ 5 ∧ minStart rate ≤ low
          ∧ low ≤ maxStart rate ∧ (∀ k, k < rate → maxStart k < low) ∧ a.line.runEntry = rate ∧ a.line.run = 2
          ∧ rx = .awaitAddress ∧ counters = a.line.counters) →
      ∃ t, exec i s = .next t ∧ t.station = .homing ∧ t.line.mode = .locked
        ∧ t.line.rate = some rate ∧ t.line.rx = rx ∧ t.line.everLocked = true ∧ t.line.counters = counters
        ∧ t.faults.beacon = some (a.clock + 1000 * c.beaconPeriod)
        ∧ t.crane.mode = .homing ∧ t.crane.homing = some (.toward .lift) ∧ t.crane.lift.outDir = .down
        ∧ t.crane.lift.duty = c.lift.duty.s0 ∧ t.crane.travel.duty = 0
        ∧ t.crane.homeTimer = some (a.clock + 1000 * c.homeLimit)
        ∧ t.dir = a.dir ∧ t.queue.jobs = a.queue.jobs ∧ t.front = a.front ∧ t.offers = a.offers ∧ t.fire = a.fire
        ∧ t.faults.accrued = a.faults.accrued ∧ t.config = a.config ∧ t.clock = a.clock ∧ t.sensors = a.sensors)

/-- The hunt (R191, R192): a start that fits entry i and the character of a lead after it extend the run made at that entry or
begin one, and disarm; any other start, a glitch below the min start of the entry reached among them, sets the run to 0. The
third match locks the rate with the lead taken; a line silent for 2000 ms, or without a lock 10 s into the hunt, locks the
preferred rate. A disarmed hunt arms once the line has stood at 1 for 11 bit times, and not before (log 2); how long it has
stood so comes with the command and is at most what has passed since the last falling edge (log 27). -/
def Obligations.HuntLocksRate : Prop :=
  ∀ (now : Now) (low i : Nat) (ch : LineChar) (stop : Bool) (c : Config) (l m : LineUnit) (s a : State), a = s.arrive now →
    s.powered = true → a.cfg = some c → a.line.mode = .hunting → i ≤ 5 →
    l = { a.line with armed := false, huntEntry := i } →
    m = { a.line with mode := .locked, rxBuf := [], tally := [], idleFrom := a.clock, everLocked := true } →
    (a.line.armed = true → minStart i ≤ low → low ≤ maxStart i → (∀ k, k < i → maxStart k < low) →
      ((isLead ch && stop) = false → exec (.huntStartTimed now low ch stop) s = .next { a with line := { l with run := 0 } })
      ∧ (isLead ch = true → stop = true → a.line.runEntry = i → a.line.run < 2 →
          exec (.huntStartTimed now low ch stop) s = .next { a with line := { l with run := a.line.run + 1, runEntry := i } })
      ∧ (isLead ch = true → stop = true → a.line.runEntry ≠ i →
          exec (.huntStartTimed now low ch stop) s = .next { a with line := { l with run := 1, runEntry := i } })
      ∧ (isLead ch = true → stop = true → a.line.runEntry = i → a.line.run = 2 → a.line.everLocked = true →
          a.station ≠ .acquiring → AtRest a →
          exec (.huntStartTimed now low ch stop) s = .next { a with line :=
            { m with rate := some i, rx := .awaitAddress, run := 3, armed := false, huntEntry := i } }))
    ∧ (a.line.armed = true → low ≤ maxStart i → low < minStart i → (∀ k, k < i → maxStart k < low) →
        exec (.huntStartTimed now low ch stop) s = .next { a with line := { l with run := 0 } })
    ∧ (a.line.armed = true → maxStart 5 < low → exec (.huntStartTimed now low ch stop) s = .next { a with line :=
        { a.line with armed := false, huntEntry := 5, run := 0 } })
    ∧ (a.line.armed = false → a.line.lastFall + now.line.high ≤ a.clock →
        (charUs a.line.huntEntry ≤ now.line.high →
          exec (.huntRearm now) s = .next { a with line := { a.line with armed := true } })
        ∧ (now.line.high < charUs a.line.huntEntry → exec (.huntRearm now) s = .next a))
    ∧ (a.line.everLocked = true → a.station ≠ .acquiring → AtRest a →
      (a.line.lastFall + 2000000 ≤ a.clock → exec (.silentLineFallback now) s = .next { a with line :=
          { m with rate := some c.preferredRate, rx := .awaitLead } })
      ∧ (a.line.huntStart + 10000000 ≤ a.clock → exec (.unreadableLineFallback now) s = .next { a with line :=
          { m with
            rate := some c.preferredRate, rx := .awaitLead
            counters := { a.line.counters with acqFail := satInc a.line.counters.acqFail } } }))

/-- The receiver while LOCKED (R189, R192, R194, R198): a falling edge sets the idle time back; leads, addresses and characters
move it through its states; a long length, a wrong check, a gap or a framing error discards and is counted. A mark bit of 1 inside a
frame is a framing error (log 26). The 32nd framing error within 1000 ms drops the lock and the hunt starts afresh. That a character
ends half a bit after its stop sample is the model's reading (log 25), that a complete frame takes the place of one whose
FRAME_RECEIVED has not come, and that a gap is measured anew from a falling edge, a glitch's too, its choices (logs 47, 48). -/
def Obligations.CharactersMakeFrames : Prop :=
  ∀ (now : Now) (ch : LineChar) (n : Nat) (w : List Nat) (l : LineUnit) (k : LineCounters) (s a : State), a = s.arrive now →
    s.powered = true →
    a.line.mode = .locked → w = a.line.tally.filter (fun t => decide (a.clock ≤ t + 1000000)) ++ [a.clock] →
    l = { a.line with idleFrom := a.clock + 2 ^ a.line.rate.getD 0 } → k = a.line.counters →
    n = byteAt a.line.rxBuf 3 →
    exec (.lrxFallingEdge now) s = .next { a with line := { a.line with idleFrom := a.clock, lastFall := a.clock } }
    ∧ (a.line.attempt = none →
      (a.line.rx = .awaitLead → exec (.characterReceived now ch) s = .next { a with line :=
          { l with rx := if isLead ch then .awaitAddress else .awaitLead } })
      ∧ (a.line.rx = .awaitAddress → ch.mark = true → exec (.characterReceived now ch) s = .next { a with line :=
          { l with rx := .header, rxBuf := [ch.data] } })
      ∧ (a.line.rx = .awaitAddress → ch.mark = false → isLead ch = false → exec (.characterReceived now ch) s = .next
          { a with line := { l with rx := .awaitLead, rxBuf := [] } })
      ∧ (a.line.rx = .header → a.line.rxBuf.length < 3 → ch.mark = false → exec (.characterReceived now ch) s = .next
          { a with line := { l with rxBuf := a.line.rxBuf ++ [ch.data] } })
      ∧ (a.line.rx = .header → a.line.rxBuf.length = 3 → ch.mark = false → 24 < ch.data.toNat →
          exec (.characterReceived now ch) s = .next { a with line :=
            { l with rx := .awaitLead, rxBuf := [], counters := { k with tooLong := satInc k.tooLong } } })
      ∧ (a.line.rx = .header → a.line.rxBuf.length = 3 → ch.mark = false → ch.data.toNat ≤ 24 →
          exec (.characterReceived now ch) s = .next { a with line :=
            { l with rx := if ch.data.toNat = 0 then .check else .payload, rxBuf := a.line.rxBuf ++ [ch.data] } })
      ∧ (a.line.rx = .payload → 4 ≤ a.line.rxBuf.length → a.line.rxBuf.length + 1 ≤ 4 + n → ch.mark = false →
          exec (.characterReceived now ch) s = .next { a with line :=
            { l with
              rx := if a.line.rxBuf.length + 1 = 4 + n then .check else .payload
              rxBuf := a.line.rxBuf ++ [ch.data] } })
      ∧ (∀ body hi, a.line.rx = .check → a.line.rxBuf = body ++ [hi] → body.length = 4 + n → 4 ≤ body.length → ch.mark = false →
          ((crc16 body).toNat = hi.toNat * 256 + ch.data.toNat → exec (.characterReceived now ch) s = .next { a with line :=
              { l with rx := .awaitLead, rxBuf := [], rxDone := some body } })
          ∧ ((crc16 body).toNat ≠ hi.toNat * 256 + ch.data.toNat → exec (.characterReceived now ch) s = .next { a with line :=
              { l with rx := .awaitLead, rxBuf := [], counters := { k with check := satInc k.check } } })))
    ∧ (a.line.rx = .header ∨ a.line.rx = .payload ∨ a.line.rx = .check →
      (a.line.idleFrom + 2 * charUs (a.line.rate.getD 0) < a.clock → exec (.frameGapAbort now) s = .next { a with line :=
          { a.line with rx := .awaitLead, rxBuf := [], counters := { k with aborted := satInc k.aborted } } })
      ∧ (a.line.attempt = none →
          ∀ i, i = .framingError now ∨ (i = .characterReceived now ch ∧ ch.mark = true) →
          (w.length < 32 → exec i s = .next { a with line :=
            { l with rx := .awaitLead, rxBuf := [], counters := { k with framing := satInc k.framing }, tally := w } })
          ∧ (32 ≤ w.length → exec i s = .next { a with line :=
            { l with
              mode := .hunting, rx := .awaitLead, rxBuf := [], counters := { k with framing := satInc k.framing }
              tally := [], armed := true, huntEntry := 0, run := 0, runEntry := 0, huntStart := a.clock, lastFall := a.clock } })))

/-- FRAME_RECEIVED (R195, R196, R202): a frame not addressed here is counted NOT_MINE; one that fails its format tests is
discarded uncounted; another is put last in the receive queue, or counted RX_OVERRUN behind six; a fire frame goes to the fire
unit at once. STATS (R200): the reply carries the twelve counters as they stood; with clear = 1 all twelve are 0 afterwards. -/
def Obligations.FramesAreRoutedAndStatsAnswered : Prop :=
  ∀ (now : Now) (c : Config) (s a : State), a = s.arrive now → s.powered = true →
    (∀ bytes k b, a.cfg = some c → a.line.rxDone = some bytes → b = { a with line := { a.line with rxDone := none } } →
      k = a.line.counters →
      (addressAccepted c (byteAt bytes 0) = false → exec (.frameReceived now) s = .next { a with line :=
          { a.line with rxDone := none, counters := { k with notMine := satInc k.notMine } } })
      ∧ (addressAccepted c (byteAt bytes 0) = true → parseFrame c.carriers bytes = none → exec (.frameReceived now) s = .next b)
      ∧ ∀ f, addressAccepted c (byteAt bytes 0) = true → parseFrame c.carriers bytes = some f →
        ((∀ m x, f.body ≠ .alarm m x) → (∀ m, f.body ≠ .allclear m) →
          (a.line.rxQueue.length < 6 → exec (.frameReceived now) s = .next { a with line :=
              { a.line with rxDone := none, rxQueue := a.line.rxQueue ++ [f] } })
          ∧ (6 ≤ a.line.rxQueue.length → exec (.frameReceived now) s = .next { a with line :=
              { a.line with rxDone := none, counters := { k with rxOverrun := satInc k.rxOverrun } } }))
        ∧ (∀ m x, f.body = .alarm m x → m.testBit c.zone = true ∨ x.testBit 7 = true →
            a.fire.state = .sealing ∨ a.fire.state = .sealed ∨ a.fire.state = .breached →
            exec (.frameReceived now) s = .next { b with fire := { a.fire with allClear := false } })
        ∧ (∀ m, f.body = .allclear m → f.src ≠ c.panel → exec (.frameReceived now) s = .next { a with line :=
            { a.line with rxDone := none, counters := { k with notMine := satInc k.notMine } } }))
    ∧ ∀ src clear k reply b, Handed c ⟨src, .stats clear⟩ a b → b.line.general.length < 8 → k = b.line.counters →
      reply = .statsReply [k.check, k.aborted, k.tooLong, k.framing, k.notMine, k.rxOverrun, k.collision, k.txLost, k.acqFail,
        k.ignoredOffer, b.front.slips, b.front.corrections] →
      (clear = 0 → exec (.stats now src clear) s = .next (Queued reply (.station src) b))
      ∧ (clear = 1 → exec (.stats now src clear) s = .next (Queued reply (.station src)
          { b with
            line := { b.line with counters := LineCounters.reset }
            front := { b.front with slips := 0, corrections := 0 } }))

/-- An attempt (R198, R199): it begins when the idle time has reached the head's access gap and backoff. With every character read back
equal the frame leaves the queue, a BEACON taking the faults it reported out of the accrued set, a BID that was pending being sent
(R125). With one unequal, or one missing a character time after its sending began, it has collided: the generator steps and gives
the backoff; the 16th drops the frame and raises LINE, and a pending BID's entry has no bid. Before the gap, or that character time,
has run nothing changes (log 2). The characters come with FRAME_SENT and COLLISION or one by one before them, the sending of one
beginning where the one before ends (log 18); the idle time begins at the command's moment (log 25). -/
def Obligations.AttemptsSendOrCollide : Prop :=
  ∀ (now : Now) (c : Config) (e : TxEntry) (att : Attempt) (readBack : List LineChar) (ch x0 : LineChar) (more : List LineChar)
    (g : Word) (s a : State), a = s.arrive now → s.powered = true → a.cfg = some c → readBack = now.line.readBack →
    (a.line.head = some e → a.line.mode = .locked → a.line.attempt = none →
        (a.line.rx = .awaitLead ∨ a.line.rx = .awaitAddress) →
      (a.line.idleFrom + (accessGap c.address e.body.cls + e.backoff) * charUs (a.line.rate.getD 0) ≤ a.clock →
        ∃ t, exec (.txAttemptStart now) s = .next t
          ∧ t.line.attempt = some { order := e.order, remaining := e.chars c.address, since := a.clock } ∧ t.outputs.lde = true
          ∧ t.line.general = a.line.general.map
              (fun x => if x.order = e.order then { x with attempts := x.attempts + 1, backoff := 0 } else x)
          ∧ t.line.counters = a.line.counters ∧ t.line.backoffGen = a.line.backoffGen)
      ∧ (a.clock < a.line.idleFrom + (accessGap c.address e.body.cls + e.backoff) * charUs (a.line.rate.getD 0) →
        exec (.txAttemptStart now) s = .next a))
    ∧ (a.line.attempt = some att → a.line.reserved = none → a.line.idleFrom ≤ a.clock →
        a.line.general.find? (fun x => x.order == att.order) = some e →
        g = (if a.line.backoffGen.getLsbD 0 = true then (a.line.backoffGen >>> 1) ^^^ 0xB400#16 else a.line.backoffGen >>> 1) →
      (∀ b : State, b = { a with line := { a.line with
            general := a.line.general.filter (fun x => x.order != att.order), attempt := none, idleFrom := a.clock } } →
        att.remaining.isPrefixOf readBack = true →
        (e.isBeacon = true → (∀ x ∈ a.line.general, x.isBeacon = true → x.order = att.order) →
          exec (.frameSent now) s = .next
            { b with faults := { a.faults with accrued := a.faults.accrued &&& ~~~e.reported, reported := 0 } })
        ∧ (e.isBeacon = false → e.offer = none → exec (.frameSent now) s = .next b)
        ∧ (∀ o, e.isBeacon = false → e.offer = some o.serial → a.offers.entries.find? (fun x => x.serial == o.serial) = some o →
          (o.own = .bidPending → o.withheld = none → exec (.frameSent now) s = .next { b with offers := { a.offers with
              entries := a.offers.entries.map (fun x => if x.serial = o.serial then { o with own := .bidSent } else x) } })
          ∧ (o.own ≠ .bidPending → exec (.frameSent now) s = .next b))
        ∧ exec (.collision now) s = .next a)
      ∧ (att.remaining.isPrefixOf readBack = false → exec (.frameSent now) s = .next a
        ∧ (readBack.isPrefixOf att.remaining = true →
          a.clock < att.since + (readBack.length + 1) * charUs (a.line.rate.getD 0) → exec (.collision now) s = .next a))
      ∧ (a.line.mode = .locked → att.remaining = x0 :: more →
        (ch = x0 → more ≠ [] → exec (.characterReceived now ch) s = .next { a with line := { a.line with
            idleFrom := a.clock + 2 ^ a.line.rate.getD 0
            attempt := some { att with remaining := more, since := att.since + charUs (a.line.rate.getD 0) } } })
        ∧ (ch = x0 → more = [] → e.isBeacon = false → e.offer = none → exec (.characterReceived now ch) s = .next
            { a with line := { a.line with
              general := a.line.general.filter (fun x => x.order != att.order), attempt := none
              idleFrom := a.clock + 2 ^ a.line.rate.getD 0 } })
        ∧ (ch ≠ x0 → e.withdrawn = false → e.attempts < 16 → exec (.characterReceived now ch) s = .next
            { a with line := { a.line with
              general := a.line.general.map
                (fun x => if x.order = att.order then { x with backoff := g.toNat % 8 + 1 } else x)
              attempt := none, idleFrom := a.clock + 2 ^ a.line.rate.getD 0, backoffGen := g
              counters := { a.line.counters with collision := satInc a.line.counters.collision } } }))
      ∧ (att.remaining.isPrefixOf readBack = false →
        readBack.isPrefixOf att.remaining = false
          ∨ att.since + (readBack.length + 1) * charUs (a.line.rate.getD 0) ≤ a.clock →
        e.withdrawn = false →
        (e.attempts < 16 → exec (.collision now) s = .next
          { a with line := { a.line with
              general := a.line.general.map
                (fun x => if x.order = att.order then { x with backoff := g.toNat % 8 + 1 } else x)
              attempt := none, idleFrom := a.clock, backoffGen := g
              counters := { a.line.counters with collision := satInc a.line.counters.collision } } })
        ∧ (16 ≤ e.attempts → e.isBeacon = false →
          ∃ t, exec (.collision now) s = .next t ∧ (∀ x ∈ t.line.general, x.order ≠ att.order) ∧ t.line.attempt = none
            ∧ t.line.backoffGen = g ∧ t.line.counters.collision = satInc a.line.counters.collision
            ∧ t.line.counters.txLost = satInc a.line.counters.txLost ∧ inSet t.faults.current .line = true
            ∧ inSet t.faults.accrued .line = true ∧ t.station = a.station
            ∧ (e.offer = none → t.offers = a.offers)
            ∧ ∀ n, e.offer = some n → t.offers.entries = a.offers.entries.map
              (fun x => if x.serial = n ∧ x.own = .bidPending then { x with own := .none } else x))))

/-! ## What every step keeps -/

/-- R54 in every state: wherever both speed outputs are held at zero the crane is stopped and still; kept by every command. -/
def Obligations.EveryStepHoldsCrane : Prop :=
  (∀ s t : State, CraneHeld s → step s = .next t → CraneHeld t) ∧ ∀ s : State, CraneHeld s → OutputsHeldZero s

/-- No queue ever holds more than its room (R10, R28, R119, R196, R197); kept by every command. -/
def Obligations.EveryStepKeepsRoom : Prop := ∀ s t : State, Bounded s → step s = .next t → Bounded t

/-- The EMPTY count is the number of EMPTY records after every command (R3), the directory holds all its records or none, and
the record memory keeps its form. -/
def Obligations.EveryStepCountsEmpty : Prop :=
  (∀ s t : State, EmptyCounted s → step s = .next t → EmptyCounted t)
    ∧ (∀ s t : State, RecordsWhole s → step s = .next t → RecordsWhole t)
    ∧ ∀ s t : State, MemoryOrdered s → step s = .next t → MemoryOrdered t

/-- The job numbers stay all different, the next number naming no job in the queue (R24), and the axis counts, steps and the
re-offer tag counter stay in their ranges; kept by every command. -/
def Obligations.EveryStepKeepsRanges : Prop :=
  (∀ s t : State, Numbered s → step s = .next t → Numbered t)
    ∧ (∀ s : State, Numbered s → s.queue.nextNumber ≤ 255 ∧ ∀ j ∈ s.queue.jobs, j.num ≠ s.queue.nextNumber)
    ∧ ∀ s t : State, Ranged s → step s = .next t → Ranged t

/-- The state after reset has every property that the steps keep. -/
def Obligations.ResetHasInvariants : Prop :=
  CraneHeld State.reset ∧ Bounded State.reset ∧ EmptyCounted State.reset ∧ RecordsWhole State.reset ∧ MemoryOrdered State.reset
    ∧ Numbered State.reset ∧ Ranged State.reset
end

