-- ==== Sys2Proof/Laws/State.lean ====
section
/-! SUPPORT. What each named update of the state leaves in each field, one lemma per field and update, so that no proof
unfolds a record update; and how the configuration in force reads after them. -/

namespace Sys2Proof.Machine

-- One proof at a time: many at once, each with a stack of its own, pass the memory limit of the check.
set_option Elab.async false

variable (s : State)

@[simp] theorem State.setStation_powered (x : StationState) : (s.setStation x).powered = s.powered := rfl
@[simp] theorem State.setStation_clock (x : StationState) : (s.setStation x).clock = s.clock := rfl
@[simp] theorem State.setStation_sensors (x : StationState) : (s.setStation x).sensors = s.sensors := rfl
@[simp] theorem State.setStation_station (x : StationState) : (s.setStation x).station = x := rfl
@[simp] theorem State.setStation_config (x : StationState) : (s.setStation x).config = s.config := rfl
@[simp] theorem State.setStation_prk (x : StationState) : (s.setStation x).prk = s.prk := rfl
@[simp] theorem State.setStation_prkArmed (x : StationState) : (s.setStation x).prkArmed = s.prkArmed := rfl
@[simp] theorem State.setStation_prkRun (x : StationState) : (s.setStation x).prkRun = s.prkRun := rfl
@[simp] theorem State.setStation_dir (x : StationState) : (s.setStation x).dir = s.dir := rfl
@[simp] theorem State.setStation_queue (x : StationState) : (s.setStation x).queue = s.queue := rfl
@[simp] theorem State.setStation_crane (x : StationState) : (s.setStation x).crane = s.crane := rfl
@[simp] theorem State.setStation_front (x : StationState) : (s.setStation x).front = s.front := rfl
@[simp] theorem State.setStation_offers (x : StationState) : (s.setStation x).offers = s.offers := rfl
@[simp] theorem State.setStation_fire (x : StationState) : (s.setStation x).fire = s.fire := rfl
@[simp] theorem State.setStation_faults (x : StationState) : (s.setStation x).faults = s.faults := rfl
@[simp] theorem State.setStation_line (x : StationState) : (s.setStation x).line = s.line := rfl
@[simp] theorem State.setStation_memory (x : StationState) : (s.setStation x).memory = s.memory := rfl
@[simp] theorem State.setStation_pending (x : StationState) : (s.setStation x).pending = s.pending := rfl

@[simp] theorem State.setSensors_powered (x : Sensors) : (s.setSensors x).powered = s.powered := rfl
@[simp] theorem State.setSensors_clock (x : Sensors) : (s.setSensors x).clock = s.clock := rfl
@[simp] theorem State.setSensors_sensors (x : Sensors) : (s.setSensors x).sensors = x := rfl
@[simp] theorem State.setSensors_station (x : Sensors) : (s.setSensors x).station = s.station := rfl
@[simp] theorem State.setSensors_config (x : Sensors) : (s.setSensors x).config = s.config := rfl
@[simp] theorem State.setSensors_prk (x : Sensors) : (s.setSensors x).prk = s.prk := rfl
@[simp] theorem State.setSensors_prkArmed (x : Sensors) : (s.setSensors x).prkArmed = s.prkArmed := rfl
@[simp] theorem State.setSensors_prkRun (x : Sensors) : (s.setSensors x).prkRun = s.prkRun := rfl
@[simp] theorem State.setSensors_dir (x : Sensors) : (s.setSensors x).dir = s.dir := rfl
@[simp] theorem State.setSensors_queue (x : Sensors) : (s.setSensors x).queue = s.queue := rfl
@[simp] theorem State.setSensors_crane (x : Sensors) : (s.setSensors x).crane = s.crane := rfl
@[simp] theorem State.setSensors_front (x : Sensors) : (s.setSensors x).front = s.front := rfl
@[simp] theorem State.setSensors_offers (x : Sensors) : (s.setSensors x).offers = s.offers := rfl
@[simp] theorem State.setSensors_fire (x : Sensors) : (s.setSensors x).fire = s.fire := rfl
@[simp] theorem State.setSensors_faults (x : Sensors) : (s.setSensors x).faults = s.faults := rfl
@[simp] theorem State.setSensors_line (x : Sensors) : (s.setSensors x).line = s.line := rfl
@[simp] theorem State.setSensors_memory (x : Sensors) : (s.setSensors x).memory = s.memory := rfl
@[simp] theorem State.setSensors_pending (x : Sensors) : (s.setSensors x).pending = s.pending := rfl
@[simp] theorem State.setSensors_cfg (x : Sensors) : (s.setSensors x).cfg = s.cfg := rfl

@[simp] theorem State.setClock_powered (t : Nat) : (s.setClock t).powered = s.powered := rfl
@[simp] theorem State.setClock_clock (t : Nat) : (s.setClock t).clock = t := rfl
@[simp] theorem State.setClock_sensors (t : Nat) : (s.setClock t).sensors = s.sensors := rfl
@[simp] theorem State.setClock_station (t : Nat) : (s.setClock t).station = s.station := rfl
@[simp] theorem State.setClock_config (t : Nat) : (s.setClock t).config = s.config := rfl
@[simp] theorem State.setClock_prk (t : Nat) : (s.setClock t).prk = s.prk := rfl
@[simp] theorem State.setClock_prkArmed (t : Nat) : (s.setClock t).prkArmed = s.prkArmed := rfl
@[simp] theorem State.setClock_prkRun (t : Nat) : (s.setClock t).prkRun = s.prkRun := rfl
@[simp] theorem State.setClock_dir (t : Nat) : (s.setClock t).dir = s.dir := rfl
@[simp] theorem State.setClock_queue (t : Nat) : (s.setClock t).queue = s.queue := rfl
@[simp] theorem State.setClock_crane (t : Nat) : (s.setClock t).crane = s.crane := rfl
@[simp] theorem State.setClock_front (t : Nat) : (s.setClock t).front = s.front := rfl
@[simp] theorem State.setClock_offers (t : Nat) : (s.setClock t).offers = s.offers := rfl
@[simp] theorem State.setClock_fire (t : Nat) : (s.setClock t).fire = s.fire := rfl
@[simp] theorem State.setClock_faults (t : Nat) : (s.setClock t).faults = s.faults := rfl
@[simp] theorem State.setClock_line (t : Nat) : (s.setClock t).line = s.line := rfl
@[simp] theorem State.setClock_memory (t : Nat) : (s.setClock t).memory = s.memory := rfl
@[simp] theorem State.setClock_pending (t : Nat) : (s.setClock t).pending = s.pending := rfl
@[simp] theorem State.setClock_cfg (t : Nat) : (s.setClock t).cfg = s.cfg := rfl

@[simp] theorem State.setMemory_powered (m : List Host.Cell) : (s.setMemory m).powered = s.powered := rfl
@[simp] theorem State.setMemory_clock (m : List Host.Cell) : (s.setMemory m).clock = s.clock := rfl
@[simp] theorem State.setMemory_sensors (m : List Host.Cell) : (s.setMemory m).sensors = s.sensors := rfl
@[simp] theorem State.setMemory_station (m : List Host.Cell) : (s.setMemory m).station = s.station := rfl
@[simp] theorem State.setMemory_config (m : List Host.Cell) : (s.setMemory m).config = s.config := rfl
@[simp] theorem State.setMemory_prk (m : List Host.Cell) : (s.setMemory m).prk = s.prk := rfl
@[simp] theorem State.setMemory_prkArmed (m : List Host.Cell) : (s.setMemory m).prkArmed = s.prkArmed := rfl
@[simp] theorem State.setMemory_prkRun (m : List Host.Cell) : (s.setMemory m).prkRun = s.prkRun := rfl
@[simp] theorem State.setMemory_dir (m : List Host.Cell) : (s.setMemory m).dir = s.dir := rfl
@[simp] theorem State.setMemory_queue (m : List Host.Cell) : (s.setMemory m).queue = s.queue := rfl
@[simp] theorem State.setMemory_crane (m : List Host.Cell) : (s.setMemory m).crane = s.crane := rfl
@[simp] theorem State.setMemory_front (m : List Host.Cell) : (s.setMemory m).front = s.front := rfl
@[simp] theorem State.setMemory_offers (m : List Host.Cell) : (s.setMemory m).offers = s.offers := rfl
@[simp] theorem State.setMemory_fire (m : List Host.Cell) : (s.setMemory m).fire = s.fire := rfl
@[simp] theorem State.setMemory_faults (m : List Host.Cell) : (s.setMemory m).faults = s.faults := rfl
@[simp] theorem State.setMemory_line (m : List Host.Cell) : (s.setMemory m).line = s.line := rfl
@[simp] theorem State.setMemory_memory (m : List Host.Cell) : (s.setMemory m).memory = m := rfl
@[simp] theorem State.setMemory_pending (m : List Host.Cell) : (s.setMemory m).pending = s.pending := rfl
@[simp] theorem State.setMemory_cfg (m : List Host.Cell) : (s.setMemory m).cfg = s.cfg := rfl

@[simp] theorem State.setKey_powered (l a : Bool) (r : Option Nat) : (s.setKey l a r).powered = s.powered := rfl
@[simp] theorem State.setKey_clock (l a : Bool) (r : Option Nat) : (s.setKey l a r).clock = s.clock := rfl
@[simp] theorem State.setKey_sensors (l a : Bool) (r : Option Nat) : (s.setKey l a r).sensors = s.sensors := rfl
@[simp] theorem State.setKey_station (l a : Bool) (r : Option Nat) : (s.setKey l a r).station = s.station := rfl
@[simp] theorem State.setKey_config (l a : Bool) (r : Option Nat) : (s.setKey l a r).config = s.config := rfl
@[simp] theorem State.setKey_prk (l a : Bool) (r : Option Nat) : (s.setKey l a r).prk = l := rfl
@[simp] theorem State.setKey_prkArmed (l a : Bool) (r : Option Nat) : (s.setKey l a r).prkArmed = a := rfl
@[simp] theorem State.setKey_prkRun (l a : Bool) (r : Option Nat) : (s.setKey l a r).prkRun = r := rfl
@[simp] theorem State.setKey_dir (l a : Bool) (r : Option Nat) : (s.setKey l a r).dir = s.dir := rfl
@[simp] theorem State.setKey_queue (l a : Bool) (r : Option Nat) : (s.setKey l a r).queue = s.queue := rfl
@[simp] theorem State.setKey_crane (l a : Bool) (r : Option Nat) : (s.setKey l a r).crane = s.crane := rfl
@[simp] theorem State.setKey_front (l a : Bool) (r : Option Nat) : (s.setKey l a r).front = s.front := rfl
@[simp] theorem State.setKey_offers (l a : Bool) (r : Option Nat) : (s.setKey l a r).offers = s.offers := rfl
@[simp] theorem State.setKey_fire (l a : Bool) (r : Option Nat) : (s.setKey l a r).fire = s.fire := rfl
@[simp] theorem State.setKey_faults (l a : Bool) (r : Option Nat) : (s.setKey l a r).faults = s.faults := rfl
@[simp] theorem State.setKey_line (l a : Bool) (r : Option Nat) : (s.setKey l a r).line = s.line := rfl
@[simp] theorem State.setKey_memory (l a : Bool) (r : Option Nat) : (s.setKey l a r).memory = s.memory := rfl
@[simp] theorem State.setKey_pending (l a : Bool) (r : Option Nat) : (s.setKey l a r).pending = s.pending := rfl
@[simp] theorem State.setKey_cfg (l a : Bool) (r : Option Nat) : (s.setKey l a r).cfg = s.cfg := rfl

@[simp] theorem State.setConfig_powered (c : Config) : (s.setConfig c).powered = s.powered := rfl
@[simp] theorem State.setConfig_clock (c : Config) : (s.setConfig c).clock = s.clock := rfl
@[simp] theorem State.setConfig_sensors (c : Config) : (s.setConfig c).sensors = s.sensors := rfl
@[simp] theorem State.setConfig_station (c : Config) : (s.setConfig c).station = s.station := rfl
@[simp] theorem State.setConfig_config (c : Config) : (s.setConfig c).config = some c := rfl
@[simp] theorem State.setConfig_prk (c : Config) : (s.setConfig c).prk = s.prk := rfl
@[simp] theorem State.setConfig_prkArmed (c : Config) : (s.setConfig c).prkArmed = s.prkArmed := rfl
@[simp] theorem State.setConfig_prkRun (c : Config) : (s.setConfig c).prkRun = s.prkRun := rfl
@[simp] theorem State.setConfig_dir (c : Config) : (s.setConfig c).dir = s.dir := rfl
@[simp] theorem State.setConfig_queue (c : Config) : (s.setConfig c).queue = s.queue := rfl
@[simp] theorem State.setConfig_crane (c : Config) : (s.setConfig c).crane = s.crane := rfl
@[simp] theorem State.setConfig_front (c : Config) : (s.setConfig c).front = s.front := rfl
@[simp] theorem State.setConfig_offers (c : Config) : (s.setConfig c).offers = s.offers := rfl
@[simp] theorem State.setConfig_fire (c : Config) : (s.setConfig c).fire = s.fire := rfl
@[simp] theorem State.setConfig_faults (c : Config) : (s.setConfig c).faults = s.faults := rfl
@[simp] theorem State.setConfig_line (c : Config) : (s.setConfig c).line = s.line := rfl
@[simp] theorem State.setConfig_memory (c : Config) : (s.setConfig c).memory = s.memory := rfl
@[simp] theorem State.setConfig_pending (c : Config) : (s.setConfig c).pending = s.pending := rfl

@[simp] theorem State.onDir_powered (f : Directory → Directory) : (s.onDir f).powered = s.powered := rfl
@[simp] theorem State.onDir_clock (f : Directory → Directory) : (s.onDir f).clock = s.clock := rfl
@[simp] theorem State.onDir_sensors (f : Directory → Directory) : (s.onDir f).sensors = s.sensors := rfl
@[simp] theorem State.onDir_station (f : Directory → Directory) : (s.onDir f).station = s.station := rfl
@[simp] theorem State.onDir_config (f : Directory → Directory) : (s.onDir f).config = s.config := rfl
@[simp] theorem State.onDir_prk (f : Directory → Directory) : (s.onDir f).prk = s.prk := rfl
@[simp] theorem State.onDir_prkArmed (f : Directory → Directory) : (s.onDir f).prkArmed = s.prkArmed := rfl
@[simp] theorem State.onDir_prkRun (f : Directory → Directory) : (s.onDir f).prkRun = s.prkRun := rfl
@[simp] theorem State.onDir_dir (f : Directory → Directory) : (s.onDir f).dir = f s.dir := rfl
@[simp] theorem State.onDir_queue (f : Directory → Directory) : (s.onDir f).queue = s.queue := rfl
@[simp] theorem State.onDir_crane (f : Directory → Directory) : (s.onDir f).crane = s.crane := rfl
@[simp] theorem State.onDir_front (f : Directory → Directory) : (s.onDir f).front = s.front := rfl
@[simp] theorem State.onDir_offers (f : Directory → Directory) : (s.onDir f).offers = s.offers := rfl
@[simp] theorem State.onDir_fire (f : Directory → Directory) : (s.onDir f).fire = s.fire := rfl
@[simp] theorem State.onDir_faults (f : Directory → Directory) : (s.onDir f).faults = s.faults := rfl
@[simp] theorem State.onDir_line (f : Directory → Directory) : (s.onDir f).line = s.line := rfl
@[simp] theorem State.onDir_memory (f : Directory → Directory) : (s.onDir f).memory = s.memory := rfl
@[simp] theorem State.onDir_pending (f : Directory → Directory) : (s.onDir f).pending = s.pending := rfl
@[simp] theorem State.onDir_cfg (f : Directory → Directory) : (s.onDir f).cfg = s.cfg := rfl

@[simp] theorem State.onQueue_powered (f : JobQueue → JobQueue) : (s.onQueue f).powered = s.powered := rfl
@[simp] theorem State.onQueue_clock (f : JobQueue → JobQueue) : (s.onQueue f).clock = s.clock := rfl
@[simp] theorem State.onQueue_sensors (f : JobQueue → JobQueue) : (s.onQueue f).sensors = s.sensors := rfl
@[simp] theorem State.onQueue_station (f : JobQueue → JobQueue) : (s.onQueue f).station = s.station := rfl
@[simp] theorem State.onQueue_config (f : JobQueue → JobQueue) : (s.onQueue f).config = s.config := rfl
@[simp] theorem State.onQueue_prk (f : JobQueue → JobQueue) : (s.onQueue f).prk = s.prk := rfl
@[simp] theorem State.onQueue_prkArmed (f : JobQueue → JobQueue) : (s.onQueue f).prkArmed = s.prkArmed := rfl
@[simp] theorem State.onQueue_prkRun (f : JobQueue → JobQueue) : (s.onQueue f).prkRun = s.prkRun := rfl
@[simp] theorem State.onQueue_dir (f : JobQueue → JobQueue) : (s.onQueue f).dir = s.dir := rfl
@[simp] theorem State.onQueue_queue (f : JobQueue → JobQueue) : (s.onQueue f).queue = f s.queue := rfl
@[simp] theorem State.onQueue_crane (f : JobQueue → JobQueue) : (s.onQueue f).crane = s.crane := rfl
@[simp] theorem State.onQueue_front (f : JobQueue → JobQueue) : (s.onQueue f).front = s.front := rfl
@[simp] theorem State.onQueue_offers (f : JobQueue → JobQueue) : (s.onQueue f).offers = s.offers := rfl
@[simp] theorem State.onQueue_fire (f : JobQueue → JobQueue) : (s.onQueue f).fire = s.fire := rfl
@[simp] theorem State.onQueue_faults (f : JobQueue → JobQueue) : (s.onQueue f).faults = s.faults := rfl
@[simp] theorem State.onQueue_line (f : JobQueue → JobQueue) : (s.onQueue f).line = s.line := rfl
@[simp] theorem State.onQueue_memory (f : JobQueue → JobQueue) : (s.onQueue f).memory = s.memory := rfl
@[simp] theorem State.onQueue_pending (f : JobQueue → JobQueue) : (s.onQueue f).pending = s.pending := rfl
@[simp] theorem State.onQueue_cfg (f : JobQueue → JobQueue) : (s.onQueue f).cfg = s.cfg := rfl

@[simp] theorem State.onCrane_powered (f : Crane → Crane) : (s.onCrane f).powered = s.powered := rfl
@[simp] theorem State.onCrane_clock (f : Crane → Crane) : (s.onCrane f).clock = s.clock := rfl
@[simp] theorem State.onCrane_sensors (f : Crane → Crane) : (s.onCrane f).sensors = s.sensors := rfl
@[simp] theorem State.onCrane_station (f : Crane → Crane) : (s.onCrane f).station = s.station := rfl
@[simp] theorem State.onCrane_config (f : Crane → Crane) : (s.onCrane f).config = s.config := rfl
@[simp] theorem State.onCrane_prk (f : Crane → Crane) : (s.onCrane f).prk = s.prk := rfl
@[simp] theorem State.onCrane_prkArmed (f : Crane → Crane) : (s.onCrane f).prkArmed = s.prkArmed := rfl
@[simp] theorem State.onCrane_prkRun (f : Crane → Crane) : (s.onCrane f).prkRun = s.prkRun := rfl
@[simp] theorem State.onCrane_dir (f : Crane → Crane) : (s.onCrane f).dir = s.dir := rfl
@[simp] theorem State.onCrane_queue (f : Crane → Crane) : (s.onCrane f).queue = s.queue := rfl
@[simp] theorem State.onCrane_crane (f : Crane → Crane) : (s.onCrane f).crane = f s.crane := rfl
@[simp] theorem State.onCrane_front (f : Crane → Crane) : (s.onCrane f).front = s.front := rfl
@[simp] theorem State.onCrane_offers (f : Crane → Crane) : (s.onCrane f).offers = s.offers := rfl
@[simp] theorem State.onCrane_fire (f : Crane → Crane) : (s.onCrane f).fire = s.fire := rfl
@[simp] theorem State.onCrane_faults (f : Crane → Crane) : (s.onCrane f).faults = s.faults := rfl
@[simp] theorem State.onCrane_line (f : Crane → Crane) : (s.onCrane f).line = s.line := rfl
@[simp] theorem State.onCrane_memory (f : Crane → Crane) : (s.onCrane f).memory = s.memory := rfl
@[simp] theorem State.onCrane_pending (f : Crane → Crane) : (s.onCrane f).pending = s.pending := rfl
@[simp] theorem State.onCrane_cfg (f : Crane → Crane) : (s.onCrane f).cfg = s.cfg := rfl

@[simp] theorem State.onFront_powered (f : Front → Front) : (s.onFront f).powered = s.powered := rfl
@[simp] theorem State.onFront_clock (f : Front → Front) : (s.onFront f).clock = s.clock := rfl
@[simp] theorem State.onFront_sensors (f : Front → Front) : (s.onFront f).sensors = s.sensors := rfl
@[simp] theorem State.onFront_station (f : Front → Front) : (s.onFront f).station = s.station := rfl
@[simp] theorem State.onFront_config (f : Front → Front) : (s.onFront f).config = s.config := rfl
@[simp] theorem State.onFront_prk (f : Front → Front) : (s.onFront f).prk = s.prk := rfl
@[simp] theorem State.onFront_prkArmed (f : Front → Front) : (s.onFront f).prkArmed = s.prkArmed := rfl
@[simp] theorem State.onFront_prkRun (f : Front → Front) : (s.onFront f).prkRun = s.prkRun := rfl
@[simp] theorem State.onFront_dir (f : Front → Front) : (s.onFront f).dir = s.dir := rfl
@[simp] theorem State.onFront_queue (f : Front → Front) : (s.onFront f).queue = s.queue := rfl
@[simp] theorem State.onFront_crane (f : Front → Front) : (s.onFront f).crane = s.crane := rfl
@[simp] theorem State.onFront_front (f : Front → Front) : (s.onFront f).front = f s.front := rfl
@[simp] theorem State.onFront_offers (f : Front → Front) : (s.onFront f).offers = s.offers := rfl
@[simp] theorem State.onFront_fire (f : Front → Front) : (s.onFront f).fire = s.fire := rfl
@[simp] theorem State.onFront_faults (f : Front → Front) : (s.onFront f).faults = s.faults := rfl
@[simp] theorem State.onFront_line (f : Front → Front) : (s.onFront f).line = s.line := rfl
@[simp] theorem State.onFront_memory (f : Front → Front) : (s.onFront f).memory = s.memory := rfl
@[simp] theorem State.onFront_pending (f : Front → Front) : (s.onFront f).pending = s.pending := rfl
@[simp] theorem State.onFront_cfg (f : Front → Front) : (s.onFront f).cfg = s.cfg := rfl

@[simp] theorem State.onOffers_powered (f : OfferTable → OfferTable) : (s.onOffers f).powered = s.powered := rfl
@[simp] theorem State.onOffers_clock (f : OfferTable → OfferTable) : (s.onOffers f).clock = s.clock := rfl
@[simp] theorem State.onOffers_sensors (f : OfferTable → OfferTable) : (s.onOffers f).sensors = s.sensors := rfl
@[simp] theorem State.onOffers_station (f : OfferTable → OfferTable) : (s.onOffers f).station = s.station := rfl
@[simp] theorem State.onOffers_config (f : OfferTable → OfferTable) : (s.onOffers f).config = s.config := rfl
@[simp] theorem State.onOffers_prk (f : OfferTable → OfferTable) : (s.onOffers f).prk = s.prk := rfl
@[simp] theorem State.onOffers_prkArmed (f : OfferTable → OfferTable) : (s.onOffers f).prkArmed = s.prkArmed := rfl
@[simp] theorem State.onOffers_prkRun (f : OfferTable → OfferTable) : (s.onOffers f).prkRun = s.prkRun := rfl
@[simp] theorem State.onOffers_dir (f : OfferTable → OfferTable) : (s.onOffers f).dir = s.dir := rfl
@[simp] theorem State.onOffers_queue (f : OfferTable → OfferTable) : (s.onOffers f).queue = s.queue := rfl
@[simp] theorem State.onOffers_crane (f : OfferTable → OfferTable) : (s.onOffers f).crane = s.crane := rfl
@[simp] theorem State.onOffers_front (f : OfferTable → OfferTable) : (s.onOffers f).front = s.front := rfl
@[simp] theorem State.onOffers_offers (f : OfferTable → OfferTable) : (s.onOffers f).offers = f s.offers := rfl
@[simp] theorem State.onOffers_fire (f : OfferTable → OfferTable) : (s.onOffers f).fire = s.fire := rfl
@[simp] theorem State.onOffers_faults (f : OfferTable → OfferTable) : (s.onOffers f).faults = s.faults := rfl
@[simp] theorem State.onOffers_line (f : OfferTable → OfferTable) : (s.onOffers f).line = s.line := rfl
@[simp] theorem State.onOffers_memory (f : OfferTable → OfferTable) : (s.onOffers f).memory = s.memory := rfl
@[simp] theorem State.onOffers_pending (f : OfferTable → OfferTable) : (s.onOffers f).pending = s.pending := rfl
@[simp] theorem State.onOffers_cfg (f : OfferTable → OfferTable) : (s.onOffers f).cfg = s.cfg := rfl

@[simp] theorem State.onFire_powered (f : FireUnit → FireUnit) : (s.onFire f).powered = s.powered := rfl
@[simp] theorem State.onFire_clock (f : FireUnit → FireUnit) : (s.onFire f).clock = s.clock := rfl
@[simp] theorem State.onFire_sensors (f : FireUnit → FireUnit) : (s.onFire f).sensors = s.sensors := rfl
@[simp] theorem State.onFire_station (f : FireUnit → FireUnit) : (s.onFire f).station = s.station := rfl
@[simp] theorem State.onFire_config (f : FireUnit → FireUnit) : (s.onFire f).config = s.config := rfl
@[simp] theorem State.onFire_prk (f : FireUnit → FireUnit) : (s.onFire f).prk = s.prk := rfl
@[simp] theorem State.onFire_prkArmed (f : FireUnit → FireUnit) : (s.onFire f).prkArmed = s.prkArmed := rfl
@[simp] theorem State.onFire_prkRun (f : FireUnit → FireUnit) : (s.onFire f).prkRun = s.prkRun := rfl
@[simp] theorem State.onFire_dir (f : FireUnit → FireUnit) : (s.onFire f).dir = s.dir := rfl
@[simp] theorem State.onFire_queue (f : FireUnit → FireUnit) : (s.onFire f).queue = s.queue := rfl
@[simp] theorem State.onFire_crane (f : FireUnit → FireUnit) : (s.onFire f).crane = s.crane := rfl
@[simp] theorem State.onFire_front (f : FireUnit → FireUnit) : (s.onFire f).front = s.front := rfl
@[simp] theorem State.onFire_offers (f : FireUnit → FireUnit) : (s.onFire f).offers = s.offers := rfl
@[simp] theorem State.onFire_fire (f : FireUnit → FireUnit) : (s.onFire f).fire = f s.fire := rfl
@[simp] theorem State.onFire_faults (f : FireUnit → FireUnit) : (s.onFire f).faults = s.faults := rfl
@[simp] theorem State.onFire_line (f : FireUnit → FireUnit) : (s.onFire f).line = s.line := rfl
@[simp] theorem State.onFire_memory (f : FireUnit → FireUnit) : (s.onFire f).memory = s.memory := rfl
@[simp] theorem State.onFire_pending (f : FireUnit → FireUnit) : (s.onFire f).pending = s.pending := rfl
@[simp] theorem State.onFire_cfg (f : FireUnit → FireUnit) : (s.onFire f).cfg = s.cfg := rfl

@[simp] theorem State.onFaults_powered (f : FaultUnit → FaultUnit) : (s.onFaults f).powered = s.powered := rfl
@[simp] theorem State.onFaults_clock (f : FaultUnit → FaultUnit) : (s.onFaults f).clock = s.clock := rfl
@[simp] theorem State.onFaults_sensors (f : FaultUnit → FaultUnit) : (s.onFaults f).sensors = s.sensors := rfl
@[simp] theorem State.onFaults_station (f : FaultUnit → FaultUnit) : (s.onFaults f).station = s.station := rfl
@[simp] theorem State.onFaults_config (f : FaultUnit → FaultUnit) : (s.onFaults f).config = s.config := rfl
@[simp] theorem State.onFaults_prk (f : FaultUnit → FaultUnit) : (s.onFaults f).prk = s.prk := rfl
@[simp] theorem State.onFaults_prkArmed (f : FaultUnit → FaultUnit) : (s.onFaults f).prkArmed = s.prkArmed := rfl
@[simp] theorem State.onFaults_prkRun (f : FaultUnit → FaultUnit) : (s.onFaults f).prkRun = s.prkRun := rfl
@[simp] theorem State.onFaults_dir (f : FaultUnit → FaultUnit) : (s.onFaults f).dir = s.dir := rfl
@[simp] theorem State.onFaults_queue (f : FaultUnit → FaultUnit) : (s.onFaults f).queue = s.queue := rfl
@[simp] theorem State.onFaults_crane (f : FaultUnit → FaultUnit) : (s.onFaults f).crane = s.crane := rfl
@[simp] theorem State.onFaults_front (f : FaultUnit → FaultUnit) : (s.onFaults f).front = s.front := rfl
@[simp] theorem State.onFaults_offers (f : FaultUnit → FaultUnit) : (s.onFaults f).offers = s.offers := rfl
@[simp] theorem State.onFaults_fire (f : FaultUnit → FaultUnit) : (s.onFaults f).fire = s.fire := rfl
@[simp] theorem State.onFaults_faults (f : FaultUnit → FaultUnit) : (s.onFaults f).faults = f s.faults := rfl
@[simp] theorem State.onFaults_line (f : FaultUnit → FaultUnit) : (s.onFaults f).line = s.line := rfl
@[simp] theorem State.onFaults_memory (f : FaultUnit → FaultUnit) : (s.onFaults f).memory = s.memory := rfl
@[simp] theorem State.onFaults_pending (f : FaultUnit → FaultUnit) : (s.onFaults f).pending = s.pending := rfl
@[simp] theorem State.onFaults_cfg (f : FaultUnit → FaultUnit) : (s.onFaults f).cfg = s.cfg := rfl

@[simp] theorem State.onLine_powered (f : LineUnit → LineUnit) : (s.onLine f).powered = s.powered := rfl
@[simp] theorem State.onLine_clock (f : LineUnit → LineUnit) : (s.onLine f).clock = s.clock := rfl
@[simp] theorem State.onLine_sensors (f : LineUnit → LineUnit) : (s.onLine f).sensors = s.sensors := rfl
@[simp] theorem State.onLine_station (f : LineUnit → LineUnit) : (s.onLine f).station = s.station := rfl
@[simp] theorem State.onLine_config (f : LineUnit → LineUnit) : (s.onLine f).config = s.config := rfl
@[simp] theorem State.onLine_prk (f : LineUnit → LineUnit) : (s.onLine f).prk = s.prk := rfl
@[simp] theorem State.onLine_prkArmed (f : LineUnit → LineUnit) : (s.onLine f).prkArmed = s.prkArmed := rfl
@[simp] theorem State.onLine_prkRun (f : LineUnit → LineUnit) : (s.onLine f).prkRun = s.prkRun := rfl
@[simp] theorem State.onLine_dir (f : LineUnit → LineUnit) : (s.onLine f).dir = s.dir := rfl
@[simp] theorem State.onLine_queue (f : LineUnit → LineUnit) : (s.onLine f).queue = s.queue := rfl
@[simp] theorem State.onLine_crane (f : LineUnit → LineUnit) : (s.onLine f).crane = s.crane := rfl
@[simp] theorem State.onLine_front (f : LineUnit → LineUnit) : (s.onLine f).front = s.front := rfl
@[simp] theorem State.onLine_offers (f : LineUnit → LineUnit) : (s.onLine f).offers = s.offers := rfl
@[simp] theorem State.onLine_fire (f : LineUnit → LineUnit) : (s.onLine f).fire = s.fire := rfl
@[simp] theorem State.onLine_faults (f : LineUnit → LineUnit) : (s.onLine f).faults = s.faults := rfl
@[simp] theorem State.onLine_line (f : LineUnit → LineUnit) : (s.onLine f).line = f s.line := rfl
@[simp] theorem State.onLine_memory (f : LineUnit → LineUnit) : (s.onLine f).memory = s.memory := rfl
@[simp] theorem State.onLine_pending (f : LineUnit → LineUnit) : (s.onLine f).pending = s.pending := rfl
@[simp] theorem State.onLine_cfg (f : LineUnit → LineUnit) : (s.onLine f).cfg = s.cfg := rfl

@[simp] theorem State.setPending_powered (q : List Instr) : (s.setPending q).powered = s.powered := rfl
@[simp] theorem State.setPending_clock (q : List Instr) : (s.setPending q).clock = s.clock := rfl
@[simp] theorem State.setPending_sensors (q : List Instr) : (s.setPending q).sensors = s.sensors := rfl
@[simp] theorem State.setPending_station (q : List Instr) : (s.setPending q).station = s.station := rfl
@[simp] theorem State.setPending_config (q : List Instr) : (s.setPending q).config = s.config := rfl
@[simp] theorem State.setPending_prk (q : List Instr) : (s.setPending q).prk = s.prk := rfl
@[simp] theorem State.setPending_prkArmed (q : List Instr) : (s.setPending q).prkArmed = s.prkArmed := rfl
@[simp] theorem State.setPending_prkRun (q : List Instr) : (s.setPending q).prkRun = s.prkRun := rfl
@[simp] theorem State.setPending_dir (q : List Instr) : (s.setPending q).dir = s.dir := rfl
@[simp] theorem State.setPending_queue (q : List Instr) : (s.setPending q).queue = s.queue := rfl
@[simp] theorem State.setPending_crane (q : List Instr) : (s.setPending q).crane = s.crane := rfl
@[simp] theorem State.setPending_front (q : List Instr) : (s.setPending q).front = s.front := rfl
@[simp] theorem State.setPending_offers (q : List Instr) : (s.setPending q).offers = s.offers := rfl
@[simp] theorem State.setPending_fire (q : List Instr) : (s.setPending q).fire = s.fire := rfl
@[simp] theorem State.setPending_faults (q : List Instr) : (s.setPending q).faults = s.faults := rfl
@[simp] theorem State.setPending_line (q : List Instr) : (s.setPending q).line = s.line := rfl
@[simp] theorem State.setPending_memory (q : List Instr) : (s.setPending q).memory = s.memory := rfl
@[simp] theorem State.setPending_pending (q : List Instr) : (s.setPending q).pending = q := rfl
@[simp] theorem State.setPending_cfg (q : List Instr) : (s.setPending q).cfg = s.cfg := rfl

@[simp] theorem State.arrive_powered (n : Now) : (s.arrive n).powered = s.powered := rfl
@[simp] theorem State.arrive_clock (n : Now) : (s.arrive n).clock = s.clock + n.elapsed := rfl
@[simp] theorem State.arrive_sensors (n : Now) : (s.arrive n).sensors = n.sensors := rfl
@[simp] theorem State.arrive_station (n : Now) : (s.arrive n).station = s.station := rfl
@[simp] theorem State.arrive_config (n : Now) : (s.arrive n).config = s.config := rfl
@[simp] theorem State.arrive_prk (n : Now) : (s.arrive n).prk = s.prk := rfl
@[simp] theorem State.arrive_prkArmed (n : Now) : (s.arrive n).prkArmed = s.prkArmed := rfl
@[simp] theorem State.arrive_prkRun (n : Now) : (s.arrive n).prkRun = s.prkRun := rfl
@[simp] theorem State.arrive_dir (n : Now) : (s.arrive n).dir = s.dir := rfl
@[simp] theorem State.arrive_queue (n : Now) : (s.arrive n).queue = s.queue := rfl
@[simp] theorem State.arrive_crane (n : Now) : (s.arrive n).crane = s.crane := rfl
@[simp] theorem State.arrive_front (n : Now) : (s.arrive n).front = s.front := rfl
@[simp] theorem State.arrive_offers (n : Now) : (s.arrive n).offers = s.offers := rfl
@[simp] theorem State.arrive_fire (n : Now) : (s.arrive n).fire = s.fire := rfl
@[simp] theorem State.arrive_faults (n : Now) : (s.arrive n).faults = s.faults := rfl
@[simp] theorem State.arrive_line (n : Now) : (s.arrive n).line = s.line := rfl
@[simp] theorem State.arrive_memory (n : Now) : (s.arrive n).memory = s.memory := rfl
@[simp] theorem State.arrive_pending (n : Now) : (s.arrive n).pending = s.pending := rfl
@[simp] theorem State.arrive_cfg (n : Now) : (s.arrive n).cfg = s.cfg := rfl

@[simp] theorem State.axis_onCrane_onAxis (a : AxisName) (f : Axis → Axis) : (s.onAxis a f).axis a = f (s.axis a) := by
  cases a <;> rfl

theorem State.onAxis_other (a b : AxisName) (f : Axis → Axis) (h : a ≠ b) : (s.onAxis a f).axis b = s.axis b := by
  cases a <;> cases b <;> first | rfl | exact absurd rfl h

/-- A station not in HALTED works by its record. -/
theorem State.cfg_of_not_halted (h : s.station ≠ .halted) : s.cfg = s.config := by simp [State.cfg, h]

end Sys2Proof.Machine
end

