-- ==== Sys2Proof/Laws/Settle.lean ====
section
/-! SUPPORT. What `settle` can do: nothing where nothing follows, and otherwise only what each single consequence keeps. -/

namespace Sys2Proof.Machine

-- One proof at a time: many at once, each with a stack of its own, pass the memory limit of the check.
set_option Elab.async false

theorem orElse_cases {α : Type} {a b : Option α} {t : α} (h : (a <|> b) = some t) : a = some t ∨ b = some t := by
  cases a with
  | none => exact .inr (by simpa using h)
  | some x => exact .inl (by simpa using h)

/-- Each consequence is one of the fourteen of `progress`. -/
theorem progress_cases {s t : State} (h : progress s = some t) :
    finishHeld s = some t ∨ fillOwed s = some t ∨ beginWrite s = some t ∨ stepProgress s = some t ∨ craneRests s = some t
      ∨ haltingReport s = some t ∨ clearProgress s = some t ∨ homedAtFront s = some t ∨ sealedByScl s = some t
      ∨ reopen s = some t ∨ opened s = some t ∨ serveGive s = some t ∨ nextStep s = some t ∨ selection s = some t := by
  unfold progress at h
  iterate 13 (rcases orElse_cases h with h | h; exact .inl h; refine .inr ?_)
  exact h

/-- A property kept by every single consequence is kept by all of them together. -/
theorem settleWith_keeps {P : State → Prop} (keep : ∀ s t, progress s = some t → P s → P t) (n : Nat) {s : State} (h : P s) :
    P (settleWith n s) := by
  induction n generalizing s with
  | zero => exact h
  | succ n ih =>
    unfold settleWith
    split
    · exact h
    · rename_i t ht
      exact ih (keep s t ht h)

theorem settle_keeps {P : State → Prop} (keep : ∀ s t, progress s = some t → P s → P t) {s : State} (h : P s) :
    P (settle s) := settleWith_keeps keep 64 h

theorem settle_of_none {s : State} (h : progress s = none) : settle s = s := by
  unfold settle settleWith
  rw [h]

/-! ## A state at rest -/

theorem finishHeld_none {s : State} (h : s.crane.held = none) : finishHeld s = none := by
  unfold finishHeld
  rw [h]
  split <;> simp_all

theorem fillOwed_none {s : State} (h : s.dir.firstOwed = none) : fillOwed s = none := by
  unfold fillOwed
  rw [h]
  split <;> simp_all

theorem beginWrite_none {s : State} (h : s.dir.writeList = [] ∨ s.dir.port ≠ .idle) : beginWrite s = none := by
  unfold beginWrite
  split
  · rename_i c e es hc he
    rcases h with h | h
    · simp_all
    · simp [h]
  · rfl

theorem stepProgress_none {s : State} (h : s.crane.step = none) : stepProgress s = none := by
  unfold stepProgress
  rw [h]
  split <;> simp_all

theorem craneRests_none {s : State} (h : s.crane.mode ≠ .step ∧ s.crane.mode ≠ .stopping) : craneRests s = none := by
  unfold craneRests
  split
  · split <;> simp_all
  · rfl

theorem clearProgress_none {s : State} (h : s.crane.clearing = none) : clearProgress s = none := by
  unfold clearProgress
  rw [h]
  split <;> simp_all

theorem serveGive_none {s : State} (h : s.inService = true → s.faults.suspension = none) : serveGive s = none := by
  unfold serveGive
  split
  · rfl
  · rename_i r hr
    cases hs : s.inService
    · simp
    · simp [h hs] at hr

theorem nextStep_none {s : State} (h : s.inService = true → ∀ j ∈ s.queue.jobs, j.stage ≠ .toPick ∧ j.stage ≠ .toPlace) :
    nextStep s = none := by
  unfold nextStep
  split
  · rename_i hc
    simp only [Bool.and_eq_true] at hc
    split
    · rfl
    · rename_i j hj
      have hm := h hc.1.1 j (List.mem_of_find?_eq_some hj)
      split
      · rfl
      · cases hs : j.stage <;> simp_all
  · rfl

theorem selection_none {s : State}
    (h : s.inService = true → s.activeJob = none → ∀ j ∈ s.queue.jobs, s.eligible j = false) : selection s = none := by
  unfold selection
  split
  · rename_i hc
    simp only [Bool.and_eq_true, Option.isNone_iff_eq_none] at hc
    have hn := h hc.1.1.1.1 hc.1.2
    have : s.queue.jobs.find? s.eligible = none := by
      rw [List.find?_eq_none]
      intro j hj
      simp [hn j hj]
    simp [this]
  · rfl

/-- Nothing follows from a state at rest. -/
theorem progress_atRest {s : State} (h : AtRest s) : progress s = none := by
  have h9 : sealedByScl s = none := by
    unfold sealedByScl
    have := h.scl
    split <;> simp_all
  have h10 : reopen s = none := by
    unfold reopen
    have := h.reopening
    split <;> simp_all <;> (intro h1; rcases this with h2 | h2 <;> simp_all)
  have h11 : opened s = none := by
    unfold opened
    have := h.sop
    split <;> simp_all
  have h6 : haltingReport s = none := by
    unfold haltingReport
    have := h.halting
    split <;> simp_all
  have h8 : homedAtFront s = none := by
    unfold homedAtFront
    have := h.front
    split <;> simp_all
  unfold progress
  simp [finishHeld_none h.held, fillOwed_none h.owed, beginWrite_none h.writes, stepProgress_none h.step,
    craneRests_none h.mode, h6, clearProgress_none h.clearing, h8, h9, h10, h11, serveGive_none h.record,
    nextStep_none h.active, selection_none h.eligible]

/-- More fuel than the consequences need changes nothing. -/
theorem settleWith_more {n m : Nat} {t : State} (h : progress (settleWith n t) = none) (hm : n ≤ m) :
    settleWith m t = settleWith n t := by
  induction n generalizing t m with
  | zero =>
    cases m with
    | zero => rfl
    | succ m => simp only [settleWith] at h ⊢; rw [h]
  | succ n ih =>
    obtain ⟨m, rfl⟩ : ∃ k, m = k + 1 := ⟨m - 1, by omega⟩
    cases hp : progress t with
    | none => simp [settleWith, hp]
    | some v =>
      simp only [settleWith, hp] at h ⊢
      exact ih h (by omega)

/-- Where consequences end, any fuel from 32 on leads. -/
theorem SettlesTo.settleWith_eq {t u : State} (h : SettlesTo t u) {m : Nat} (hm : 32 ≤ m) : settleWith m t = u := by
  obtain ⟨n, hn, rfl, hp⟩ := h
  exact settleWith_more hp (by omega)

/-- So does a command that reaches `t`. -/
theorem SettlesTo.settle_eq {t u : State} (h : SettlesTo t u) : settle t = u := h.settleWith_eq (by decide)

/-- Or reaches `t` by one consequence. -/
theorem SettlesTo.settle_of_progress {s t u : State} (h : SettlesTo t u) (hp : progress s = some t) : settle s = u := by
  have : settle s = settleWith 63 t := by
    show settleWith (63 + 1) s = _
    simp [settleWith, hp]
  rw [this]
  exact h.settleWith_eq (by decide)

theorem settle_atRest {s : State} (h : AtRest s) : settle s = s := settle_of_none (progress_atRest h)

end Sys2Proof.Machine
end

