-- ==== Sys2Proof/Laws/Frames.lean ====
section
/-! SUPPORT. What the shared operations over a command, a frame and the transmit queue can do, said once each. -/

namespace Sys2Proof.Machine

-- One proof at a time: many at once, each with a stack of its own, pass the memory limit of the check.
set_option Elab.async false

/-! ## A command at its moment -/

/-- While powered a command acts on the station as its moment finds it. -/
theorem whenOn_powered {now : Now} {s : State} {act : State → State} (h : s.powered = true) :
    whenOn now s act = .next (act (s.arrive now)) := by
  simp [whenOn, h]

/-- The same, the station at the command's moment named. -/
theorem whenOn_at {now : Now} {s a : State} {act : State → State} (ha : a = s.arrive now) (h : s.powered = true) :
    whenOn now s act = .next (act a) := by
  rw [ha]
  exact whenOn_powered h

/-- Without power a command changes nothing. -/
theorem whenOn_unpowered {now : Now} {s : State} {act : State → State} (h : s.powered = false) : whenOn now s act = .next s := by
  simp [whenOn, h]

/-- What `whenOn` answers is a next state, the action's or the state itself. -/
theorem whenOn_next {now : Now} {s t : State} {act : State → State} (h : whenOn now s act = .next t) :
    (s.powered = true ∧ t = act (s.arrive now)) ∨ (s.powered = false ∧ t = s) := by
  cases hp : s.powered
  · simp [whenOn, hp] at h
    exact .inr ⟨rfl, h.symm⟩
  · simp [whenOn, hp] at h
    exact .inl ⟨rfl, h.symm⟩

@[simp] theorem arrive_powered (s : State) (now : Now) : (s.arrive now).powered = s.powered := rfl
@[simp] theorem arrive_station (s : State) (now : Now) : (s.arrive now).station = s.station := rfl
@[simp] theorem arrive_config (s : State) (now : Now) : (s.arrive now).config = s.config := rfl
@[simp] theorem arrive_clock (s : State) (now : Now) : (s.arrive now).clock = s.clock + now.elapsed := rfl
@[simp] theorem arrive_sensors (s : State) (now : Now) : (s.arrive now).sensors = now.sensors := rfl
@[simp] theorem arrive_dir (s : State) (now : Now) : (s.arrive now).dir = s.dir := rfl
@[simp] theorem arrive_queue (s : State) (now : Now) : (s.arrive now).queue = s.queue := rfl
@[simp] theorem arrive_crane (s : State) (now : Now) : (s.arrive now).crane = s.crane := rfl
@[simp] theorem arrive_front (s : State) (now : Now) : (s.arrive now).front = s.front := rfl
@[simp] theorem arrive_offers (s : State) (now : Now) : (s.arrive now).offers = s.offers := rfl
@[simp] theorem arrive_fire (s : State) (now : Now) : (s.arrive now).fire = s.fire := rfl
@[simp] theorem arrive_faults (s : State) (now : Now) : (s.arrive now).faults = s.faults := rfl
@[simp] theorem arrive_line (s : State) (now : Now) : (s.arrive now).line = s.line := rfl
@[simp] theorem arrive_memory (s : State) (now : Now) : (s.arrive now).memory = s.memory := rfl
@[simp] theorem arrive_pending (s : State) (now : Now) : (s.arrive now).pending = s.pending := rfl

/-! ## Frames -/

/-- A frame handed to its block runs the block's work on the station without it. -/
theorem handFrame_handed {c : Config} {f : RxFrame} {a b : State} (h : Handed c f a b) (handle : State → State) :
    handFrame f handle a = handle b := by
  obtain ⟨hc, hf, hw⟩ := h
  unfold handFrame
  rw [hc]
  simp only [hf, if_true]
  obtain ⟨hq, hl, rfl⟩ | ⟨rest, hq, rfl⟩ := hw
  · rw [hq]
    simp [hl]
  · rw [hq]
    simp [State.onLine]

/-- What becomes of a frame row: its block's work with the frame taken, the frame queued or counted, or nothing. -/
theorem handFrame_cases (f : RxFrame) (handle : State → State) (s : State) :
    (∃ c b, Handed c f s b ∧ handFrame f handle s = handle b) ∨ handFrame f handle s = enqueue f s ∨ handFrame f handle s = s := by
  unfold handFrame
  split
  · exact .inr (.inr rfl)
  · rename_i c hc
    split
    · rename_i hf
      split
      · rename_i hq
        split
        · rename_i hl
          exact .inl ⟨c, s, ⟨hc, hf, .inl ⟨hq, hl, rfl⟩⟩, rfl⟩
        · exact .inr (.inr rfl)
      · rename_i g rest hq
        split
        · rename_i hg
          subst hg
          exact .inl ⟨c, _, ⟨hc, hf, .inr ⟨rest, hq, rfl⟩⟩, rfl⟩
        · split
          · exact .inr (.inl rfl)
          · exact .inr (.inr rfl)
    · exact .inr (.inr rfl)

/-- A frame put behind the others, the queue never above 6; a full queue is counted and leaves the queue as it was. -/
theorem enqueue_cases (f : RxFrame) (s : State) :
    (s.line.rxQueue.length < 6 ∧ enqueue f s = { s with line := { s.line with rxQueue := s.line.rxQueue ++ [f] } })
    ∨ (6 ≤ s.line.rxQueue.length ∧ enqueue f s = { s with line := { s.line with
        counters := { s.line.counters with rxOverrun := satInc s.line.counters.rxOverrun } } }) := by
  unfold enqueue
  split
  · rename_i h
    exact .inl ⟨h, rfl⟩
  · rename_i h
    exact .inr ⟨by omega, rfl⟩

/-- A class 1 or 2 frame takes a free general entry, or is dropped and counted TX_LOST. -/
theorem send_cases (body : TxBody) (dest : Dest) (s : State) :
    (s.line.general.length < 8 ∧ send body dest s = { s with line := { s.line with
        general := s.line.general ++ [newEntry s.line.nextOrder body dest none], nextOrder := s.line.nextOrder + 1 } })
    ∨ (8 ≤ s.line.general.length ∧ send body dest s = { s with line := { s.line with
        counters := { s.line.counters with txLost := satInc s.line.counters.txLost } } }) := by
  unfold send LineUnit.room
  by_cases h : s.line.general.length < 8
  · exact .inl ⟨h, by simp [h, appendGeneral, newEntry, State.onLine]⟩
  · exact .inr ⟨by omega, by simp [h, countLost, State.onCounters, State.onLine, LineUnit.onCounters]⟩

theorem send_room {body : TxBody} {dest : Dest} {s : State} (h : s.line.general.length < 8) :
    send body dest s = { s with line := { s.line with
      general := s.line.general ++ [newEntry s.line.nextOrder body dest none], nextOrder := s.line.nextOrder + 1 } } := by
  rcases send_cases body dest s with ⟨_, h'⟩ | ⟨h', _⟩
  · exact h'
  · omega

/-- With room a frame sent is a frame queued. -/
theorem send_queued {body : TxBody} {dest : Dest} {s : State} (h : s.line.general.length < 8) : send body dest s = Queued body dest s :=
  send_room h

/-! ## Moves -/

/-- What a move request comes to: refused, DRIVE, already there, or the axis driven toward the target (R45, R51). -/
theorem requestMove_cases (a : AxisName) (target cap : Nat) (s : State) :
    requestMove a target cap s = .refused ∨ requestMove a target cap s = .drive
    ∨ requestMove a target cap s = .taken (s.onAxis a (fun x => { x with reversals := 0 }))
    ∨ ∃ c k, s.cfg = some c ∧ s.axisHeld a = false ∧ (s.axis a).move = .none ∧ (s.axis a).homed = true ∧ s.sensors.drdy = true
        ∧ (k = cap ∨ k = 0)
        ∧ requestMove a target cap s = .taken (s.onAxis a (Axis.startMove (Config.axis c a) s.clock target k)) := by
  unfold requestMove
  split
  · exact .inl rfl
  · rename_i c hc
    dsimp only
    split
    · exact .inl rfl
    · rename_i hr
      simp only [Bool.or_eq_true, not_or, Bool.not_eq_true, bne_eq_false_iff_eq, Bool.not_eq_false'] at hr
      split
      · exact .inr (.inr (.inl rfl))
      · split
        · exact .inr (.inl rfl)
        · rename_i hd
          refine .inr (.inr (.inr ⟨c, _, hc, hr.2, hr.1.1, hr.1.2, by simpa using hd, ?_, rfl⟩))
          split
          · exact .inr rfl
          · exact .inl rfl

/-! ## The slot directory -/

/-- A requested change is applied in the state its row of R6 names and refused in any other. -/
theorem requestChange_refused {a : SlotAddr} {src : SlotState → Bool} {st : SlotState} {bin : SlotRec → Nat} {job : Option Nat}
    {s : State} {r : SlotRec} (hr : s.slotRec a = some r) (h : src r.state = false) : requestChange a src st bin job s = s := by
  unfold requestChange
  split
  · rename_i c r' hc hr'
    rw [hr] at hr'
    cases hr'
    simp [h]
  · rfl

end Sys2Proof.Machine
end

