-- ==== Sys2Proof/Laws/Memory.lean ====
section
/-! SUPPORT. The record memory: its canonical form is kept by every operation, and a read gives what was written last. -/

namespace Sys2Proof.Machine.Memory

-- One proof at a time: many at once, each with a stack of its own, pass the memory limit of the check.
set_option Elab.async false

theorem above_trans {a b : Nat} {m : List Host.Cell} (hab : a < b) (h : above b m = true) : above a m = true := by
  induction m with
  | nil => rfl
  | cons x xs ih =>
    obtain ⟨c, v⟩ := x
    simp only [above, Bool.and_eq_true, decide_eq_true_eq] at *
    exact ⟨by omega, ih h.2⟩

theorem above_set {k a : Nat} {v : Byte} {m : List Host.Cell} (hk : k < a) (h : above k m = true) :
    above k (set a v m) = true := by
  induction m with
  | nil => simp [set, above, hk]
  | cons x xs ih =>
    obtain ⟨c, w⟩ := x
    simp only [above, Bool.and_eq_true, decide_eq_true_eq] at h
    simp only [set]
    split
    · simp [above, hk, h.1, h.2]
    · split <;> simp [above, hk, h.1, h.2, ih h.2]

theorem wf_set {a : Nat} {v : Byte} {m : List Host.Cell} (h : wf m = true) : wf (set a v m) = true := by
  induction m with
  | nil => rfl
  | cons x xs ih =>
    obtain ⟨c, w⟩ := x
    simp only [wf, Bool.and_eq_true] at h
    simp only [set]
    split
    · rename_i hac
      simp [wf, above, hac, h.1, h.2, above_trans hac h.1]
    · split
      · rename_i hac
        subst hac
        simp [wf, h.1, h.2]
      · rename_i h1 h2
        have hca : c < a := by omega
        simp [wf, above_set hca h.1, ih h.2]

theorem above_drop {k a : Nat} {m : List Host.Cell} (h : above k m = true) : above k (drop a m) = true := by
  induction m with
  | nil => rfl
  | cons x xs ih =>
    obtain ⟨c, w⟩ := x
    simp only [above, Bool.and_eq_true, decide_eq_true_eq] at h
    simp only [drop]
    split
    · exact h.2
    · simp [above, h.1, ih h.2]

theorem wf_drop {a : Nat} {m : List Host.Cell} (h : wf m = true) : wf (drop a m) = true := by
  induction m with
  | nil => rfl
  | cons x xs ih =>
    obtain ⟨c, w⟩ := x
    simp only [wf, Bool.and_eq_true] at h
    simp only [drop]
    split
    · exact h.2
    · simp [wf, above_drop h.1, ih h.2]

theorem wf_setAll {bytes : List Byte} {a : Nat} {m : List Host.Cell} (h : wf m = true) : wf (setAll a bytes m) = true := by
  induction bytes generalizing a m with
  | nil => exact h
  | cons b bs ih => exact ih (wf_set h)

theorem wf_dropAll {n a : Nat} {m : List Host.Cell} (h : wf m = true) : wf (dropAll a n m) = true := by
  induction n generalizing a m with
  | zero => exact h
  | succ k ih => exact ih (wf_drop h)

theorem wf_reset : wf State.reset.memory = true := rfl

/-- An address below every listed one is not known. -/
theorem read_of_above {a : Nat} {m : List Host.Cell} (h : above a m = true) : read a m = none := by
  induction m with
  | nil => rfl
  | cons x xs ih =>
    obtain ⟨c, w⟩ := x
    simp only [above, Bool.and_eq_true, decide_eq_true_eq] at h
    have hne : a ≠ c := by omega
    simp [read, hne, ih h.2]

theorem read_set_same (a : Nat) (v : Byte) (m : List Host.Cell) : read a (set a v m) = some v := by
  induction m with
  | nil => simp [set, read]
  | cons x xs ih =>
    obtain ⟨c, w⟩ := x
    simp only [set]
    split
    · simp [read]
    · split
      · simp [read]
      · rename_i h1 h2
        simp [read, h2, ih]

theorem read_set_other {a b : Nat} (v : Byte) (m : List Host.Cell) (h : b ≠ a) : read b (set a v m) = read b m := by
  induction m with
  | nil => simp [set, read, h]
  | cons x xs ih =>
    obtain ⟨c, w⟩ := x
    simp only [set]
    split
    · simp [read, h]
    · split
      · rename_i h2
        subst h2
        simp [read, h]
      · simp [read, ih]

theorem read_drop_same {a : Nat} {m : List Host.Cell} (h : wf m = true) : read a (drop a m) = none := by
  induction m with
  | nil => rfl
  | cons x xs ih =>
    obtain ⟨c, w⟩ := x
    simp only [wf, Bool.and_eq_true] at h
    simp only [drop]
    split
    · rename_i hac
      subst hac
      exact read_of_above h.1
    · rename_i hac
      simp [read, hac, ih h.2]

theorem read_drop_other {a b : Nat} (m : List Host.Cell) (h : b ≠ a) : read b (drop a m) = read b m := by
  induction m with
  | nil => rfl
  | cons x xs ih =>
    obtain ⟨c, w⟩ := x
    simp only [drop]
    split
    · rename_i hac
      subst hac
      simp [read, h]
    · simp [read, ih]

/-- Setting a stretch of bytes leaves every address before it as it was. -/
theorem read_setAll_before {bytes : List Byte} {a b : Nat} {m : List Host.Cell} (h : b < a) :
    read b (setAll a bytes m) = read b m := by
  induction bytes generalizing a m with
  | nil => rfl
  | cons x xs ih =>
    rw [setAll, ih (by omega), read_set_other _ _ (by omega)]

end Sys2Proof.Machine.Memory
end

