-- ==== Sys2Proof/Laws/Operations.lean ====
section
/-! SUPPORT. What the shared operations of the directory, the crane, the fault unit and the transmit queue can do, said
once each. -/

namespace Sys2Proof.Machine

-- One proof at a time: many at once, each with a stack of its own, pass the memory limit of the check.
set_option Elab.async false

/-! ## Characters on the line (R188, R189, R191) -/

/-- A character is 11 bits. -/
@[simp] theorem charBits_length (ch : LineChar) : (charBits ch).length = 11 := rfl

theorem bitSamples_pos (index : Nat) : 0 < bitSamples index := by simp [bitSamples]

theorem nominalHalf_lt (index : Nat) : nominalHalf index < bitSamples index := by
  have := Nat.two_pow_pos index
  simp only [nominalHalf, bitSamples]
  omega

/-- The sample of a bit falls inside it. -/
theorem sampleAt_div (index k : Nat) : sampleAt index k / bitSamples index = k := by
  rw [sampleAt, Nat.add_comm, Nat.add_mul_div_right _ _ (bitSamples_pos index), Nat.div_eq_of_lt (nominalHalf_lt index), Nat.zero_add]

/-- What is sampled of a character is its bits. -/
theorem charLevel_sampleAt (ch : LineChar) (index k : Nat) :
    charLevel ch index (sampleAt index k) = (getAt k (charBits ch)).getD true := by rw [charLevel, sampleAt_div]

/-- The byte of a byte's bits is the byte. -/
theorem byteOfBits_getLsbD : ∀ b : Byte, byteOfBits b.getLsbD = b := by decide +kernel

/-- Only the bits 0 to 7 are read. -/
theorem byteOfBits_congr {f g : Nat → Bool} (h : ∀ k < 8, f k = g k) : byteOfBits f = byteOfBits g := by
  simp [byteOfBits, List.range_succ, h]

/-- After the start bit stand the data bits, from the least significant. -/
theorem charBits_data (ch : LineChar) {k : Nat} (hk : k < 8) : (getAt (k + 1) (charBits ch)).getD true = ch.data.getLsbD k := by
  interval_cases k <;> rfl

/-- The bits of a character from the first data bit on, read in order, give the character and a stop bit of 1. -/
theorem sampledFrom_charBits {ch : LineChar} {level : Nat → Bool} {index first : Nat}
    (h : ∀ k, level (sampleAt index (first + k)) = (getAt (k + 1) (charBits ch)).getD true) :
    sampledFrom level index first = (ch, true) := by
  obtain ⟨data, mark⟩ := ch
  have read : (byteOfBits fun k => (getAt (k + 1) (charBits ⟨data, mark⟩)).getD true) = data :=
    (byteOfBits_congr fun _ hk => charBits_data ⟨data, mark⟩ hk).trans (byteOfBits_getLsbD data)
  simp only [sampledFrom, h, read]
  rfl

/-- A character sent is read back as sent, at every rate. -/
theorem sampledChar_charLevel (ch : LineChar) (index : Nat) : sampledChar (charLevel ch index) index = some (ch, true) := by
  have start : charLevel ch index (sampleAt index 0) = false := charLevel_sampleAt ch index 0
  rw [sampledChar, start, sampledFrom_charBits (ch := ch)]
  · rfl
  · intro k
    rw [charLevel_sampleAt, Nat.add_comm]

/-- Read from the end of its start bit, as a hunt reads it, a character is read as sent. -/
theorem huntedChar_charLevel (ch : LineChar) (index : Nat) :
    huntedChar (fun n => charLevel ch index (bitSamples index + n)) index = (ch, true) := by
  refine sampledFrom_charBits fun k => ?_
  have later : bitSamples index + sampleAt index (0 + k) = sampleAt index (k + 1) := by simp only [sampleAt]; grind
  simp only [later, charLevel_sampleAt]

/-! ## Directory (R3, R6, R11, R12) -/

/-- Storing a record changes that record and the EMPTY count alone; a place without a record changes nothing. -/
theorem put_cases (i : Nat) (r : SlotRec) (d : Directory) :
    (getAt i d.records = none ∧ Directory.put i r d = d)
    ∨ ∃ old, getAt i d.records = some old ∧ Directory.put i r d = { d with
        records := setAt i r d.records
        emptyCount := d.emptyCount - (if old.state = .empty then 1 else 0) + (if r.state = .empty then 1 else 0) } := by
  unfold Directory.put
  split
  · rename_i h
    exact .inl ⟨h, rfl⟩
  · rename_i old h
    exact .inr ⟨old, h, rfl⟩

/-- A write entered without a pending entry for its slot stands last. -/
theorem addWrite_new {a : SlotAddr} {img : Image} {job : Option Nat} {acks : Nat} {d : Directory} (h : d.hasPending a = false) :
    d.addWrite a img job acks = { d with writeList := d.writeList ++ [⟨a, img, job, acks⟩] } := by
  simp [Directory.addWrite, h]

/-- With a pending entry for its slot it takes that entry's place, the SLOTACKs owed added up. -/
theorem addWrite_replaces {a : SlotAddr} {img : Image} {job : Option Nat} {acks : Nat} {d : Directory} (h : d.hasPending a = true) :
    d.addWrite a img job acks = { d with
      writeList := d.writing ++ updateFirst (fun e => e.slot == a)
        (fun e => { e with image := img, job := job <|> e.job, acks := e.acks + acks }) d.pendingWrites } := by
  simp [Directory.addWrite, h]

@[simp] theorem addWrite_records (a : SlotAddr) (img : Image) (job : Option Nat) (acks : Nat) (d : Directory) :
    (d.addWrite a img job acks).records = d.records := by
  unfold Directory.addWrite
  split <;> rfl

@[simp] theorem addWrite_emptyCount (a : SlotAddr) (img : Image) (job : Option Nat) (acks : Nat) (d : Directory) :
    (d.addWrite a img job acks).emptyCount = d.emptyCount := by
  unfold Directory.addWrite
  split <;> rfl

@[simp] theorem addWrite_port (a : SlotAddr) (img : Image) (job : Option Nat) (acks : Nat) (d : Directory) :
    (d.addWrite a img job acks).port = d.port := by
  unfold Directory.addWrite
  split <;> rfl

/-- A requested change is the directory's, applied in its source state; else nothing. -/
theorem requestChange_cases (a : SlotAddr) (src : SlotState → Bool) (st : SlotState) (bin : SlotRec → Nat) (job : Option Nat)
    (s : State) :
    requestChange a src st bin job s = s
    ∨ ∃ c r, s.cfg = some c ∧ s.slotRec a = some r ∧ src r.state = true
        ∧ requestChange a src st bin job s = s.onDir (Directory.change a (slotIndex c a) st (bin r) job) := by
  unfold requestChange
  split
  · rename_i c r hc hr
    split
    · rename_i h
      exact .inr ⟨c, r, hc, hr, h, rfl⟩
    · exact .inl rfl
  · exact .inl rfl

/-- A requested change, taken or refused, touches the directory alone. -/
theorem requestChange_onDir (a : SlotAddr) (src : SlotState → Bool) (st : SlotState) (bin : SlotRec → Nat) (job : Option Nat)
    (s : State) : ∃ d, requestChange a src st bin job s = { s with dir := d } := by
  rcases requestChange_cases a src st bin job s with h | ⟨c, r, _, _, _, h⟩
  · exact ⟨s.dir, h⟩
  · exact ⟨_, h⟩

/-- A release changes the directory alone. -/
theorem releaseSlot_onDir (kind : JobKind) (bin : Nat) (a : SlotAddr) (s : State) : ∃ d, releaseSlot kind bin a s = { s with dir := d } := by
  unfold releaseSlot
  split
  · cases kind
    · exact requestChange_onDir a _ _ _ _ s
    · exact requestChange_onDir a _ _ _ _ s
  · exact ⟨s.dir, rfl⟩

theorem releaseFor_onDir (j : Job) (s : State) : ∃ d, releaseFor j s = { s with dir := d } := by
  unfold releaseFor
  split
  · exact ⟨s.dir, rfl⟩
  · split
    · exact requestChange_onDir _ _ _ _ _ s
    · exact releaseSlot_onDir _ _ _ _

/-! ## Jobs (R36, R37, R83) -/

/-- A fail request for a job no longer in the queue changes nothing. -/
theorem failNow_none {n : Nat} {o : FailOutcome} {s : State} (h : s.job n = none) : failNow n o s = s := by
  simp [failNow, h]

/-- A job not in TO_PICK fails without touching the crane: release, FAILED, removal. -/
theorem failNow_some {n : Nat} {o : FailOutcome} {s : State} {j : Job} (h : s.job n = some j) (hs : j.stage ≠ .toPick) :
    failNow n o s = closeClaimed n (removeJob n (send (.failed j.bin j.tag o) (.station j.requester) (releaseFor j s))) := by
  simp [failNow, h, hs]

/-- During the STORE's pull a fail request is held, with whether the bin was in already; else it is carried out. -/
theorem requestFail_cases (n : Nat) (o : FailOutcome) (s : State) :
    (s.front.pulling n = true ∧ requestFail n o s = s.onQueue (fun q =>
        { q with held := q.held ++ [⟨n, .fail o, !s.awaitsCarrier n⟩] }))
    ∨ (s.front.pulling n = false ∧ requestFail n o s = failNow n o s) := by
  unfold requestFail
  cases h : s.front.pulling n
  · exact .inr ⟨rfl, rfl⟩
  · exact .inl ⟨rfl, rfl⟩

/-- A held fail request is carried out as given, or the STORE whose bin has come in since is kept. -/
theorem carryOut_fail_cases (n : Nat) (o : FailOutcome) (pulled : Bool) (s : State) :
    carryOut s ⟨n, .fail o, pulled⟩ = failNow n o s
    ∨ (pulled = false ∧ s.awaitsCarrier n = false ∧ carryOut s ⟨n, .fail o, pulled⟩ = s) := by
  unfold carryOut
  cases pulled <;> cases s.awaitsCarrier n <;> simp

/-- A result's change of the directory. -/
theorem resultChange_onDir (r : StepResult) (a : SlotAddr) (n : Nat) (s : State) : ∃ d, resultChange r a n s = { s with dir := d } := by
  unfold resultChange
  split
  · exact requestChange_onDir a _ _ _ _ s
  · exact requestChange_onDir a _ _ _ _ s
  · exact requestChange_onDir a _ _ _ _ s
  · exact requestChange_onDir a _ _ _ _ s

/-- A result of a job still in the queue changes its slot's record first, then the job; of one gone it changes nothing. -/
theorem applyResult_cases (r : StepResult) (st : CraneStep) (s : State) :
    (s.job st.job = none ∧ applyResult r st s = s)
    ∨ ∃ d, applyResult r st s = resultJob r st.place st.job { s with dir := d } := by
  unfold applyResult
  split
  · rename_i h
    exact .inl ⟨h, rfl⟩
  · refine .inr ?_
    split
    · rename_i a _
      obtain ⟨d, hd⟩ := resultChange_onDir r a st.job s
      exact ⟨d, by rw [hd]⟩
    · exact ⟨s.dir, rfl⟩

/-! ## Stops (R52, R65) -/

@[simp] theorem halt_count (clock : Nat) (a : Axis) : (a.halt clock).count = a.count := rfl
@[simp] theorem halt_homed (clock : Nat) (a : Axis) : (a.halt clock).homed = a.homed := rfl
@[simp] theorem halt_duty (clock : Nat) (a : Axis) : (a.halt clock).duty = 0 := rfl
@[simp] theorem halt_brake (clock : Nat) (a : Axis) : (a.halt clock).brake = true := rfl

theorem halt_quiet (clock : Nat) (a : Axis) : (a.halt clock).Quiet := ⟨rfl, rfl, rfl⟩

/-- The emergency stop of a crane not yet STOPPED: both axes still, the fork off, no step, homing or clearing. -/
theorem emergencyStop_stops {s : State} (h : s.crane.mode ≠ .stopped) :
    (emergencyStop s).crane.mode = .stopped ∧ (emergencyStop s).crane.travel = s.crane.travel.halt s.clock
      ∧ (emergencyStop s).crane.lift = s.crane.lift.halt s.clock ∧ (emergencyStop s).crane.fork = none
      ∧ (emergencyStop s).crane.step = none ∧ (emergencyStop s).crane.homing = none ∧ (emergencyStop s).crane.homeTimer = none
      ∧ (emergencyStop s).crane.clearing = none ∧ (emergencyStop s).crane.held = s.crane.held := by
  unfold emergencyStop
  rw [if_neg h]
  exact ⟨rfl, rfl, rfl, rfl, rfl, rfl, rfl, rfl, rfl⟩

/-- An emergency stop changes the crane alone. -/
theorem emergencyStop_crane (s : State) : ∃ c, emergencyStop s = { s with crane := c } := by
  unfold emergencyStop
  split
  · exact ⟨_, rfl⟩
  · exact ⟨_, rfl⟩

/-- So does a controlled stop, and a move end. -/
theorem controlledStop_crane (s : State) : ∃ c, controlledStop s = { s with crane := c } := by
  unfold controlledStop
  split <;> try exact ⟨_, rfl⟩
  split
  · exact ⟨_, rfl⟩
  · split
    · exact ⟨_, rfl⟩
    · exact ⟨_, rfl⟩

theorem moveEnd_crane (s : State) : ∃ c, moveEnd s = { s with crane := c } := by
  unfold moveEnd
  split
  · exact ⟨_, rfl⟩
  · exact ⟨s.crane, rfl⟩

/-! ## Raising (R162) -/

@[simp] theorem recordFault_station (f : FaultName) (s : State) : (recordFault f s).station = s.station := rfl
@[simp] theorem recordFault_dir (f : FaultName) (s : State) : (recordFault f s).dir = s.dir := rfl
@[simp] theorem recordFault_queue (f : FaultName) (s : State) : (recordFault f s).queue = s.queue := rfl
@[simp] theorem recordFault_crane (f : FaultName) (s : State) : (recordFault f s).crane = s.crane := rfl
@[simp] theorem recordFault_front (f : FaultName) (s : State) : (recordFault f s).front = s.front := rfl
@[simp] theorem recordFault_offers (f : FaultName) (s : State) : (recordFault f s).offers = s.offers := rfl
@[simp] theorem recordFault_fire (f : FaultName) (s : State) : (recordFault f s).fire = s.fire := rfl
@[simp] theorem recordFault_sensors (f : FaultName) (s : State) : (recordFault f s).sensors = s.sensors := rfl
@[simp] theorem recordFault_clock (f : FaultName) (s : State) : (recordFault f s).clock = s.clock := rfl
@[simp] theorem recordFault_config (f : FaultName) (s : State) : (recordFault f s).config = s.config := rfl
@[simp] theorem recordFault_memory (f : FaultName) (s : State) : (recordFault f s).memory = s.memory := rfl
@[simp] theorem recordFault_pending (f : FaultName) (s : State) : (recordFault f s).pending = s.pending := rfl

/-- A fault is in a set once its bit is put there. -/
theorem inSet_or_bit (w : Word) (f : FaultName) : inSet (w ||| f.bit) f = true := by
  cases f <;> simp [inSet, FaultName.bit, FaultName.priority]

/-- What a raising comes to: the sets alone, FAULTED out of RUN or HOMING, or SEALING out of HALTING or CLEARING. -/
theorem raise_cases (f : FaultName) (s : State) :
    (raise f s = recordFault f s ∧ (f.severe = false ∨ (s.station ≠ .run ∧ s.station ≠ .homing)))
    ∨ (f.severe = true ∧ (s.station = .run ∨ s.station = .homing) ∧ raise f s = enterFaulted (recordFault f s))
    ∨ (f.severe = true ∧ s.station = .shutdown ∧ (s.fire.state = .halting ∨ s.fire.state = .clearing)
        ∧ raise f s = forceSeal .fault false (recordFault f s)) := by
  unfold raise
  cases hf : f.severe
  · exact .inl ⟨by simp, .inl rfl⟩
  · cases hs : s.station <;> simp [hs]
    cases hc : s.fire.state <;> simp

/-! ## Class 0 frames (R142, R175) -/

/-- A PARKED finds the reserved entry free or waiting, or goes the way of any frame. -/
theorem sendParked_cases (body : TxBody) (s : State) :
    sendParked body s = send body .all s
    ∨ sendParked body s = s.onLine (fun l =>
        { l with reserved := some (newEntry l.nextOrder body .all none), nextOrder := l.nextOrder + 1 }) := by
  unfold sendParked
  dsimp only
  split
  · exact .inr rfl
  · exact .inl rfl

/-- A BEACON replaces one that waits, takes a free entry, or is dropped with its reported set. -/
theorem sendBeacon_cases (body : TxBody) (reported : Word) (s : State) :
    (∃ g, sendBeacon body reported s = (s.onLine (fun l => { l with general := g })).onFaults
        (fun u => { u with reported := reported }) ∧ g.length = s.line.general.length)
    ∨ (s.line.general.length < 8 ∧ sendBeacon body reported s =
        (appendGeneral body .all none reported s).onFaults (fun u => { u with reported := reported }))
    ∨ (8 ≤ s.line.general.length ∧ sendBeacon body reported s = (countLost s).onFaults (fun u => { u with reported := 0 })) := by
  have hl : ∀ (p : TxEntry → Bool) (f : TxEntry → TxEntry) (l : List TxEntry), (updateFirst p f l).length = l.length := by
    intro p f l
    induction l with
    | nil => rfl
    | cons x xs ih =>
      unfold updateFirst
      split
      · rfl
      · simp [ih]
  unfold sendBeacon
  dsimp only
  split
  · exact .inl ⟨_, rfl, hl _ _ _⟩
  · unfold LineUnit.room
    by_cases h : s.line.general.length < 8
    · exact .inr (.inl ⟨h, by simp [h]⟩)
    · exact .inr (.inr ⟨by omega, by simp [h]⟩)

/-! ## Own attempts (R198, R199) -/

theorem startAttempt_cases (s : State) :
    startAttempt s = s ∨ ∃ c e, s.cfg = some c ∧ s.mayAttempt c = some e ∧ startAttempt s = s.onLine (fun l =>
      { l.updateEntry e.order (fun x => { x with attempts := x.attempts + 1, backoff := 0 }) with
        attempt := some { order := e.order, remaining := e.chars c.address, since := s.clock } }) := by
  unfold startAttempt
  split
  · exact .inl rfl
  · rename_i c hc
    split
    · exact .inl rfl
    · rename_i e he
      exact .inr ⟨c, e, hc, he, rfl⟩

/-- COLLISION ends an attempt on a character that read back unequal, or on one missing for its character time; else it changes
nothing. -/
theorem collide_cases (readBack : List LineChar) (s : State) :
    collide readBack s = s ∨ ∃ a, s.line.attempt = some a ∧ a.allBack readBack = false
      ∧ (readBack.isPrefixOf a.remaining = false
        ∨ a.since + (readBack.length + 1) * charUs (s.line.rate.getD 0) ≤ s.clock)
      ∧ collide readBack s = collided a s := by
  unfold collide
  split
  · rename_i a ha
    split
    · exact .inl rfl
    · rename_i hb
      split
      · exact .inl rfl
      · rename_i hm
        refine .inr ⟨a, ha, by simpa using hb, ?_, rfl⟩
        simpa [Attempt.missing, Classical.or_iff_not_imp_left] using hm
  · exact .inl rfl

end Sys2Proof.Machine
end

