-- ==== Sys2Proof/Laws/PerInstr.lean ====
section
/-! SUPPORT. A family over the constructors of `Instr`: a row that stands for a frame has well-formed operands whenever the
frame passes the station's format tests (R202), the carriers being at most 64 (R179). -/

namespace Sys2Proof.Laws

-- One proof at a time: many at once, each with a stack of its own, pass the memory limit of the check.
set_option Elab.async false

open Sys2Proof.Machine

/-- The frame a frame row stands for (R196). -/
def rowFrame : Instr → Option RxFrame
  | .slotset _ src face bay level state bin => some ⟨src, .slotset face bay level state bin⟩
  | .fetch _ src bin tag => some ⟨src, .fetch bin tag⟩
  | .cancel _ src bin tag => some ⟨src, .cancel bin tag⟩
  | .hold _ src bin tag requester outcome estimate => some ⟨src, .hold bin tag requester outcome estimate⟩
  | .loaded _ src carrier bin destination tag => some ⟨src, .loaded carrier bin destination tag⟩
  | .emptied _ src carrier bin => some ⟨src, .emptied carrier bin⟩
  | .offer _ src carrier bin tag => some ⟨src, .offer carrier bin tag⟩
  | .bid _ src carrier tag offerer cost => some ⟨src, .bid carrier tag offerer cost⟩
  | .claim _ src carrier tag offerer cost => some ⟨src, .claim carrier tag offerer cost⟩
  | .alarm _ src zoneMask cause => some ⟨src, .alarm zoneMask cause⟩
  | .allclear _ src zoneMask => some ⟨src, .allclear zoneMask⟩
  | .stats _ src clear => some ⟨src, .stats clear⟩
  | .powerOn _ | .nrstActive | .configRead _ _ | .memoryReadTimeout _ | .imageRecordRead _ _ _ _ _ | .keyTurn _
  | .writeDoneReport _ | .readbackDone _ _ _ _ _ | .writeTimeout _ | .storePromotion _ _ | .encoderEdge _ _ _ _
  | .endLimitSwitch _ _ | .axisAtRest _ _ | .dutyPeriodStart _ _ | .stallExpiry _ _ | .drdyInactive _
  | .forkSensorReached _ | .forkTimerExpiry _ | .fkcLost _ | .fprObstruction _ | .binLost _ | .homeSwitchEdge _ _
  | .homeSwitchReleased _ _ | .homeTimerExpiry _ | .carrierPassage _ _ _ | .loopStoppedTimeout _
  | .intakeOccupancyChange _ _ | .dispatchOccupancyChange _ _ | .pusherPulseEnd _ | .pusherLimitExpiry _
  | .bidWindowEnd _ _ | .finActive _ | .finInactive _ | .finSettled _ | .alarmRepeatTimer _ | .deadlineTimerExpiry _
  | .shutterTimerExpiry _ | .sclActive _ | .sclInactive _ | .sopActive _ | .beaconTimerExpiry _ | .loopTestDone _ _
  | .huntStartTimed _ _ _ _ | .silentLineFallback _ | .unreadableLineFallback _ | .framingError _ | .frameGapAbort _
  | .frameReceived _ | .txAttemptStart _ | .frameSent _ | .collision _ | .bothPhasesChanged _ _ | .finReadActive _
  | .prkInputChange _ _ | .lrxFallingEdge _ | .characterReceived _ _ | .huntRearm _ | .powerOff => none

/-- A frame within its format gives well-formed operands. -/
def FrameFits.Statement (i : Instr) : Prop :=
  ∀ (n : Nat) (f : RxFrame), n ≤ 64 → rowFrame i = some f → frameOk n f = true → i.wellFormed = true

theorem FrameFits.not_a_frame {i : Instr} (h : rowFrame i = none) : FrameFits.Statement i := by
  intro n f _ hf _
  rw [h] at hf
  cases hf

theorem FrameFits.powerOn : ∀ a0, FrameFits.Statement (.powerOn a0) := fun _ => FrameFits.not_a_frame rfl

theorem FrameFits.nrstActive : FrameFits.Statement .nrstActive := FrameFits.not_a_frame rfl

theorem FrameFits.configRead : ∀ a0 a1, FrameFits.Statement (.configRead a0 a1) :=
  fun _ _ => FrameFits.not_a_frame rfl

theorem FrameFits.memoryReadTimeout : ∀ a0, FrameFits.Statement (.memoryReadTimeout a0) :=
  fun _ => FrameFits.not_a_frame rfl

theorem FrameFits.imageRecordRead : ∀ a0 a1 a2 a3 a4, FrameFits.Statement (.imageRecordRead a0 a1 a2 a3 a4) :=
  fun _ _ _ _ _ => FrameFits.not_a_frame rfl

theorem FrameFits.keyTurn : ∀ a0, FrameFits.Statement (.keyTurn a0) := fun _ => FrameFits.not_a_frame rfl

theorem FrameFits.writeDoneReport : ∀ a0, FrameFits.Statement (.writeDoneReport a0) :=
  fun _ => FrameFits.not_a_frame rfl

theorem FrameFits.readbackDone : ∀ a0 a1 a2 a3 a4, FrameFits.Statement (.readbackDone a0 a1 a2 a3 a4) :=
  fun _ _ _ _ _ => FrameFits.not_a_frame rfl

theorem FrameFits.writeTimeout : ∀ a0, FrameFits.Statement (.writeTimeout a0) := fun _ => FrameFits.not_a_frame rfl

theorem FrameFits.slotset (now : Now) (src face bay level state bin : Nat) :
    FrameFits.Statement (.slotset now src face bay level state bin) := by
  intro n f hn hf hk
  cases hf
  simp only [frameOk, bodyOk, Instr.wellFormed] at hk ⊢
  grind

theorem FrameFits.fetch (now : Now) (src bin tag : Nat) :
    FrameFits.Statement (.fetch now src bin tag) := by
  intro n f hn hf hk
  cases hf
  simp only [frameOk, bodyOk, Instr.wellFormed] at hk ⊢
  grind

theorem FrameFits.cancel (now : Now) (src bin tag : Nat) :
    FrameFits.Statement (.cancel now src bin tag) := by
  intro n f hn hf hk
  cases hf
  simp only [frameOk, bodyOk, Instr.wellFormed] at hk ⊢
  grind

theorem FrameFits.hold (now : Now) (src bin tag requester estimate : Nat) (outcome : HoldOutcome) :
    FrameFits.Statement (.hold now src bin tag requester outcome estimate) := by
  intro n f hn hf hk
  cases hf
  simp only [frameOk, bodyOk, Instr.wellFormed] at hk ⊢
  grind

theorem FrameFits.storePromotion : ∀ a0 a1, FrameFits.Statement (.storePromotion a0 a1) :=
  fun _ _ => FrameFits.not_a_frame rfl

theorem FrameFits.encoderEdge : ∀ a0 a1 a2 a3, FrameFits.Statement (.encoderEdge a0 a1 a2 a3) :=
  fun _ _ _ _ => FrameFits.not_a_frame rfl

theorem FrameFits.endLimitSwitch : ∀ a0 a1, FrameFits.Statement (.endLimitSwitch a0 a1) :=
  fun _ _ => FrameFits.not_a_frame rfl

theorem FrameFits.axisAtRest : ∀ a0 a1, FrameFits.Statement (.axisAtRest a0 a1) :=
  fun _ _ => FrameFits.not_a_frame rfl

theorem FrameFits.dutyPeriodStart : ∀ a0 a1, FrameFits.Statement (.dutyPeriodStart a0 a1) :=
  fun _ _ => FrameFits.not_a_frame rfl

theorem FrameFits.stallExpiry : ∀ a0 a1, FrameFits.Statement (.stallExpiry a0 a1) :=
  fun _ _ => FrameFits.not_a_frame rfl

theorem FrameFits.drdyInactive : ∀ a0, FrameFits.Statement (.drdyInactive a0) := fun _ => FrameFits.not_a_frame rfl

theorem FrameFits.forkSensorReached : ∀ a0, FrameFits.Statement (.forkSensorReached a0) :=
  fun _ => FrameFits.not_a_frame rfl

theorem FrameFits.forkTimerExpiry : ∀ a0, FrameFits.Statement (.forkTimerExpiry a0) :=
  fun _ => FrameFits.not_a_frame rfl

theorem FrameFits.fkcLost : ∀ a0, FrameFits.Statement (.fkcLost a0) := fun _ => FrameFits.not_a_frame rfl

theorem FrameFits.fprObstruction : ∀ a0, FrameFits.Statement (.fprObstruction a0) :=
  fun _ => FrameFits.not_a_frame rfl

theorem FrameFits.binLost : ∀ a0, FrameFits.Statement (.binLost a0) := fun _ => FrameFits.not_a_frame rfl

theorem FrameFits.homeSwitchEdge : ∀ a0 a1, FrameFits.Statement (.homeSwitchEdge a0 a1) :=
  fun _ _ => FrameFits.not_a_frame rfl

theorem FrameFits.homeSwitchReleased : ∀ a0 a1, FrameFits.Statement (.homeSwitchReleased a0 a1) :=
  fun _ _ => FrameFits.not_a_frame rfl

theorem FrameFits.homeTimerExpiry : ∀ a0, FrameFits.Statement (.homeTimerExpiry a0) :=
  fun _ => FrameFits.not_a_frame rfl

theorem FrameFits.carrierPassage : ∀ a0 a1 a2, FrameFits.Statement (.carrierPassage a0 a1 a2) :=
  fun _ _ _ => FrameFits.not_a_frame rfl

theorem FrameFits.loopStoppedTimeout : ∀ a0, FrameFits.Statement (.loopStoppedTimeout a0) :=
  fun _ => FrameFits.not_a_frame rfl

theorem FrameFits.intakeOccupancyChange : ∀ a0 a1, FrameFits.Statement (.intakeOccupancyChange a0 a1) :=
  fun _ _ => FrameFits.not_a_frame rfl

theorem FrameFits.dispatchOccupancyChange : ∀ a0 a1, FrameFits.Statement (.dispatchOccupancyChange a0 a1) :=
  fun _ _ => FrameFits.not_a_frame rfl

theorem FrameFits.pusherPulseEnd : ∀ a0, FrameFits.Statement (.pusherPulseEnd a0) :=
  fun _ => FrameFits.not_a_frame rfl

theorem FrameFits.pusherLimitExpiry : ∀ a0, FrameFits.Statement (.pusherLimitExpiry a0) :=
  fun _ => FrameFits.not_a_frame rfl

theorem FrameFits.loaded (now : Now) (src carrier bin destination tag : Nat) :
    FrameFits.Statement (.loaded now src carrier bin destination tag) := by
  intro n f hn hf hk
  cases hf
  simp only [frameOk, bodyOk, Instr.wellFormed, carrierOk] at hk ⊢
  grind

theorem FrameFits.emptied (now : Now) (src carrier bin : Nat) :
    FrameFits.Statement (.emptied now src carrier bin) := by
  intro n f hn hf hk
  cases hf
  simp only [frameOk, bodyOk, Instr.wellFormed, carrierOk] at hk ⊢
  grind

theorem FrameFits.offer (now : Now) (src carrier bin tag : Nat) :
    FrameFits.Statement (.offer now src carrier bin tag) := by
  intro n f hn hf hk
  cases hf
  simp only [frameOk, bodyOk, Instr.wellFormed, carrierOk] at hk ⊢
  grind

theorem FrameFits.bid (now : Now) (src carrier tag offerer cost : Nat) :
    FrameFits.Statement (.bid now src carrier tag offerer cost) := by
  intro n f hn hf hk
  cases hf
  simp only [frameOk, bodyOk, Instr.wellFormed, carrierOk] at hk ⊢
  grind

theorem FrameFits.claim (now : Now) (src carrier tag offerer cost : Nat) :
    FrameFits.Statement (.claim now src carrier tag offerer cost) := by
  intro n f hn hf hk
  cases hf
  simp only [frameOk, bodyOk, Instr.wellFormed, carrierOk] at hk ⊢
  grind

theorem FrameFits.bidWindowEnd : ∀ a0 a1, FrameFits.Statement (.bidWindowEnd a0 a1) :=
  fun _ _ => FrameFits.not_a_frame rfl

theorem FrameFits.finActive : ∀ a0, FrameFits.Statement (.finActive a0) := fun _ => FrameFits.not_a_frame rfl

theorem FrameFits.finInactive : ∀ a0, FrameFits.Statement (.finInactive a0) := fun _ => FrameFits.not_a_frame rfl

theorem FrameFits.finSettled : ∀ a0, FrameFits.Statement (.finSettled a0) := fun _ => FrameFits.not_a_frame rfl

theorem FrameFits.alarmRepeatTimer : ∀ a0, FrameFits.Statement (.alarmRepeatTimer a0) :=
  fun _ => FrameFits.not_a_frame rfl

theorem FrameFits.alarm (now : Now) (src zoneMask cause : Nat) :
    FrameFits.Statement (.alarm now src zoneMask cause) := by
  intro n f hn hf hk
  cases hf
  simp only [frameOk, bodyOk, Instr.wellFormed] at hk ⊢
  grind

theorem FrameFits.allclear (now : Now) (src zoneMask : Nat) :
    FrameFits.Statement (.allclear now src zoneMask) := by
  intro n f hn hf hk
  cases hf
  simp only [frameOk, bodyOk, Instr.wellFormed] at hk ⊢
  grind

theorem FrameFits.deadlineTimerExpiry : ∀ a0, FrameFits.Statement (.deadlineTimerExpiry a0) :=
  fun _ => FrameFits.not_a_frame rfl

theorem FrameFits.shutterTimerExpiry : ∀ a0, FrameFits.Statement (.shutterTimerExpiry a0) :=
  fun _ => FrameFits.not_a_frame rfl

theorem FrameFits.sclActive : ∀ a0, FrameFits.Statement (.sclActive a0) := fun _ => FrameFits.not_a_frame rfl

theorem FrameFits.sclInactive : ∀ a0, FrameFits.Statement (.sclInactive a0) := fun _ => FrameFits.not_a_frame rfl

theorem FrameFits.sopActive : ∀ a0, FrameFits.Statement (.sopActive a0) := fun _ => FrameFits.not_a_frame rfl

theorem FrameFits.beaconTimerExpiry : ∀ a0, FrameFits.Statement (.beaconTimerExpiry a0) :=
  fun _ => FrameFits.not_a_frame rfl

theorem FrameFits.loopTestDone : ∀ a0 a1, FrameFits.Statement (.loopTestDone a0 a1) :=
  fun _ _ => FrameFits.not_a_frame rfl

theorem FrameFits.huntStartTimed : ∀ a0 a1 a2 a3, FrameFits.Statement (.huntStartTimed a0 a1 a2 a3) :=
  fun _ _ _ _ => FrameFits.not_a_frame rfl

theorem FrameFits.silentLineFallback : ∀ a0, FrameFits.Statement (.silentLineFallback a0) :=
  fun _ => FrameFits.not_a_frame rfl

theorem FrameFits.unreadableLineFallback : ∀ a0, FrameFits.Statement (.unreadableLineFallback a0) :=
  fun _ => FrameFits.not_a_frame rfl

theorem FrameFits.framingError : ∀ a0, FrameFits.Statement (.framingError a0) := fun _ => FrameFits.not_a_frame rfl

theorem FrameFits.frameGapAbort : ∀ a0, FrameFits.Statement (.frameGapAbort a0) := fun _ => FrameFits.not_a_frame rfl

theorem FrameFits.frameReceived : ∀ a0, FrameFits.Statement (.frameReceived a0) := fun _ => FrameFits.not_a_frame rfl

theorem FrameFits.stats (now : Now) (src clear : Nat) :
    FrameFits.Statement (.stats now src clear) := by
  intro n f hn hf hk
  cases hf
  simp only [frameOk, bodyOk, Instr.wellFormed] at hk ⊢
  grind

theorem FrameFits.txAttemptStart : ∀ a0, FrameFits.Statement (.txAttemptStart a0) :=
  fun _ => FrameFits.not_a_frame rfl

theorem FrameFits.frameSent : ∀ a0, FrameFits.Statement (.frameSent a0) := fun _ => FrameFits.not_a_frame rfl

theorem FrameFits.collision : ∀ a0, FrameFits.Statement (.collision a0) := fun _ => FrameFits.not_a_frame rfl

theorem FrameFits.bothPhasesChanged : ∀ a0 a1, FrameFits.Statement (.bothPhasesChanged a0 a1) :=
  fun _ _ => FrameFits.not_a_frame rfl

theorem FrameFits.finReadActive : ∀ a0, FrameFits.Statement (.finReadActive a0) := fun _ => FrameFits.not_a_frame rfl

theorem FrameFits.prkInputChange : ∀ a0 a1, FrameFits.Statement (.prkInputChange a0 a1) :=
  fun _ _ => FrameFits.not_a_frame rfl

theorem FrameFits.lrxFallingEdge : ∀ a0, FrameFits.Statement (.lrxFallingEdge a0) :=
  fun _ => FrameFits.not_a_frame rfl

theorem FrameFits.characterReceived : ∀ a0 a1, FrameFits.Statement (.characterReceived a0 a1) :=
  fun _ _ => FrameFits.not_a_frame rfl

theorem FrameFits.huntRearm : ∀ a0, FrameFits.Statement (.huntRearm a0) := fun _ => FrameFits.not_a_frame rfl

theorem FrameFits.powerOff : FrameFits.Statement .powerOff := FrameFits.not_a_frame rfl

end Sys2Proof.Laws
end

