-- ==== Sys2Proof/Tests/Slice0.lean ====
section
/-! SUPPORT. The author's tests: each check of WellFormed refuses an ill-formed command; the spec's worked figures; small
steps; and for every statement concrete states and operands that meet its hypotheses together. -/

namespace Sys2Proof.Tests

-- One proof at a time: many at once, each with a stack of its own, pass the memory limit of the check.
set_option Elab.async false

open Sys2Proof Sys2Proof.Machine

/-! ## Well-formedness -/

/-- A moment: nothing elapsed, no input active. -/
def n0 : Now := ⟨0, {}, {}⟩

theorem test_wf_record_length : (Instr.configRead n0 []).wellFormed = false := by decide
theorem test_wf_slotset_source : (Instr.slotset n0 0 1 1 1 0 0).wellFormed = false := by decide
theorem test_wf_slotset_face : (Instr.slotset n0 1 256 1 1 0 0).wellFormed = false := by decide
theorem test_wf_slotset_bay : (Instr.slotset n0 1 1 256 1 0 0).wellFormed = false := by decide
theorem test_wf_slotset_level : (Instr.slotset n0 1 1 1 256 0 0).wellFormed = false := by decide
theorem test_wf_slotset_state : (Instr.slotset n0 1 1 1 1 256 0).wellFormed = false := by decide
theorem test_wf_slotset_bin : (Instr.slotset n0 1 1 1 1 0 16777216).wellFormed = false := by decide
theorem test_wf_fetch_source : (Instr.fetch n0 31 1 1).wellFormed = false := by decide
theorem test_wf_fetch_bin : (Instr.fetch n0 30 16777216 1).wellFormed = false := by decide
theorem test_wf_fetch_tag : (Instr.fetch n0 30 1 256).wellFormed = false := by decide
theorem test_wf_cancel_source : (Instr.cancel n0 0 1 1).wellFormed = false := by decide
theorem test_wf_cancel_bin : (Instr.cancel n0 1 16777216 1).wellFormed = false := by decide
theorem test_wf_cancel_tag : (Instr.cancel n0 1 1 256).wellFormed = false := by decide
theorem test_wf_hold_source : (Instr.hold n0 31 1 1 1 .queued 0).wellFormed = false := by decide
theorem test_wf_hold_bin : (Instr.hold n0 1 16777216 1 1 .queued 0).wellFormed = false := by decide
theorem test_wf_hold_tag : (Instr.hold n0 1 1 256 1 .queued 0).wellFormed = false := by decide
theorem test_wf_hold_requester : (Instr.hold n0 1 1 1 0 .queued 0).wellFormed = false := by decide
theorem test_wf_hold_estimate : (Instr.hold n0 1 1 1 1 .queued 65536).wellFormed = false := by decide
theorem test_wf_promotion_job : (Instr.storePromotion n0 256).wellFormed = false := by decide
theorem test_wf_loaded_source : (Instr.loaded n0 0 1 1 1 1).wellFormed = false := by decide
theorem test_wf_loaded_carrier : (Instr.loaded n0 1 64 1 1 1).wellFormed = false := by decide
theorem test_wf_loaded_bin : (Instr.loaded n0 1 1 0 1 1).wellFormed = false := by decide
theorem test_wf_loaded_destination : (Instr.loaded n0 1 1 1 31 1).wellFormed = false := by decide
theorem test_wf_loaded_tag : (Instr.loaded n0 1 1 1 1 256).wellFormed = false := by decide
theorem test_wf_emptied_source : (Instr.emptied n0 0 1 1).wellFormed = false := by decide
theorem test_wf_emptied_carrier : (Instr.emptied n0 1 64 1).wellFormed = false := by decide
theorem test_wf_emptied_bin : (Instr.emptied n0 1 1 0).wellFormed = false := by decide
theorem test_wf_offer_source : (Instr.offer n0 0 1 1 1).wellFormed = false := by decide
theorem test_wf_offer_carrier : (Instr.offer n0 1 64 1 1).wellFormed = false := by decide
theorem test_wf_offer_bin : (Instr.offer n0 1 1 0 1).wellFormed = false := by decide
theorem test_wf_offer_tag : (Instr.offer n0 1 1 1 256).wellFormed = false := by decide
theorem test_wf_bid_source : (Instr.bid n0 0 1 1 1 0).wellFormed = false := by decide
theorem test_wf_bid_carrier : (Instr.bid n0 1 64 1 1 0).wellFormed = false := by decide
theorem test_wf_bid_tag : (Instr.bid n0 1 1 256 1 0).wellFormed = false := by decide
theorem test_wf_bid_offerer : (Instr.bid n0 1 1 1 0 0).wellFormed = false := by decide
theorem test_wf_bid_cost : (Instr.bid n0 1 1 1 1 65536).wellFormed = false := by decide
theorem test_wf_claim_source : (Instr.claim n0 0 1 1 1 0).wellFormed = false := by decide
theorem test_wf_claim_carrier : (Instr.claim n0 1 64 1 1 0).wellFormed = false := by decide
theorem test_wf_claim_tag : (Instr.claim n0 1 1 256 1 0).wellFormed = false := by decide
theorem test_wf_claim_offerer : (Instr.claim n0 1 1 1 0 0).wellFormed = false := by decide
theorem test_wf_claim_cost : (Instr.claim n0 1 1 1 1 65536).wellFormed = false := by decide
theorem test_wf_window_carrier : (Instr.bidWindowEnd n0 64).wellFormed = false := by decide
theorem test_wf_alarm_source : (Instr.alarm n0 0 1 1).wellFormed = false := by decide
theorem test_wf_alarm_mask : (Instr.alarm n0 1 256 1).wellFormed = false := by decide
theorem test_wf_alarm_cause : (Instr.alarm n0 1 1 256).wellFormed = false := by decide
theorem test_wf_allclear_source : (Instr.allclear n0 31 1).wellFormed = false := by decide
theorem test_wf_allclear_mask : (Instr.allclear n0 1 256).wellFormed = false := by decide
theorem test_wf_stats_source : (Instr.stats n0 0 1).wellFormed = false := by decide
theorem test_wf_stats_clear : (Instr.stats n0 1 2).wellFormed = false := by decide
theorem test_wf_accepts : (Instr.fetch n0 17 245870 40).wellFormed = true := by decide

/-- No word spells a command (log 6). -/
theorem test_no_word : decodeTableWord 8 0xFF = none ∧ State.withFetchWord State.reset 8 0xFF = State.reset := by decide

/-! ## A small station -/

/-! Station 9, zone 3, fire panel 20, maintenance 21; one face of 2 bays and 2 levels, 4 carriers: its record, in six
stretches, so that the check value is worked out in steps. -/

def bytes1 : List Byte :=
  [9, 1, 3, 20, 21, 0, 1, 2, 2, 1] ++ be2 1000 ++ be2 100 ++ be2 500 ++ be2 100 ++ be2 10 ++ be2 1000 ++ be2 500
def bytes2 : List Byte := be2 100 ++ be2 300 ++ be2 600 ++ be2 1000 ++ be2 100 ++ be2 300 ++ be2 600 ++ be2 1000
def bytes3 : List Byte := be2 200 ++ be2 100 ++ be2 50 ++ be2 200 ++ be2 100 ++ be2 50
def bytes4 : List Byte := be2 1000 ++ be2 500 ++ be2 300 ++ be2 200 ++ be2 1000 ++ be2 500 ++ be2 300 ++ be2 200
def bytes5 : List Byte := be2 500 ++ be2 300 ++ be2 200 ++ be2 100 ++ be2 500 ++ be2 300 ++ be2 200 ++ be2 100
def bytes6 : List Byte :=
  [5, 4] ++ be2 100 ++ be2 100 ++ be2 50 ++ be2 50 ++ be2 350 ++ be2 5000 ++ be2 60 ++ be2 100 ++ be2 500
    ++ be2 100 ++ be2 400 ++ be2 60 ++ [30, 20, 5, 10]

/-- Bytes 0..113. -/
def body0 : List Byte := bytes1 ++ (bytes2 ++ (bytes3 ++ (bytes4 ++ (bytes5 ++ bytes6))))

/-- The record with its check value. -/
def record0 : List Byte := body0 ++ [0x83, 0xEB]

def axis0 (home : Nat) : AxisConfig :=
  { home := home, duty := ⟨100, 300, 600, 1000⟩, threshold := ⟨0, 50, 100, 200⟩, minPeriod := ⟨1000, 500, 300, 200⟩
    stall := ⟨500, 300, 200, 100⟩ }

def c0 : Config :=
  { address := 9, groupMask := 1, zone := 3, panel := 20, maintenance := 21, preferredRate := 0, faces := 1, bays := 2
    levels := 2, clearBay := 1, t0 := 1000, cb := 100, v0 := 500, cl := 100, lo := 10, travel := axis0 1000
    lift := axis0 500, window := 5, carriers := 4, tb := 100, tl := 100, rt := 50, rl := 50, fork := 350
    forkLimit := 5000, homeLimit := 60000, pusherPulse := 100, pusherLimit := 500, fillWeight := 100, bidWindow := 400
    storePatience := 60000, fireDeadline := 30000, shutterLimit := 20000, finSettle := 5000, beaconPeriod := 10000 }

theorem crc_body0 : crc16 body0 = 0x83EB#16 := by
  have h1 : bytes1.foldl crcByte 0xFFFF#16 = 56247#16 := by decide +kernel
  have h2 : bytes2.foldl crcByte 56247#16 = 14443#16 := by decide +kernel
  have h3 : bytes3.foldl crcByte 14443#16 = 9465#16 := by decide +kernel
  have h4 : bytes4.foldl crcByte 9465#16 = 39507#16 := by decide +kernel
  have h5 : bytes5.foldl crcByte 39507#16 = 64545#16 := by decide +kernel
  have h6 : bytes6.foldl crcByte 64545#16 = 0x83EB#16 := by decide +kernel
  simp only [crc16, body0, List.foldl_append, h1, h2, h3, h4, h5, h6]

theorem record0_parts : record0.length = 116 ∧ record0.take 114 = body0 ∧ wordAt record0 114 = 0x83EB
    ∧ parseConfig record0 = c0 ∧ Config.valid c0 = true := by decide +kernel

/-- The record of 12.3 is read field by field. -/
theorem test_config_read : readConfig record0 = some c0 := by
  obtain ⟨h1, h2, h3, h4, h5⟩ := record0_parts
  simp [readConfig, h1, h2, h3, h4, h5, crc_body0]

/-- The check value of the nine characters 1 to 9 (11.4). -/
theorem test_crc : crc16 [0x31, 0x32, 0x33, 0x34, 0x35, 0x36, 0x37, 0x38, 0x39] = 0x29B1#16 := by decide +kernel

/-- In RUN and CALM with nothing to do: slots HELD 4, EMPTY, HELD 5, BLOCKED MISSING 6; the crane homed at bay 2, level 1. -/
def run0 : State :=
  { State.reset with
    clock := 100000000, sensors := { drdy := true, fkc := true }, station := .run, config := some c0
    dir := { Directory.reset with
      records := [⟨.held, 4, false⟩, ⟨.empty, 0, false⟩, ⟨.held, 5, false⟩, ⟨.blocked .missing, 6, false⟩], emptyCount := 1 }
    crane := { Crane.reset with
      travel := { Axis.reset with count := 1200, homed := true }, lift := { Axis.reset with count := 510, homed := true } }
    front := { Front.reset with index := 1, indexValid := true, view := [.free, .free, .unknown, .free], period := some 1000 }
    line := { LineUnit.reset with mode := .locked, rate := some 0, everLocked := true, idleFrom := 99000000 } }

/-- The moment at which nothing elapses and the inputs read as they stand. -/
def here (s : State) : Now := ⟨0, s.sensors, {}⟩

theorem here_arrives (s : State) : s = s.arrive (here s) := rfl

/-- A station whose crane is not stopped, homing or clearing, no output held. -/
theorem craneHeld_moving {s : State}
    (h : s.fire.state = .calm ∧ s.outputsHeld = false ∧ s.crane.mode ≠ .stopped ∧ s.crane.homing = none
      ∧ s.crane.mode ≠ .homing ∧ s.crane.clearing = none ∧ s.crane.mode ≠ .clearing) : CraneHeld s := by
  obtain ⟨h1, h2, h3, h4, h5, h6, h7⟩ := h
  constructor <;> simp_all

/-- A station whose crane is stopped and still. -/
theorem craneHeld_stopped {s : State}
    (h : (s.fire.state = .calm ∨ s.station = .shutdown ∨ s.station = .start ∨ s.station = .halted) ∧ s.crane.mode = .stopped
      ∧ s.crane.homing = none ∧ s.crane.clearing = none ∧ s.crane.step = none ∧ s.crane.travel.duty = 0
      ∧ s.crane.travel.nextDuty = none ∧ s.crane.travel.move = .none ∧ s.crane.lift.duty = 0 ∧ s.crane.lift.nextDuty = none
      ∧ s.crane.lift.move = .none) : CraneHeld s := by
  obtain ⟨h1, h2, h3, h4, h5, h6, h7, h8, h9, h10, h11⟩ := h
  exact ⟨fun hc => h1.resolve_left hc, fun _ => h2, fun _ => ⟨⟨h6, h7, h8⟩, ⟨h9, h10, h11⟩, h5⟩, by simp [h3], by simp [h2], by simp [h4], by simp [h2]⟩

/-- A frame that passes its tests is handed over at once while the receive queue is empty. -/
theorem handed_now {f : RxFrame} {s : State} (h : s.cfg = some c0 ∧ frameOk c0.carriers f = true ∧ s.line.rxQueue = []
    ∧ s.line.mode = .locked) : Handed c0 f s s := ⟨h.1, h.2.1, .inl ⟨h.2.2.1, h.2.2.2, rfl⟩⟩

/-- Consequences that end within so many end somewhere. -/
theorem settles_in {t : State} (n : Nat) (hn : n ≤ 32) (h : progress (settleWith n t) = none) : ∃ u, SettlesTo t u :=
  ⟨_, n, hn, rfl, h⟩

theorem rest_run0 : AtRest run0 := by constructor <;> decide +kernel
theorem held_run0 : CraneHeld run0 := craneHeld_moving (by decide +kernel)

/-- Slot (L, 1, 1); a STORE and a FETCH of bin 4 there. -/
def slot1 : SlotAddr := ⟨.left, 1, 1⟩

def storeJob (st : Stage) : Job :=
  { num := 7, kind := .store, bin := 4, slot := some slot1, requester := 4, tag := 9, carrier := some 2, stage := st
    start := none, pulledSince := none, promoted := false, reoffer := false }

def fetchJob4 (st : Stage) : Job :=
  { num := 3, kind := .fetch, bin := 4, slot := some slot1, requester := 17, tag := 40, carrier := none, stage := st
    start := none, pulledSince := none, promoted := false, reoffer := false }

/-! ## The spec's worked figures -/

/-- The station of 5.9: the crane at (17, 5), 700 slots occupied of 960, slot (L, 3, 2) the nearest empty. -/
def worked : State :=
  { run0 with
    config := some { c0 with tb := 12, tl := 30, rt := 80, rl := 60, fillWeight := 600, faces := 2, bays := 40
                             levels := 12, carriers := 40 }
    dir := { run0.dir with
      records := List.replicate 25 ⟨.held, 1, false⟩ ++ ⟨.empty, 0, false⟩ :: List.replicate 934 ⟨.held, 1, false⟩
      emptyCount := 260 }
    crane := { run0.crane with
      travel := { run0.crane.travel with count := 2700 }, lift := { run0.crane.lift with count := 900 } }
    front := { run0.front with
      index := 31, period := some 1237
      view := List.replicate 32 .unknown ++ [.laden none none none, .laden none none none, .free] ++ List.replicate 5 .free } }

/-- The bid of 5.9 on the idle station. -/
theorem test_bid_cost : worked.position = some ⟨17, 5⟩ ∧ worked.bidCost 36 = some 1874 := by decide +kernel

/-- The call of 5.9 for the bin at (R, 20, 8). -/
theorem test_hold_estimate :
    worked.holdEstimate { num := 0, kind := .fetch, bin := 245870, slot := some ⟨.right, 20, 8⟩, requester := 17, tag := 40
                          carrier := none, stage := .waiting, start := none, pulledSince := none, promoted := false
                          reoffer := false } = 1542 := by decide +kernel

/-- With the loop stopped there is no cost (5.9). -/
theorem test_no_cost : { worked with front := { worked.front with stopped := true } }.bidCost 36 = none := by decide +kernel

/-- The pair order of 5.9 and R101. -/
theorem test_pairs : BidPair.better ⟨1874, 8⟩ ⟨1874, 9⟩ = true ∧ BidPair.better ⟨1874, 10⟩ ⟨1874, 9⟩ = false
    ∧ BidPair.beatsOwn ⟨1874, 9⟩ ⟨1874, 9⟩ = true := by decide

/-- The rate table (R188), by its columns: bit, max start, min start, nominal half. -/
theorem test_rates : (List.range 6).map (fun i => (bitSamples i, maxStart i, minStart i, nominalHalf i))
    = [(16, 17, 15, 8), (32, 34, 30, 16), (64, 68, 60, 32), (128, 136, 120, 64), (256, 272, 240, 128), (512, 544, 480, 256)]
    ∧ charUs 2 = 88 := by decide

/-- The lead 0xB5 and an address 0x3F on the line (R188). -/
theorem test_bits : charBits ⟨0xB5, false⟩ = [false, true, false, true, false, true, true, false, true, false, true]
    ∧ charBits ⟨0x3F, true⟩ = [false, true, true, true, true, true, true, false, false, true, true] := by decide

/-! ## Single steps -/

/-- The state a command leaves. -/
def after (i : Instr) (s : State) : State :=
  match exec i s with
  | .next t => t
  | .fault _ => s
  | .refused _ => s

/-- A BID of this station under an attempt that reads back unequal (11.9). -/
def bidding (generator : Word) : State :=
  { run0 with line := { run0.line with
      general := [{ (newEntry 0 (.bid 36 50 21 1874) .all none) with attempts := 1 }], nextOrder := 1
      attempt := some { order := 0, remaining := [⟨0xB5, false⟩], since := 0 }, backoffGen := generator } }

/-- The collisions of 11.9. -/
theorem test_collision_backoff :
    (after (.collision (here run0)) (bidding 9)).line.backoffGen = 0xB404
      ∧ (after (.collision (here run0)) (bidding 9)).line.general.map (·.backoff) = [5]
      ∧ (after (.collision (here run0)) (bidding 13)).line.backoffGen = 0xB406
      ∧ (after (.collision (here run0)) (bidding 13)).line.general.map (·.backoff) = [7]
      ∧ (after (.collision (here run0)) (bidding 0xB404)).line.backoffGen = 0x5A02
      ∧ (after (.collision (here run0)) (bidding 0xB404)).line.general.map (·.backoff) = [3] := by decide +kernel

/-- A call for a HELD bin makes job 0, selected at once, and reserves its slot (R107, R32). -/
theorem test_fetch_is_queued :
    (after (.fetch (here run0) 17 4 40) run0).queue.jobs.map (fun j => (j.num, j.stage)) = [(0, .toPick)]
      ∧ (after (.fetch (here run0) 17 4 40) run0).slotIs ⟨.left, 1, 1⟩ .outbound = true
      ∧ (after (.fetch (here run0) 17 4 40) run0).crane.mode = .step
      ∧ (after (.fetch (here run0) 17 4 40) run0).crane.travel.move = .driving := by decide +kernel

/-- A peer's load of an unknown carrier is seen (R75). -/
theorem test_loaded_seen :
    (after (.loaded (here run0) 4 2 77 5 1) run0).front.entry 2 = .laden (some 77) (some 5) (some 4) := by decide +kernel

/-- At bay 2, clear of the shutter plane, an ALARM for zone 3 goes straight to SEALING (R146, R147). -/
theorem test_alarm_seals :
    (after (.alarm (here run0) 4 8 1) run0).fire.state = .sealing
      ∧ (after (.alarm (here run0) 4 8 1) run0).station = .shutdown := by decide +kernel

/-- Another zone's ALARM changes nothing. -/
theorem test_alarm_elsewhere : after (.alarm (here run0) 4 16 1) run0 = run0 := by decide +kernel

/-- With both phases changed the pair is the new reference, the count stays, and FAULTED is entered (R42). -/
theorem test_both_phases :
    (after (.bothPhasesChanged (here run0) .lift) run0).station = .faulted
      ∧ (after (.bothPhasesChanged (here run0) .lift) run0).crane.lift.count = 510
      ∧ (after (.bothPhasesChanged (here run0) .lift) run0).crane.lift.phaseA = true := by decide +kernel

/-- A SLOTSET from another station than the maintenance station is refused (R21). -/
theorem test_slotset_source :
    (after (.slotset (here run0) 4 1 1 1 0 0) run0).line.general.map (·.body) = [.slotack 1 1 1 .refusedSource] := by
  decide +kernel

/-- Every command of an idle queue's step leaves the station as it is (log 4). -/
theorem test_idle_step : step run0 = .next run0 := rfl

/-! ## Hypotheses met: supply, start, key (witnesses, named after the statements) -/

theorem witness_StepRunsFrontCommand :
    { run0 with pending := [.powerOff, .nrstActive] }.pending = .powerOff :: [.nrstActive] ∧ run0.pending = [] := ⟨rfl, rfl⟩

theorem witness_SupplyIsFollowed :
    let c : Instr := .keyTurn n0
    { State.reset with powered := false }.powered = false ∧ (∀ pins, c ≠ .powerOn pins) ∧ c ≠ .powerOff ∧ c ≠ .nrstActive := by
  refine ⟨rfl, ?_, ?_, ?_⟩ <;> simp

theorem rest_reset : AtRest State.reset := by constructor <;> decide +kernel

/-- In START, 20 ms after the supply came up; and in LOADING, 20 ms after a read began. -/
def start0 : State := { State.reset with clock := 20000 }
def loading0 : State :=
  { State.reset with clock := 20000, station := .loading, config := some c0, dir := { Directory.reset with port := .reading } }

theorem held_start0 : CraneHeld start0 := craneHeld_moving (by decide +kernel)
theorem held_loading0 : CraneHeld loading0 := craneHeld_moving (by decide +kernel)

theorem witness_StartReadsAreJudged :
    (State.reset = State.reset.arrive (here State.reset) ∧ State.reset.powered = true ∧ State.reset.station = .start
      ∧ State.reset.fire.state = .calm ∧ AtRest State.reset ∧ readConfig record0 = some c0)
    ∧ (start0 = start0.arrive (here start0) ∧ start0.powered = true ∧ CraneHeld start0 ∧ start0.fire.state = .calm
      ∧ start0.station = .start ∧ readConfig [] = none ∧ 20000 ≤ start0.clock)
    ∧ loading0 = loading0.arrive (here loading0) ∧ loading0.powered = true ∧ CraneHeld loading0 ∧ loading0.fire.state = .calm
      ∧ loading0.station = .loading ∧ loading0.dir.port = .reading ∧ loading0.dir.portSince + 20000 ≤ loading0.clock :=
  ⟨⟨rfl, rfl, rfl, rfl, rest_reset, test_config_read⟩, ⟨rfl, rfl, held_start0, rfl, rfl, by decide +kernel, by decide⟩, rfl, rfl, held_loading0, rfl, rfl, rfl, by decide⟩

/-- Three records read. -/
def loading3 : State :=
  { loading0 with dir := { loading0.dir with staging := [⟨.held, 4, false⟩, ⟨.empty, 0, false⟩, ⟨.held, 5, false⟩] } }

theorem rest_loading3 : AtRest loading3 := by constructor <;> decide +kernel

theorem witness_ImageRecordsMakeDirectory :
    (loading0 = loading0.arrive (here loading0) ∧ loading0.powered = true ∧ loading0.config = some c0 ∧ loading0.station = .loading
      ∧ loading0.dir.port = .reading ∧ loading0.dir.staging.length + 1 < Config.capacity c0)
    ∧ loading3 = loading3.arrive (here loading3) ∧ loading3.powered = true ∧ loading3.config = some c0
      ∧ loading3.station = .loading ∧ loading3.dir.port = .reading ∧ AtRest loading3
      ∧ loading3.dir.staging.length + 1 = Config.capacity c0
      ∧ (∀ r ∈ loading3.dir.staging ++ [⟨.empty, 0, false⟩], r.owed = false)
      ∧ (∀ r ∈ loading3.dir.staging ++ [⟨.empty, 0, false⟩], r.state = .held →
          heldTwice r.bin (loading3.dir.staging ++ [⟨.empty, 0, false⟩]) = false)
      ∧ loading3.dir.writeList = [] ∧ loading3.queue.jobs = [] ∧ loading3.line.everLocked = false ∧ loading3.line.mode = .off
      ∧ (∃ q ∈ loading3.dir.staging ++ [⟨.held, 4, false⟩], q.state = .held
          ∧ heldTwice q.bin (loading3.dir.staging ++ [⟨.held, 4, false⟩]) = true) :=
  ⟨by decide +kernel, rfl, rfl, rfl, rfl, rfl, rest_loading3, by decide +kernel⟩

/-- A reload's last record to come, a kept job at slot (L, 1, 1), whose record reads as given. -/
def reloading (j : Job) (st : SlotState) (bin : Nat) : State :=
  { loading3 with
    sensors := { drdy := true, fkc := true }, queue := { JobQueue.reset with jobs := [j] }
    dir := { loading3.dir with staging := [⟨st, bin, false⟩, ⟨.empty, 0, false⟩, ⟨.held, 5, false⟩] }
    line := { LineUnit.reset with mode := .locked, rate := some 0, everLocked := true } }

theorem witness_ImageRecordsMakeDirectory_reload :
    ∀ p ∈ [(fetchJob4 .dispatching, SlotState.held, 4), (storeJob .committing, .empty, 0), (storeJob .waiting, .empty, 0)],
      let a := reloading p.1 p.2.1 p.2.2
      let rs := a.dir.staging ++ [⟨.empty, 0, false⟩]
      a = a.arrive (here a) ∧ a.powered = true ∧ a.config = some c0 ∧ a.station = .loading ∧ a.dir.port = .reading
        ∧ a.dir.staging.length + 1 = Config.capacity c0 ∧ (∀ r ∈ rs, r.owed = false)
        ∧ (∀ r ∈ rs, r.state = .held → heldTwice r.bin rs = false) ∧ a.dir.writeList = [] ∧ a.line.everLocked = true
        ∧ a.fire.state = .calm ∧ hasSevere a.faults.current = false ∧ a.crane.held = none ∧ a.crane.clearing = none
        ∧ a.sensors.fkc = true ∧ a.sensors.drdy = true ∧ anyLimit a.sensors = false ∧ a.queue.jobs = [p.1]
        ∧ p.1.slot = some slot1 ∧ namesRecord c0 slot1 = true ∧ slotIndex c0 slot1 = 0
        ∧ getAt 0 rs = some ⟨p.2.1, p.2.2, false⟩
        ∧ (∀ k < 4, k ≠ 0 → (getAt k rs).map (fun q => decide (q.state = .held ∧ q.bin = p.1.bin)) ≠ some true)
        ∧ getAt 4 rs = none := by
  decide +kernel

/-- The key held active for just 50 ms. -/
def keyed0 : State := { run0 with prk := true, prkArmed := true, prkRun := some 99950000 }

theorem witness_KeyIsFollowed :
    (run0 = run0.arrive (here run0) ∧ run0.powered = true ∧ run0.prk = false)
    ∧ keyed0 = keyed0.arrive (here keyed0) ∧ keyed0.powered = true ∧ keyed0.prk = true ∧ keyed0.prkArmed = true
      ∧ keyed0.prkRun = some 99950000 ∧ 99950000 + 50000 ≤ keyed0.clock ∧ keyed0.station ≠ .faulted := by decide +kernel

/-- FAULTED with the key just turned: MEMORY in the current set, or STALL with the records held. -/
def faulted0 (current : Word) : State :=
  { keyed0 with
    station := .faulted, crane := { Crane.reset with mode := .stopped }
    faults := { FaultUnit.reset with current := current, accrued := current } }

theorem held_faulted0 (w : Word) : CraneHeld (faulted0 w) :=
  craneHeld_stopped ⟨.inl rfl, rfl, rfl, rfl, rfl, rfl, rfl, rfl, rfl, rfl, rfl⟩

theorem witness_KeyIsFollowed_faulted :
    (faulted0 1 = (faulted0 1).arrive (here (faulted0 1)) ∧ (faulted0 1).powered = true ∧ CraneHeld (faulted0 1)
      ∧ (faulted0 1).station = .faulted ∧ (faulted0 1).prk = true ∧ (faulted0 1).prkArmed = true
      ∧ (faulted0 1).prkRun = some 99950000 ∧ 99950000 + 50000 ≤ (faulted0 1).clock
      ∧ (inSet (faulted0 1).faults.current .memory = true ∨ (faulted0 1).dir.records = []))
    ∧ faulted0 32 = (faulted0 32).arrive (here (faulted0 32)) ∧ (faulted0 32).powered = true ∧ CraneHeld (faulted0 32)
      ∧ (faulted0 32).station = .faulted ∧ (faulted0 32).config = some c0 ∧ (faulted0 32).prk = true
      ∧ (faulted0 32).prkArmed = true ∧ (faulted0 32).prkRun = some 99950000 ∧ 99950000 + 50000 ≤ (faulted0 32).clock
      ∧ inSet (faulted0 32).faults.current .memory = false ∧ (faulted0 32).dir.records ≠ [] ∧ (faulted0 32).crane.held = none
      ∧ (faulted0 32).sensors.fkc = true ∧ (faulted0 32).sensors.drdy = true ∧ (faulted0 32).sensors.vhs = false
      ∧ (faulted0 32).sensors.tll = false ∧ (faulted0 32).sensors.tlh = false ∧ (faulted0 32).sensors.vll = false
      ∧ (faulted0 32).sensors.vlh = false :=
  ⟨⟨rfl, rfl, held_faulted0 1, rfl, rfl, rfl, rfl, by decide +kernel, by decide +kernel⟩,
    rfl, rfl, held_faulted0 32, by decide +kernel⟩

/-- STALL shown, the fork off centre and an end limit switch active. -/
def faultedOut : State := { faulted0 32 with sensors := { drdy := true, tll := true } }

theorem witness_KeyIsFollowed_checks :
    CraneHeld faultedOut ∧ faultedOut = faultedOut.arrive (here faultedOut) ∧ faultedOut.powered = true
      ∧ faultedOut.station = .faulted ∧ faultedOut.config = some c0 ∧ faultedOut.prk = true ∧ faultedOut.prkArmed = true
      ∧ faultedOut.prkRun = some 99950000 ∧ 99950000 + 50000 ≤ faultedOut.clock
      ∧ inSet faultedOut.faults.current .memory = false ∧ faultedOut.dir.records ≠ [] ∧ faultedOut.crane.held = none
      ∧ faultedOut.sensors.fkc = false ∧ anyLimit faultedOut.sensors = true :=
  ⟨craneHeld_stopped ⟨.inl rfl, rfl, rfl, rfl, rfl, rfl, rfl, rfl, rfl, rfl, rfl⟩, by decide +kernel⟩

/-! ## Directory and writes -/

/-- A write of slot (L, 1, 1) owing SLOTACKs for nobody's job, or the write of a STORE's place. -/
def entryAck : WriteEntry := ⟨slot1, ⟨.held, 4⟩, none, 8⟩
def entryJob : WriteEntry := ⟨slot1, ⟨.held, 4⟩, some 7, 0⟩

/-- The port at work on the oldest entry. -/
def writing (port : PortState) (attempt : Nat) (e : WriteEntry) : State :=
  { run0 with
    dir := { run0.dir with writeList := [e], port := port, portSince := 99980000, attempt := attempt }
    queue := { run0.queue with jobs := [storeJob .committing] } }

/-- What a match leaves: the entry gone, the image known to stand in the memory. -/
def matched (e : WriteEntry) : State :=
  { writing .checking 1 e with
    memory := Memory.setAll (imageAddress (slotIndex c0 e.slot)) e.image.bytes []
    dir := { (writing .checking 1 e).dir with writeList := [], port := .idle, attempt := 0 } }

theorem witness_VerifiedWriteReleases :
    (writing .checking 1 entryAck = (writing .checking 1 entryAck).arrive (here run0)
      ∧ (writing .checking 1 entryAck).powered = true ∧ (writing .checking 1 entryAck).cfg = some c0
      ∧ (writing .checking 1 entryAck).dir.port = .checking ∧ (writing .checking 1 entryAck).dir.writeList = [entryAck]
      ∧ ([1, 0, 0, 4] : List Byte) = entryAck.image.bytes ∧ entryAck.job = none
      ∧ (writing .checking 1 entryAck).line.general.length + entryAck.acks ≤ 8
      ∧ AtRest { matched entryAck with line := { run0.line with
          general := run0.line.general ++ (List.range entryAck.acks).map (fun i => newEntry (run0.line.nextOrder + i)
            (.slotack (faceCode entryAck.slot.face) entryAck.slot.bay entryAck.slot.level .accepted) (.station c0.maintenance) none)
          nextOrder := run0.line.nextOrder + entryAck.acks } })
    ∧ writing .checking 1 entryJob = (writing .checking 1 entryJob).arrive (here run0)
      ∧ (writing .checking 1 entryJob).cfg = some c0 ∧ (writing .checking 1 entryJob).dir.port = .checking
      ∧ (writing .checking 1 entryJob).dir.writeList = [entryJob] ∧ ([1, 0, 0, 4] : List Byte) = entryJob.image.bytes
      ∧ entryJob.job = some (storeJob .committing).num ∧ (writing .checking 1 entryJob).job 7 = some (storeJob .committing)
      ∧ (storeJob .committing).kind = .store ∧ (storeJob .committing).stage = .committing
      ∧ (storeJob .committing).slot = some entryJob.slot ∧ entryJob.acks = 0
      ∧ (writing .checking 1 entryJob).line.general.length < 8
      ∧ AtRest { Queued (.stored 4 9 slot1) (.station 4) (matched entryJob) with queue := { run0.queue with jobs := [] } } :=
  ⟨⟨rfl, rfl, rfl, rfl, rfl, by decide +kernel, rfl, by decide +kernel, by constructor <;> decide +kernel⟩,
    rfl, rfl, rfl, rfl, by decide +kernel, rfl, by decide +kernel, rfl, rfl, rfl, rfl, by decide +kernel,
    by constructor <;> decide +kernel⟩

theorem witness_WriteIsTriedTwice :
    (writing .writing 1 entryJob = (writing .writing 1 entryJob).arrive (here run0) ∧ (writing .writing 1 entryJob).powered = true
      ∧ (writing .writing 1 entryJob).cfg = some c0 ∧ (writing .writing 1 entryJob).dir.writeList = [entryJob]
      ∧ (writing .writing 1 entryJob).dir.attempt = 1 ∧ (writing .writing 1 entryJob).dir.port = .writing
      ∧ (writing .writing 1 entryJob).dir.portSince + 20000 ≤ (writing .writing 1 entryJob).clock
      ∧ (writing .checking 1 entryJob).dir.port = .checking ∧ ([1, 0, 0, 5] : List Byte) ≠ entryJob.image.bytes
      ∧ Memory.wf (writing .checking 1 entryJob).memory = true)
    ∧ AtRest { writing .writing 1 entryJob with
        memory := Memory.dropAll (imageAddress (slotIndex c0 entryJob.slot)) 4 []
        dir := { (writing .writing 1 entryJob).dir with port := .writing, portSince := run0.clock, attempt := 2 } } :=
  ⟨by decide +kernel, by constructor <;> decide +kernel⟩

theorem witness_WriteIsTriedTwice_second :
    CraneHeld (writing .writing 2 entryJob) ∧ CraneHeld (writing .checking 2 entryJob)
    ∧ (writing .writing 2 entryJob = (writing .writing 2 entryJob).arrive (here run0) ∧ (writing .writing 2 entryJob).powered = true
      ∧ (writing .writing 2 entryJob).cfg = some c0 ∧ (writing .writing 2 entryJob).dir.writeList = [entryJob]
      ∧ (writing .writing 2 entryJob).dir.attempt = 2 ∧ (writing .writing 2 entryJob).station = .run
      ∧ (writing .writing 2 entryJob).crane.mode ≠ .stopped ∧ (writing .writing 2 entryJob).dir.firstOwed = none
      ∧ (writing .writing 2 entryJob).crane.held = none ∧ (writing .writing 2 entryJob).queue.jobs = [storeJob .committing]
      ∧ entryJob.job = some (storeJob .committing).num ∧ (storeJob .committing).slot = some entryJob.slot
      ∧ (writing .writing 2 entryJob).slotIs entryJob.slot .held = true ∧ (writing .writing 2 entryJob).line.general.length < 8
      ∧ (writing .writing 2 entryJob).front.pulling 7 = false ∧ (writing .writing 2 entryJob).dir.port = .writing
      ∧ (writing .writing 2 entryJob).dir.portSince + 20000 ≤ (writing .writing 2 entryJob).clock)
    ∧ (writing .checking 2 entryJob).dir.port = .checking ∧ ([1, 0, 0, 5] : List Byte) ≠ entryJob.image.bytes :=
  ⟨craneHeld_moving (by decide +kernel), craneHeld_moving (by decide +kernel), by decide +kernel, by decide +kernel⟩

theorem witness_SlotsetTestedInOrder :
    Handed c0 ⟨4, .slotset 1 1 2 0 0⟩ run0 run0 ∧ Handed c0 ⟨21, .slotset 1 1 2 0 0⟩ run0 run0
      ∧ Handed c0 ⟨21, .slotset 1 3 2 0 0⟩ run0 run0 ∧ Handed c0 ⟨21, .slotset 1 1 2 1 4⟩ run0 run0
    ∧ (run0 = run0.arrive (here run0) ∧ run0.powered = true ∧ run0.dir.records.length = Config.capacity c0 ∧ 4 ≠ c0.maintenance
      ∧ 21 = c0.maintenance ∧ faceOf 1 = some .left ∧ slotStateOf 0 = some .empty ∧ slotStateOf 1 = some .held
      ∧ namesRecord c0 ⟨.left, 3, 2⟩ = false ∧ namesRecord c0 ⟨.left, 1, 2⟩ = true ∧ imageFits .empty 0 = true
      ∧ imageFits .held 4 = true ∧ run0.slotRec ⟨.left, 1, 2⟩ = some ⟨.empty, 0, false⟩
      ∧ (∀ e ∈ run0.dir.writeList, e.slot = ⟨.left, 1, 2⟩ → e.job = none) ∧ run0.dir.writeList.length < 4
      ∧ slotIndex c0 ⟨.left, 1, 2⟩ = 1 ∧ getAt 0 run0.dir.records = some ⟨.held, 4, false⟩)
    ∧ (writing .writing 1 entryJob).slotRec slot1 = some ⟨.held, 4, false⟩
      ∧ ¬ ∀ e ∈ (writing .writing 1 entryJob).dir.writeList, e.slot = slot1 → e.job = none :=
  ⟨handed_now (by decide +kernel), handed_now (by decide +kernel), handed_now (by decide +kernel), handed_now (by decide +kernel),
    by decide +kernel, by decide +kernel⟩

/-- The memory port at work, so that no write begins; a write of (L, 1, 2) waiting behind the one under way, or none. -/
def writingPort : State := { run0 with dir := { run0.dir with port := .writing, writeList := [⟨⟨.left, 2, 2⟩, ⟨.blocked .missing, 6⟩, none, 0⟩] } }
def waitingEntry : WriteEntry := ⟨⟨.left, 1, 2⟩, ⟨.empty, 0⟩, none, 1⟩
def twoWrites : State :=
  { writingPort with dir := { writingPort.dir with writeList := writingPort.dir.writeList ++ [waitingEntry] } }

/-- SLOTSET of (L, 1, 2) to HELD with bin 8, accepted. -/
theorem witness_SlotsetTestedInOrder_accepted :
    let d (s : State) : Directory := { s.dir with records := setAt 1 ⟨.held, 8, false⟩ s.dir.records, emptyCount := 0 }
    (∀ s ∈ [writingPort, twoWrites], Handed c0 ⟨21, .slotset 1 1 2 1 8⟩ s s)
    ∧ (∀ s ∈ [writingPort, twoWrites], s = s.arrive (here s) ∧ s.powered = true ∧ s.dir.records.length = Config.capacity c0
      ∧ imageFits .held 8 = true ∧ s.slotRec ⟨.left, 1, 2⟩ = some ⟨.empty, 0, false⟩
      ∧ (∀ e ∈ s.dir.writeList, e.slot = ⟨.left, 1, 2⟩ → e.job = none) ∧ s.dir.writeList.length < 4
      ∧ (∀ i < 4, i ≠ slotIndex c0 ⟨.left, 1, 2⟩ → (getAt i s.dir.records).map (·.bin) ≠ some 8) ∧ getAt 4 s.dir.records = none
      ∧ s.queue.jobs = [] ∧ (d s).emptyCount = s.dir.emptyCount - 1 + 0 ∧ s.dir.port = .writing)
    ∧ ((∀ e ∈ writingPort.dir.pendingWrites, e.slot ≠ ⟨.left, 1, 2⟩)
      ∧ ∃ u, SettlesTo { writingPort with dir := { d writingPort with
          writeList := writingPort.dir.writeList ++ [⟨⟨.left, 1, 2⟩, ⟨.held, 8⟩, none, 1⟩] } } u)
    ∧ twoWrites.dir.writeList = writingPort.dir.writeList ++ [] ++ waitingEntry :: [] ∧ writingPort.dir.writeList.length = 1
      ∧ waitingEntry.slot = ⟨.left, 1, 2⟩ ∧ waitingEntry ∈ twoWrites.dir.pendingWrites
      ∧ ∃ u, SettlesTo { twoWrites with dir := { d twoWrites with
          writeList := writingPort.dir.writeList ++ [] ++ { waitingEntry with image := ⟨.held, 8⟩, acks := waitingEntry.acks + 1 } :: [] } } u := by
  refine ⟨?_, by decide +kernel, ⟨by decide +kernel, settles_in 0 (by decide) (by decide +kernel)⟩, by decide +kernel,
    by decide +kernel, by decide +kernel, by decide +kernel, settles_in 0 (by decide) (by decide +kernel)⟩
  intro s hs
  simp only [List.mem_cons, List.not_mem_nil, or_false] at hs
  rcases hs with rfl | rfl <;> exact handed_now (by decide +kernel)

/-! ## Calls, cancels, duplicates, promotion -/

/-- A FETCH for bin 4 called, the dispatch position taken so that it waits. -/
def called : State :=
  { run0 with
    dir := { run0.dir with records := [⟨.outbound, 4, false⟩, ⟨.empty, 0, false⟩, ⟨.held, 5, false⟩, ⟨.blocked .missing, 6, false⟩] }
    queue := { run0.queue with jobs := [fetchJob4 .waiting], counter := 4 }
    front := { run0.front with dispatch := true } }

/-- A STORE of bin 4 on its way. -/
def storing : State := { run0 with queue := { run0.queue with jobs := [storeJob .awaitCarrier] } }

/-- Eight jobs in the queue. -/
def fullQueue : State :=
  { run0 with queue := { run0.queue with
      jobs := (List.range 8).map (fun i => { storeJob .awaitCarrier with num := i, bin := 100 + i, carrier := none }) } }

theorem witness_CallIsAnswered :
    (Handed c0 ⟨17, .fetch 4 40⟩ called called ∧ called.jobOfBin 4 = some (fetchJob4 .waiting) ∧ called.line.general.length < 8)
    ∧ (Handed c0 ⟨17, .fetch 4 40⟩ storing storing ∧ storing.jobOfBin 4 = some (storeJob .awaitCarrier))
    ∧ (Handed c0 ⟨17, .fetch 77 40⟩ run0 run0 ∧ run0.jobOfBin 77 = none ∧ run0.dir.lookup 77 = none)
    ∧ (Handed c0 ⟨17, .fetch 4 40⟩ fullQueue fullQueue ∧ fullQueue.jobOfBin 4 = none ∧ fullQueue.dir.lookup 4 = some 0
      ∧ fullQueue.slotIs (slotAt c0 0) .held = true ∧ fullQueue.station = .run ∧ fullQueue.fire.state = .calm
      ∧ fullQueue.queue.jobs.length = 8 ∧ fullQueue.line.general.length < 8)
    ∧ Handed c0 ⟨17, .fetch 6 40⟩ run0 run0 ∧ run0.dir.lookup 6 = some 3 ∧ run0.slotIs (slotAt c0 3) .held = false :=
  ⟨⟨handed_now (by decide +kernel), by decide +kernel⟩, ⟨handed_now (by decide +kernel), by decide +kernel⟩,
    ⟨handed_now (by decide +kernel), by decide +kernel⟩, ⟨handed_now (by decide +kernel), by decide +kernel⟩,
    handed_now (by decide +kernel), by decide +kernel⟩

/-- The dispatch position taken: a call waits. -/
def busy0 : State := { run0 with front := { run0.front with dispatch := true } }

theorem witness_CallIsQueued :
    Handed c0 ⟨17, .fetch 4 40⟩ busy0 busy0
    ∧ (busy0 = busy0.arrive (here busy0) ∧ busy0.powered = true ∧ busy0.line.general.length < 8 ∧ busy0.jobOfBin 4 = none
      ∧ busy0.dir.lookup 4 = some 0 ∧ namesRecord c0 (slotAt c0 0) = true ∧ slotIndex c0 (slotAt c0 0) = 0
      ∧ getAt 0 busy0.dir.records = some ⟨.held, 4, false⟩ ∧ busy0.station = .run ∧ busy0.fire.state = .calm
      ∧ busy0.queue.jobs.length < 8)
    ∧ AtRest { Queued (.hold 4 40 17 .queued (busy0.holdEstimate { (fetchJob4 .waiting) with num := 0 })) .all busy0 with
        queue := { busy0.queue with jobs := placeJob { (fetchJob4 .waiting) with num := 0 } busy0.queue.jobs, counter := 1 }
        dir := { busy0.dir with records := setAt 0 ⟨.outbound, 4, false⟩ busy0.dir.records } } :=
  ⟨handed_now (by decide +kernel), by decide +kernel, by constructor <;> decide +kernel⟩

/-- What a call on the idle station leaves before selection. -/
def justCalled : State :=
  { Queued (.hold 4 40 17 .queued (run0.holdEstimate { (fetchJob4 .waiting) with num := 0 })) .all run0 with
    queue := { run0.queue with jobs := [{ (fetchJob4 .waiting) with num := 0 }], counter := 1 }
    dir := { run0.dir with records := setAt 0 ⟨.outbound, 4, false⟩ run0.dir.records } }

/-- A call that waits behind a STORE still on its carrier, the dispatch position taken with no owner. -/
def waitingBehind (taken : Bool) : State :=
  { run0 with
    dir := { run0.dir with records := [⟨.outbound, 4, false⟩, ⟨.empty, 0, false⟩, ⟨.held, 5, false⟩, ⟨.blocked .missing, 6, false⟩] }
    queue := { run0.queue with jobs := [storeJob .awaitCarrier, fetchJob4 .waiting] }
    front := { run0.front with dispatch := taken } }

/-- A call waiting with the dispatch position taken, before a STORE pulled to the intake; the crane STOPPED. -/
def passedOver : State :=
  { waitingBehind true with
    dir := { run0.dir with records := [⟨.inbound, 4, false⟩, ⟨.empty, 0, false⟩, ⟨.outbound, 5, false⟩, ⟨.blocked .missing, 6, false⟩] }
    queue := { run0.queue with jobs := [{ fetchJob4 .waiting with bin := 5, slot := some ⟨.left, 2, 1⟩ }, storeJob .waiting] }
    crane := { run0.crane with mode := .stopped } }

/-- The call just made with the crane within the window of its slot. -/
def alreadyThere : State :=
  { justCalled with crane := { run0.crane with
      travel := { run0.crane.travel with count := 1105 }, lift := { run0.crane.lift with count := 505 } } }

/-- An axis of `run0` driven to a goal at a step. -/
def drivenTo (goal step count : Nat) : Axis :=
  { Axis.reset with
    count := count, homed := true, move := .driving, target := some goal, step := step, duty := stepValue (axis0 0).duty step
    brake := false, stall := some (run0.clock + 1000 * stepValue (axis0 0).stall step), dir := some .down, outDir := .down }

theorem steps_above {p : Nat → Prop} {k : Nat} (h : ∀ m < 4, k < m → p m) : ∀ m, k < m → m ≤ 3 → p m :=
  fun m hk hm => h m (by omega) hk

/-- The moves that begin: down at step 2, at creep and at step 3, or done at once. -/
theorem moves_begin :
    Axis.Begins c0.travel run0.clock c0.window 1100 run0.crane.travel (drivenTo 1100 2 1200)
    ∧ Axis.Begins c0.lift run0.clock c0.window 500 run0.crane.lift (drivenTo 500 0 510)
    ∧ Axis.Begins c0.travel run0.clock c0.window 1000 run0.crane.travel (drivenTo 1000 3 1200)
    ∧ Axis.Begins c0.travel run0.clock c0.window 1100 alreadyThere.crane.travel alreadyThere.crane.travel
    ∧ Axis.Begins c0.lift run0.clock c0.window 500 alreadyThere.crane.lift alreadyThere.crane.lift :=
  ⟨.inr ⟨by decide, 2, by decide, .inr (by decide), steps_above (by decide), by decide +kernel⟩,
    .inr ⟨by decide, 0, by decide, .inl rfl, steps_above (by decide), by decide +kernel⟩,
    .inr ⟨by decide, 3, by decide, .inr (by decide), steps_above (by decide), by decide +kernel⟩,
    .inl ⟨by decide, by decide +kernel⟩, .inl ⟨by decide, by decide +kernel⟩⟩

/-- What selection leaves. -/
def selecting (u : State) (others : List Job) (j : Job) (x y : Axis) : State :=
  { u with
    queue := { u.queue with jobs := { j with stage := .toPick, start := some ⟨u.serviceEstimate j, u.clock / 1000⟩ } :: others }
    crane := { u.crane with
      mode := .step, named := none, step := some ⟨j.num, .movePick, j.pickAt, .moving⟩, travel := x, lift := y } }

theorem witness_JobIsSelected :
    (∀ p ∈ [(justCalled, ([] : List Job), { (fetchJob4 .waiting) with num := 0 }, drivenTo 1100 2 1200, drivenTo 500 0 510),
        (waitingBehind false, [storeJob .awaitCarrier], fetchJob4 .waiting, drivenTo 1100 2 1200, drivenTo 500 0 510),
        (alreadyThere, [], { (fetchJob4 .waiting) with num := 0 }, alreadyThere.crane.travel, alreadyThere.crane.lift),
        (passedOver, passedOver.queue.jobs.take 1, storeJob .waiting, drivenTo 1000 3 1200, drivenTo 500 0 510)],
      p.1.clock = run0.clock ∧ p.1.cfg = some c0 ∧ p.1.station = .run ∧ p.1.fire.state = .calm ∧ p.1.faults.suspension = none
        ∧ p.1.queue.held = [] ∧ (p.1.crane.mode = .idle ∨ p.1.crane.mode = .stopped)
        ∧ p.1.crane.step = none ∧ p.1.crane.held = none ∧ p.1.crane.clearing = none ∧ p.1.crane.homing = none
        ∧ p.1.crane.travel.homed = true ∧ p.1.crane.lift.homed = true ∧ p.1.crane.travel.move = .none
        ∧ p.1.crane.lift.move = .none ∧ p.1.dir.firstOwed = none ∧ p.1.dir.writeList = [] ∧ p.1.sensors.fkc = true
        ∧ p.1.sensors.drdy = true ∧ p.1.queue.jobs = p.2.1 ++ p.2.2.1 :: []
        ∧ (∀ x ∈ p.2.1 ++ [], x.num ≠ p.2.2.1.num ∧ x.active = false)
        ∧ (∀ x ∈ p.2.1, x.stage = .waiting → x.kind = .fetch ∧ p.1.front.dispatch = true)
        ∧ p.2.2.1.stage = .waiting ∧ (p.2.2.1.kind = .fetch → p.1.front.dispatch = false)
        ∧ (p.2.2.1.pickAt.travel c0 = if p.2.2.1.kind = .fetch then 1100 else 1000)
        ∧ 500 = c0.v0 + (p.2.2.1.pickAt.level - 1) * c0.cl
        ∧ progress (settleWith 6 (selecting p.1 p.2.1 p.2.2.1 p.2.2.2.1 p.2.2.2.2)) = none)
    ∧ (waitingBehind true = (waitingBehind true).arrive (here run0) ∧ (waitingBehind true).powered = true
      ∧ (waitingBehind true).cfg = some c0 ∧ (waitingBehind true).front.action = none ∧ (waitingBehind true).front.owner = .none
      ∧ waitingBehind false
        = { waitingBehind true with front := { (waitingBehind true).front with dispatch := false } })
    ∧ Handed c0 ⟨17, .fetch 4 40⟩ run0 run0 ∧ run0.line.general.length < 8 ∧ run0.jobOfBin 4 = none ∧ run0.dir.lookup 4 = some 0
      ∧ getAt 0 run0.dir.records = some ⟨.held, 4, false⟩ ∧ 0 = run0.queue.nextNumber
      ∧ placeJob { (fetchJob4 .waiting) with num := 0 } run0.queue.jobs = [{ (fetchJob4 .waiting) with num := 0 }] :=
  ⟨by decide +kernel, by decide +kernel, handed_now (by decide +kernel), by decide +kernel⟩

theorem witness_NewJobTakesItsPlace :
    let w := fetchJob4 .waiting
    let d := fetchJob4 .dispatching
    let st := storeJob .waiting
    (storeJob .awaitCarrier).kind = .store
    ∧ ([d, w, st] = [d] ++ w :: [st] ∧ w.kind = .fetch ∧ w.stage = .waiting ∧ ∀ x ∈ [st], x.kind = .fetch → x.stage ≠ .waiting)
    ∧ ((∀ x ∈ [d, st], x.kind = .fetch → x.stage ≠ .waiting) ∧ [d, st] = [d] ++ st :: [] ∧ st.kind = .store ∧ st.active = false
      ∧ st.promoted = false ∧ ∀ x ∈ [d], x.kind = .store → x.active = true ∨ x.promoted = true)
    ∧ ((∀ x ∈ [d, { st with promoted := true }], x.kind = .fetch → x.stage ≠ .waiting)
      ∧ ∀ x ∈ [d, { st with promoted := true }], x.kind = .store → x.active = true ∨ x.promoted = true) := by decide

theorem witness_CancelEndsWaitingCall :
    (Handed c0 ⟨17, .cancel 4 40⟩ called called ∧ Handed c0 ⟨17, .cancel 4 41⟩ called called)
    ∧ (called = called.arrive (here called) ∧ called.powered = true ∧ called.line.general.length < 8
      ∧ (∀ j ∈ called.queue.jobs, j.kind = .fetch → j.bin = 4 → j.tag = 41 → j.requester = 17 →
          j.stage ≠ .waiting ∧ j.stage ≠ .toPick)
      ∧ called.cancelMatch 17 4 40 = some (fetchJob4 .waiting) ∧ called.job 3 = some (fetchJob4 .waiting)
      ∧ (fetchJob4 .waiting).slot = some (slotAt c0 0) ∧ namesRecord c0 (slotAt c0 0) = true
      ∧ slotIndex c0 (slotAt c0 0) = 0 ∧ getAt 0 called.dir.records = some ⟨.outbound, 4, false⟩ ∧ called.crane.held = none
      ∧ ∀ e ∈ called.offers.entries, e.job ≠ some 3)
    ∧ AtRest { Queued (.failed 4 40 .cancelled) (.station 17) called with
        queue := { called.queue with jobs := called.queue.jobs.filter (fun k => k.num != 3) }
        dir := { called.dir with records := setAt 0 ⟨.held, 4, false⟩ called.dir.records } } :=
  ⟨⟨handed_now (by decide +kernel), handed_now (by decide +kernel)⟩, by decide +kernel, by constructor <;> decide +kernel⟩

theorem rest_writingPort : AtRest writingPort := by constructor <;> decide +kernel

theorem witness_PeerHoldMarksDuplicate :
    (Handed c0 ⟨4, .hold 4 1 17 .queueFull 65535⟩ writingPort writingPort ∧ Handed c0 ⟨4, .hold 4 1 17 .queued 100⟩ writingPort writingPort
      ∧ Handed c0 ⟨4, .hold 6 1 17 .queued 100⟩ writingPort writingPort ∧ AtRest writingPort)
    ∧ (writingPort = writingPort.arrive (here writingPort) ∧ writingPort.powered = true ∧ writingPort.dir.lookup 77 = none
      ∧ writingPort.dir.lookup 6 = some 3 ∧ getAt 3 writingPort.dir.records = some ⟨.blocked .missing, 6, false⟩
      ∧ storing.jobOfBin 4 = some (storeJob .awaitCarrier)
      ∧ writingPort.dir.lookup 4 = some 0 ∧ getAt 0 writingPort.dir.records = some ⟨.held, 4, false⟩
      ∧ writingPort.jobOfBin 4 = none ∧ writingPort.dir.writeList.length < 4
      ∧ writingPort.dir.hasPending (slotAt c0 0) = false)
    ∧ AtRest (recordFault .directory { writingPort with dir := { writingPort.dir with
        records := setAt 0 ⟨.blocked .duplicate, 4, false⟩ writingPort.dir.records
        writeList := writingPort.dir.writeList ++ [⟨slotAt c0 0, ⟨.blocked .duplicate, 4⟩, none, 0⟩] } }) :=
  ⟨⟨handed_now (by decide +kernel), handed_now (by decide +kernel), handed_now (by decide +kernel), rest_writingPort⟩,
    by decide +kernel, by constructor <;> decide +kernel⟩

/-- Bin 4 recorded in a state, its job if any, the write list with room or full; a job in TO_PICK has its move under way. -/
def marking (st : SlotState) (jobs : List Job) (room : Bool) : State :=
  { writingPort with
    dir := { writingPort.dir with
      records := [⟨st, 4, false⟩, ⟨.empty, 0, false⟩, ⟨.held, 5, false⟩, ⟨.blocked .missing, 6, false⟩]
      writeList := if room then writingPort.dir.writeList else List.replicate 4 ⟨⟨.left, 2, 2⟩, ⟨.blocked .missing, 6⟩, none, 0⟩ }
    queue := { run0.queue with jobs := jobs }
    front := { run0.front with dispatch := true }
    crane := { run0.crane with
      mode := if (jobs.map (·.stage)).contains .toPick then .step else .idle
      step := if (jobs.map (·.stage)).contains .toPick then some ⟨3, .movePick, .slot slot1, .moving⟩ else none
      travel := { run0.crane.travel with duty := if (jobs.map (·.stage)).contains .toPick then 600 else 0 } } }

/-- The mark in each of its cases: HELD with room, HELD with the list full, OUTBOUND in WAITING and in TO_PICK. -/
theorem mark_made :
    (∃ m u, DuplicateMarked c0 4 (marking .held [] true) m ∧ SettlesTo m u ∧ m.station = .run)
    ∧ (∃ m u, DuplicateMarked c0 4 (marking .held [] false) m ∧ SettlesTo m u)
    ∧ ∀ st ∈ [Stage.waiting, .toPick], ∃ m u, DuplicateMarked c0 4 (marking .outbound [fetchJob4 st] true) m ∧ SettlesTo m u := by
  refine ⟨⟨_, _, ⟨0, ⟨.held, 4, false⟩, by decide, by decide, .inl ⟨rfl, by decide, by decide, false, _, .inl ⟨by decide, rfl, rfl⟩, rfl⟩⟩,
      ⟨0, by decide, rfl, by decide +kernel⟩, rfl⟩,
    ⟨_, _, ⟨0, ⟨.held, 4, false⟩, by decide, by decide, .inl ⟨rfl, by decide, by decide, true, _, .inr ⟨by decide, rfl, rfl⟩, rfl⟩⟩,
      ⟨0, by decide, rfl, by decide +kernel⟩⟩, ?_⟩
  intro st hst
  simp only [List.mem_cons, List.not_mem_nil, or_false] at hst
  rcases hst with rfl | rfl
  · exact ⟨_, _, ⟨0, ⟨.outbound, 4, false⟩, by decide, by decide, .inr ⟨fetchJob4 .waiting, _, rfl, by decide, by decide, rfl, rfl,
      by decide, by decide, rfl, by decide, by decide, .inl rfl, ⟨by decide, false, _, .inl ⟨by decide, rfl, rfl⟩, rfl⟩, rfl⟩⟩,
      ⟨0, by decide, rfl, by decide +kernel⟩⟩
  · exact ⟨_, _, ⟨0, ⟨.outbound, 4, false⟩, by decide, by decide, .inr ⟨fetchJob4 .toPick, _, rfl, by decide, by decide, rfl, rfl,
      by decide, by decide, rfl, by decide, by decide, .inr ⟨rfl, rfl⟩, ⟨by decide, false, _, .inl ⟨by decide, rfl, rfl⟩, rfl⟩, rfl⟩⟩,
      ⟨0, by decide, rfl, by decide +kernel⟩⟩

/-- The stations that find the duplicate, and one whose FETCH is in PICKING. -/
def duplicates : List State :=
  [marking .held [] true, marking .held [] false, marking .outbound [fetchJob4 .waiting] true,
    marking .outbound [fetchJob4 .toPick] true, marking .outbound [fetchJob4 .picking] true]

theorem handed_duplicates {f : RxFrame} (h : frameOk c0.carriers f = true) : ∀ s ∈ duplicates, Handed c0 f s s := by
  intro s hs
  have hl : s.cfg = some c0 ∧ s.line.rxQueue = [] ∧ s.line.mode = .locked := by revert s; decide +kernel
  exact handed_now ⟨hl.1, h, hl.2⟩

theorem witness_PeerHoldMarksDuplicate_marks :
    (∀ s ∈ duplicates, Handed c0 ⟨4, .hold 4 1 17 .queued 100⟩ s s)
    ∧ (∀ s ∈ duplicates, s = s.arrive (here s) ∧ s.powered = true ∧ s.dir.lookup 4 = some 0)
    ∧ (marking .outbound [fetchJob4 .picking] true).jobOfBin 4 = some (fetchJob4 .picking)
      ∧ getAt 0 (marking .outbound [fetchJob4 .picking] true).dir.records = some ⟨.outbound, 4, false⟩
      ∧ ∃ u, SettlesTo (recordFault .directory (marking .outbound [fetchJob4 .picking] true)) u :=
  ⟨handed_duplicates (by decide), by decide +kernel, by decide +kernel, by decide +kernel, settles_in 0 (by decide) (by decide +kernel)⟩

/-- A STORE pulled 60,001 ms ago behind a waiting FETCH, and one pulled just 60,000 ms ago. -/
def patient (since : Nat) (ahead : List Job) : State :=
  { run0 with queue := { run0.queue with jobs := ahead ++ [{ storeJob .waiting with pulledSince := some since }] } }

theorem witness_PatientStoreIsPromoted :
    (∀ p ∈ [39999, 40000], ∀ ahead ∈ [[], [fetchJob4 .waiting]],
      patient p ahead = (patient p ahead).arrive (here run0) ∧ (patient p ahead).powered = true ∧ (patient p ahead).cfg = some c0
      ∧ (patient p ahead).job 7 = some { storeJob .waiting with pulledSince := some p }
      ∧ (∀ x ∈ ahead, x.num ≠ 7))
    ∧ c0.storePatience < run0.clock / 1000 - 39999 ∧ run0.clock / 1000 - 40000 ≤ c0.storePatience := by decide +kernel

/-! ## Axes and fork -/

/-- The travel axis as given. -/
def withTravel (x : Axis) : State := { run0 with crane := { run0.crane with travel := x } }

theorem witness_EdgeIsCounted :
    let x := { Axis.reset with count := 65535 }
    let y := { Axis.reset with count := 0, phaseA := true }
    (withTravel x = (withTravel x).arrive (here run0) ∧ (withTravel x).powered = true ∧ x = (withTravel x).axis .travel
      ∧ x.move = .none ∧ x.duty = 0 ∧ x.count < 65536 ∧ x.homed = false
      ∧ ((x.phaseA, x.phaseB), (true, false)) = ((false, false), (true, false)))
    ∧ (y = (withTravel y).axis .travel ∧ y.move = .none ∧ y.duty = 0 ∧ y.count < 65536 ∧ y.homed = false
      ∧ ((false, false), (y.phaseA, y.phaseB)) = ((false, false), (true, false))) := by decide +kernel

/-- A move in DRIVING toward 1100 at the step and count given. -/
def drivingAxis (count step : Nat) : Axis :=
  { Axis.reset with count := count, homed := true, move := .driving, target := some 1100, dir := some .down, step := step, duty := 300
                    outDir := .down, brake := false, stall := some 100200000 }

theorem witness_DrivingSlowsAndStops :
    (withTravel (drivingAxis 1150 1) = (withTravel (drivingAxis 1150 1)).arrive (here run0)
      ∧ (withTravel (drivingAxis 1150 1)).powered = true ∧ (withTravel (drivingAxis 1150 1)).cfg = some c0
      ∧ drivingAxis 1150 1 = (withTravel (drivingAxis 1150 1)).axis .travel ∧ (drivingAxis 1150 1).homed = true
      ∧ 0 < (drivingAxis 1150 1).duty ∧ (true ≠ (drivingAxis 1150 1).phaseB)
      ∧ (1149 = if (drivingAxis 1150 1).phaseA = true then 1150 + 1 else 1150 - 1)
      ∧ (∀ m < 2, 0 < m → Machine.dist 1100 1149 < stepValue (Config.axis c0 .travel).threshold m)
      ∧ c0.window < Machine.dist 1100 1149)
    ∧ drivingAxis 1106 0 = (withTravel (drivingAxis 1106 0)).axis .travel
      ∧ (1105 = if (drivingAxis 1106 0).phaseA = true then 1106 + 1 else 1106 - 1) ∧ Machine.dist 1100 1105 ≤ c0.window := by
  decide +kernel

/-- A move settling at a count. -/
def settlingAxis (count since : Nat) (next : Option Nat) : Axis :=
  { drivingAxis count 0 with move := .settling, duty := 0, nextDuty := next, stall := none, brake := true, quietSince := since }

theorem witness_RestAndDutyPeriods :
    (withTravel (settlingAxis 1105 99980001 none) = (withTravel (settlingAxis 1105 99980001 none)).arrive (here run0)
      ∧ (withTravel (settlingAxis 1105 99980001 none)).powered = true ∧ (withTravel (settlingAxis 1105 99980001 none)).cfg = some c0
      ∧ settlingAxis 1105 99980001 none = (withTravel (settlingAxis 1105 99980001 none)).axis .travel
      ∧ (settlingAxis 1105 99980001 none).target = some 1100 ∧ run0.clock < 99980001 + 20000
      ∧ 99980000 + 20000 ≤ run0.clock ∧ Machine.dist 1100 (settlingAxis 1105 99980000 none).count ≤ c0.window
      ∧ c0.window < Machine.dist 1100 (settlingAxis 1106 99980000 none).count ∧ run0.sensors.drdy = true
      ∧ (withTravel (settlingAxis 1106 99980000 none)).axisHeld .travel = false)
    ∧ progress (withTravel { settlingAxis 1105 99980000 none with move := .none, target := none, dir := none }) = none
    ∧ (0 < 100 ∧ (settlingAxis 1105 0 (some 100)).nextDuty = some 100 ∧ (settlingAxis 1105 0 (some 0)).nextDuty = some 0)
    ∧ progress (withTravel { settlingAxis 1105 0 (some 0) with
        duty := 0, nextDuty := none, brake := true, stall := none, quietSince := run0.clock }) = none := by decide +kernel

/-- The same move outside its window with the fork off centre. -/
def offCentre : State := { withTravel (settlingAxis 1106 99980000 none) with sensors := { drdy := true } }

theorem witness_RestAndDutyPeriods_held :
    CraneHeld offCentre ∧ offCentre = offCentre.arrive (here offCentre) ∧ offCentre.powered = true ∧ offCentre.cfg = some c0
      ∧ settlingAxis 1106 99980000 none = offCentre.axis .travel ∧ offCentre.sensors.fkc = false ∧ offCentre.station = .run
      ∧ offCentre.crane.mode ≠ .stopped ∧ offCentre.crane.held = none :=
  ⟨craneHeld_moving (by decide +kernel), by decide +kernel⟩

/-- A call in TO_PICK with its travel move under way; and the crane whose move was ended, its last axis about to stop. -/
def calledMoving : State :=
  { called with
    queue := { called.queue with jobs := [fetchJob4 .toPick] }
    crane := { run0.crane with mode := .step, step := some ⟨3, .movePick, .slot slot1, .moving⟩, travel := drivingAxis 1150 1 } }
def comingDown : State :=
  withTravel { drivingAxis 1150 0 with move := .none, target := none, dir := none, nextDuty := some 0 }
def movedOut0 : State := { comingDown with crane := { comingDown.crane with mode := .step } }

theorem witness_CancelEndsWaitingCall_moving :
    Handed c0 ⟨17, .cancel 4 40⟩ calledMoving calledMoving
    ∧ (calledMoving = calledMoving.arrive (here run0) ∧ calledMoving.powered = true
      ∧ calledMoving.cancelMatch 17 4 40 = some (fetchJob4 .toPick) ∧ calledMoving.job 3 = some (fetchJob4 .toPick)
      ∧ getAt 0 calledMoving.dir.records = some ⟨.outbound, 4, false⟩ ∧ calledMoving.crane.held = none
      ∧ calledMoving.crane.mode = .step ∧ calledMoving.line.general.length < 8)
    ∧ (∃ u, SettlesTo { Queued (.failed 4 40 .cancelled) (.station 17) calledMoving with
        queue := { called.queue with jobs := [] }
        dir := { called.dir with records := setAt 0 ⟨.held, 4, false⟩ called.dir.records }
        crane := calledMoving.crane.movedOut } u)
    ∧ (movedOut0 = movedOut0.arrive (here run0) ∧ (movedOut0.axis .travel).nextDuty = some 0 ∧ (movedOut0.axis .lift).duty = 0
      ∧ movedOut0.crane.mode = .step ∧ movedOut0.crane.step = none ∧ movedOut0.crane.fork = none ∧ movedOut0.crane.held = none
      ∧ movedOut0.dir.firstOwed = none ∧ movedOut0.dir.writeList = [])
    ∧ ∃ u, SettlesTo { movedOut0 with crane := { (movedOut0.crane.onAxis .travel (fun x =>
        { x with duty := 0, nextDuty := none, brake := true, stall := none, quietSince := run0.clock })) with mode := .idle } } u :=
  ⟨handed_now (by decide +kernel), by decide +kernel, settles_in 0 (by decide) (by decide +kernel), by decide +kernel,
    settles_in 0 (by decide) (by decide +kernel)⟩

/-- Travel settling toward 1100 from above at a count, its reversals so far, DRDY and FKC as given. -/
def reversing (count reversals : Nat) (drdy fkc : Bool) : State :=
  { withTravel { settlingAxis count 99990000 none with reversals := reversals } with sensors := { drdy := drdy, fkc := fkc } }

theorem witness_ReversalsEndInPosition :
    (∀ p ∈ [(1095, 2, true, true), (1095, 1, false, true), (1095, 1, true, false)],
      CraneHeld (reversing p.1 p.2.1 p.2.2.1 p.2.2.2))
    ∧ (∀ p ∈ [(1096, 0, true, true), (1095, 1, true, true), (1095, 2, true, true), (1095, 1, false, true), (1095, 1, true, false)],
      let a := reversing p.1 p.2.1 p.2.2.1 p.2.2.2
      a = a.arrive (here a) ∧ a.powered = true ∧ a.cfg = some c0 ∧ (a.axis .travel).move = .settling
        ∧ (a.axis .travel).target = some 1100 ∧ (a.axis .travel).dir = some .down ∧ (a.axis .travel).duty = 0
        ∧ 0 < (a.axis .travel).count ∧ (a.axis .travel).count < 65535 ∧ true ≠ (a.axis .travel).phaseB
        ∧ (a.axis .travel).phaseA ≠ true ∧ a.axisHeld .travel = !p.2.2.2 ∧ a.station = .run ∧ a.crane.mode ≠ .stopped
        ∧ a.crane.held = none)
    ∧ ¬ (1095 + c0.window < 1100) ∧ 1094 + c0.window < 1100 := by
  refine ⟨?_, by decide +kernel, by decide, by decide⟩
  intro p hp
  exact craneHeld_moving (by revert p; decide +kernel)

/-- Travel driven and the bin carried, the stall time just run out. -/
def carrying : State :=
  { run0 with
    crane := { run0.crane with
      carry := true, fork := some .retract, forkTimer := some run0.clock, homeTimer := some run0.clock
      travel := { drivingAxis 1150 1 with stall := some run0.clock } } }

theorem held_carrying : CraneHeld carrying := craneHeld_moving (by decide +kernel)

theorem witness_CraneFaultsEnterFaulted_sensors :
    CraneHeld carrying ∧ carrying = carrying.arrive (here run0) ∧ carrying.powered = true ∧ carrying.station = .run
      ∧ carrying.crane.mode ≠ .stopped ∧ carrying.crane.held = none ∧ carrying.crane.travel.duty ≠ 0
      ∧ carrying.crane.fork = some .retract ∧ carrying.crane.carry = true := ⟨held_carrying, by decide +kernel⟩

/-- A homed axis at an end of its range, and one with a phase-A period running. -/
def edgeAxis (count : Nat) : Axis := { Axis.reset with count := count, homed := true }
def timedAxis : Axis := { Axis.reset with count := 1, homed := true, lastRise := some 99999001, duty := 100, firstMark := false }

theorem witness_CraneFaultsEnterFaulted_limits :
    (CraneHeld carrying ∧ CraneHeld (withTravel (edgeAxis 65535)) ∧ CraneHeld (withTravel (edgeAxis 0))
      ∧ CraneHeld (withTravel timedAxis))
    ∧ (carrying.cfg = some c0 ∧ (carrying.axis .travel).stall = some run0.clock ∧ run0.clock ≤ carrying.clock
      ∧ (carrying.axis .travel).duty ≠ 0 ∧ carrying.crane.fork ≠ none ∧ carrying.crane.forkTimer = some run0.clock
      ∧ carrying.crane.homeTimer = some run0.clock)
    ∧ ((edgeAxis 65535).homed = true ∧ (edgeAxis 65535).count = 65535 ∧ (edgeAxis 65535).phaseA ≠ true
      ∧ (edgeAxis 0).count = 0 ∧ (edgeAxis 0).phaseA ≠ true ∧ true ≠ (edgeAxis 0).phaseB
      ∧ { edgeAxis 65535 with phaseA := true }.phaseA = true ∧ true ≠ { edgeAxis 65535 with phaseA := true }.phaseB)
    ∧ timedAxis = (withTravel timedAxis).axis .travel ∧ timedAxis.move = .none ∧ 0 < timedAxis.count ∧ timedAxis.count < 65535
      ∧ timedAxis.phaseA = false ∧ timedAxis.lastRise = some 99999001 ∧ timedAxis.duty ≠ 0 ∧ timedAxis.firstMark = false
      ∧ run0.clock - 99999001 < stepValue (Config.axis c0 .travel).minPeriod timedAxis.step ∧ run0.clock - 99999001 < 65536 :=
  ⟨⟨held_carrying, craneHeld_moving (by decide +kernel), craneHeld_moving (by decide +kernel), craneHeld_moving (by decide +kernel)⟩,
    by decide +kernel⟩

/-- Moving to the dispatch place with the bin on the fork. -/
def laden0 : State :=
  { run0 with
    sensors := { run0.sensors with fbn := true }
    queue := { run0.queue with jobs := [fetchJob4 .toPlace] }
    crane := { carrying.crane with mode := .step, step := some ⟨3, .movePlace, .dispatch, .moving⟩ } }

theorem witness_FaultDisposesOfJobs :
    CraneHeld laden0 ∧ laden0 = laden0.arrive (here laden0) ∧ laden0.powered = true ∧ laden0.station = .run
      ∧ laden0.crane.mode = .step ∧ laden0.crane.step = some ⟨3, .movePlace, .dispatch, .moving⟩
      ∧ laden0.job 3 = some (fetchJob4 .toPlace) ∧ (∀ k ∈ laden0.queue.jobs, k.num = 3 → k = fetchJob4 .toPlace)
      ∧ laden0.sensors.fbn = true ∧ laden0.crane.held = none ∧ (laden0.axis .travel).move ≠ .none
      ∧ (laden0.axis .travel).stall = some run0.clock ∧ run0.clock ≤ laden0.clock ∧ (laden0.axis .travel).duty ≠ 0 :=
  ⟨craneHeld_moving (by decide +kernel), by decide +kernel⟩

/-- A STORE of bin 4 or a FETCH of bin 4 moving to its pick, with a call of bin 5 waiting and a bin dispatching. -/
def faultedMove (j : Job) (place : Place) (st : SlotState) : State :=
  { carrying with
    dir := { run0.dir with
      records := [⟨st, 4, false⟩, ⟨.empty, 0, false⟩, ⟨.outbound, 5, false⟩, ⟨.blocked .missing, 6, false⟩] }
    queue := { run0.queue with jobs :=
      [j, { fetchJob4 .waiting with num := 8, bin := 5, slot := some ⟨.left, 2, 1⟩ },
        { fetchJob4 .dispatching with num := 9, bin := 8, slot := none }] }
    crane := { carrying.crane with mode := .step, step := some ⟨j.num, .movePick, place, .moving⟩ } }

theorem witness_FaultDisposesOfJobs_waiting :
    (∀ a ∈ [faultedMove (storeJob .toPick) .intake .inbound, faultedMove (fetchJob4 .toPick) (.slot slot1) .outbound],
      CraneHeld a)
    ∧ (∀ a ∈ [faultedMove (storeJob .toPick) .intake .inbound, faultedMove (fetchJob4 .toPick) (.slot slot1) .outbound],
      a = a.arrive (here a) ∧ a.powered = true ∧ a.station = .run ∧ a.crane.mode = .step ∧ a.crane.held = none
        ∧ a.front.action = none ∧ (a.queue.jobs.map (·.num)).Nodup ∧ a.line.general.length + a.queue.jobs.length < 8
        ∧ a.slotRec ⟨.left, 2, 1⟩ = some ⟨.outbound, 5, false⟩
        ∧ ∃ j ∈ a.queue.jobs, a.job j.num = some j ∧ j.stage = .toPick ∧ a.crane.step.map (·.job) = some j.num)
    ∧ (∀ a : State, RaisesSevere (here a) a (.bothPhasesChanged (here a) .lift) .encoder
        ∧ RaisesSevere (here a) a (.endLimitSwitch (here a) .tll) .limit)
    ∧ RaisesSevere (here carrying) carrying (.stallExpiry (here carrying) .travel) .stall
    ∧ RaisesSevere (here carrying) carrying (.drdyInactive (here carrying)) .drive
    ∧ RaisesSevere (here carrying) carrying (.fkcLost (here carrying)) .forkJam
    ∧ RaisesSevere (here carrying) carrying (.forkTimerExpiry (here carrying)) .forkTimeout
    ∧ RaisesSevere (here carrying) carrying (.binLost (here carrying)) .binLost := by
  refine ⟨fun a ha => craneHeld_moving ?_, by decide +kernel, fun _ => ⟨.inl ⟨_, rfl, rfl⟩, .inr (.inl ⟨_, rfl, rfl⟩)⟩,
    .inr (.inr (.inl ⟨_, _, rfl, rfl, rfl, by decide, by decide⟩)), .inr (.inr (.inr (.inl ⟨rfl, rfl, by decide⟩))),
    .inr (.inr (.inr (.inr (.inl ⟨rfl, rfl, by decide⟩)))),
    .inr (.inr (.inr (.inr (.inr (.inl ⟨_, rfl, rfl, by decide, rfl, by decide⟩))))),
    .inr (.inr (.inr (.inr (.inr (.inr ⟨rfl, rfl, rfl⟩)))))⟩
  revert a
  decide +kernel

/-- A FETCH's bin on the fork, its write waiting behind four others. -/
def waitingWrite : State :=
  { run0 with
    dir := { run0.dir with
      port := .writing, writeList := List.replicate 4 ⟨⟨.left, 2, 2⟩, ⟨.blocked .missing, 6⟩, none, 0⟩
      records := [⟨.outbound, 4, false⟩, ⟨.empty, 0, false⟩, ⟨.held, 5, false⟩, ⟨.blocked .missing, 6, false⟩] }
    queue := { run0.queue with jobs := [fetchJob4 .picking] }
    crane := { run0.crane with
      mode := .writeWait, carry := true, held := some ⟨⟨3, .pick, .slot slot1, .retract⟩, .pickVerified⟩ } }

theorem witness_FaultDisposesOfJobs_held :
    CraneHeld waitingWrite ∧ waitingWrite = waitingWrite.arrive (here run0) ∧ waitingWrite.powered = true
      ∧ waitingWrite.station = .run ∧ waitingWrite.job 3 = some (fetchJob4 .picking)
      ∧ (∀ k ∈ waitingWrite.queue.jobs, k.num = 3 → k = fetchJob4 .picking) ∧ waitingWrite.crane.mode = .writeWait
      ∧ waitingWrite.crane.step = none ∧ waitingWrite.crane.carry = true ∧ waitingWrite.front.pulling 3 = false
      ∧ waitingWrite.slotRec slot1 = some ⟨.outbound, 4, false⟩ ∧ 4 ≤ waitingWrite.dir.writeList.length
      ∧ waitingWrite.dir.hasPending slot1 = false ∧ waitingWrite.dir.port ≠ .idle ∧ waitingWrite.line.general.length < 8 :=
  ⟨craneHeld_moving (by decide +kernel), by decide +kernel⟩

/-- The STORE of bin 4 placed at (L, 1, 1), the fork coming back. -/
def placing0 : State :=
  { run0 with
    sensors := { run0.sensors with fkc := false }
    dir := { writingPort.dir with
      records := [⟨.inbound, 4, false⟩, ⟨.empty, 0, false⟩, ⟨.held, 5, false⟩, ⟨.blocked .missing, 6, false⟩] }
    queue := { run0.queue with jobs := [storeJob .placing] }
    crane := { run0.crane with
      mode := .step, step := some ⟨7, .place, .slot slot1, .retract⟩, fork := some .retract, forkTimer := some 100100000 } }

theorem witness_CyclesAreCarriedOut :
    (placing0 = placing0.arrive (here placing0) ∧ placing0.powered = true ∧ placing0.cfg = some c0 ∧ placing0.crane.mode = .step
      ∧ placing0.crane.step = some ⟨7, .place, .slot slot1, .retract⟩ ∧ placing0.crane.fork = some .retract
      ∧ placing0.crane.held = none ∧ placing0.sensors.fbn = false ∧ placing0.job 7 = some (storeJob .placing)
      ∧ placing0.dir.port = .writing ∧ placing0.dir.writeList.length < 4 ∧ (∀ e ∈ placing0.dir.writeList, e.slot ≠ slot1)
      ∧ placing0.dir.firstOwed = none ∧ placing0.slotRec slot1 = some ⟨.inbound, 4, false⟩)
    ∧ progress { placing0 with
        sensors := { placing0.sensors with fkc := true }
        crane := { placing0.crane with fork := none, forkTimer := none, mode := .idle, step := none }
        dir := { placing0.dir with
          records := setAt (slotIndex c0 slot1) ⟨.held, 4, false⟩ placing0.dir.records
          writeList := placing0.dir.writeList ++ [⟨slot1, ⟨.held, 4⟩, some 7, 0⟩] }
        queue := { placing0.queue with
          jobs := placing0.queue.jobs.map (fun k => if k.num = 7 then { k with stage := .committing } else k) } } = none := by
  decide +kernel

/-- The last move of a move step at rest at bay 1, the job, the slot's state and FBN as given. -/
def arriving (kind : StepKind) (place : Place) (fbn : Bool) (j : Job) (st : SlotState) : State :=
  { withTravel (settlingAxis 1105 99980000 none) with
    sensors := { drdy := true, fkc := true, fbn := fbn }
    dir := { run0.dir with records := [⟨st, 4, false⟩, ⟨.empty, 0, false⟩, ⟨.held, 5, false⟩, ⟨.blocked .missing, 6, false⟩] }
    queue := { run0.queue with jobs := [j] }
    crane := { run0.crane with
      mode := .step, step := some ⟨j.num, kind, place, .moving⟩, travel := settlingAxis 1105 99980000 none } }

/-- The same with the move ended and the cycle's step in a phase, the job in a stage. -/
def begun (a : State) (st : CraneStep) (fork : Option ForkAction) (j : Job) : State :=
  { a with
    crane := { a.crane with
      travel := { settlingAxis 1105 99980000 none with move := .none, target := none, dir := none }
      step := some st, fork := fork, forkTimer := fork.map (fun _ => a.clock + 1000 * c0.forkLimit) }
    queue := { a.queue with jobs := [j] } }

def arrivals : List State :=
  [arriving .movePick (.slot slot1) false (fetchJob4 .toPick) .outbound,
    arriving .movePlace (.slot slot1) true (storeJob .toPlace) .inbound,
    arriving .movePlace .dispatch true (fetchJob4 .toPlace) .empty,
    arriving .movePick (.slot slot1) true (fetchJob4 .toPick) .outbound,
    arriving .movePick .intake false (storeJob .toPick) .inbound,
    { arriving .movePlace .dispatch true (fetchJob4 .toPlace) .empty with front := { run0.front with dispatch := true } }]

theorem witness_CyclesAreCarriedOut_begin :
    (∀ a ∈ arrivals, a = a.arrive (here a) ∧ a.powered = true ∧ a.cfg = some c0 ∧ a.crane.held = none
      ∧ a.dir.firstOwed = none ∧ a.dir.writeList = [] ∧ a.crane.mode = .step ∧ a.crane.fork = none
      ∧ (a.axis .travel).move = .settling ∧ (a.axis .travel).target = some 1100 ∧ (a.axis .travel).duty = 0
      ∧ (a.axis .travel).quietSince + 20000 ≤ a.clock ∧ Machine.dist 1100 (a.axis .travel).count ≤ c0.window
      ∧ (a.axis .lift).move = .none ∧ (a.axis .lift).duty = 0
      ∧ a.sensors.fkl = false ∧ a.sensors.fkr = false ∧ a.sensors.fpr = false ∧ a.station = .run ∧ a.line.general.length < 8)
    ∧ CraneHeld (arriving .movePick (.slot slot1) true (fetchJob4 .toPick) .outbound)
    ∧ (∃ u, SettlesTo (begun (arriving .movePick (.slot slot1) false (fetchJob4 .toPick) .outbound)
        ⟨3, .pick, .slot slot1, .extend⟩ (some .extendL) (fetchJob4 .picking)) u)
    ∧ (∃ u, SettlesTo (begun (arriving .movePlace (.slot slot1) true (storeJob .toPlace) .inbound)
        ⟨7, .place, .slot slot1, .extend⟩ (some .extendL) (storeJob .placing)) u)
    ∧ (∃ u, SettlesTo (begun (arriving .movePlace .dispatch true (fetchJob4 .toPlace) .empty)
        ⟨3, .place, .dispatch, .extend⟩ (some .extendR) (fetchJob4 .placing)) u)
    ∧ (arriving .movePick .intake false (storeJob .toPick) .inbound).slotRec slot1 = some ⟨.inbound, 4, false⟩
    ∧ (∃ u, SettlesTo (after (.axisAtRest (here run0) .travel) (arriving .movePick .intake false (storeJob .toPick) .inbound)) u)
    ∧ ∃ u, SettlesTo { begun (arriving .movePlace .dispatch true (fetchJob4 .toPlace) .empty)
        ⟨3, .place, .dispatch, .waitEmpty⟩ none (fetchJob4 .toPlace) with front := { run0.front with dispatch := true } } u := by
  refine ⟨by decide +kernel, craneHeld_moving (by decide +kernel), settles_in 0 (by decide) (by decide +kernel),
    settles_in 0 (by decide) (by decide +kernel), settles_in 0 (by decide) (by decide +kernel), by decide +kernel,
    settles_in 0 (by decide) (by decide +kernel), settles_in 0 (by decide) (by decide +kernel)⟩

/-- A cycle's last retract about to end, of the job given, slot (L, 1, 1) in the state given. -/
def cycling (kind : StepKind) (place : Place) (phase : StepPhase) (fbn : Bool) (j : Job) (st : SlotState) : State :=
  { run0 with
    sensors := { drdy := true, fbn := fbn }
    dir := { writingPort.dir with
      records := [⟨st, 4, false⟩, ⟨.empty, 0, false⟩, ⟨.held, 5, false⟩, ⟨.blocked .missing, 6, false⟩] }
    queue := { run0.queue with jobs := [j] }
    crane := { run0.crane with mode := .step, step := some ⟨j.num, kind, place, phase⟩, fork := some .retract } }

/-- Its slot's write finds the list full; no slot is EMPTY; the dispatch position reads taken. -/
def listFull (s : State) : State := { s with dir := { s.dir with writeList := waitingWrite.dir.writeList } }
def noEmpty (s : State) : State :=
  { s with dir := { s.dir with records := setAt 1 ⟨.held, 8, false⟩ s.dir.records, emptyCount := 0 } }
def taken (s : State) : State := { s with front := { s.front with dispatch := true } }

/-- Cycles of every kind of result. -/
def cycles : List State :=
  [cycling .pick (.slot slot1) .retract true (fetchJob4 .picking) .outbound,
    cycling .pick .intake .retract true (storeJob .picking) .inbound,
    listFull (cycling .pick (.slot slot1) .retract true (fetchJob4 .picking) .outbound),
    cycling .pick (.slot slot1) .retract false (fetchJob4 .picking) .outbound,
    cycling .pick .intake .retract false (storeJob .picking) .inbound,
    noEmpty (cycling .place (.slot slot1) .retractObstructed true (storeJob .placing) .inbound),
    cycling .place (.slot slot1) .retractObstructed true (storeJob .placing) .inbound,
    taken (cycling .place .dispatch .retract false (fetchJob4 .placing) .empty),
    cycling .place .dispatch .retract false (fetchJob4 .placing) .empty,
    taken (cycling .place .dispatch .retract false { storeJob .placing with slot := none, reoffer := true } .empty)]

/-- The verified pick held while the oldest of four writes is read back. -/
def freeing : State := { waitingWrite with dir := { waitingWrite.dir with port := .checking, attempt := 1 } }

/-- From each cycle the step of the crane ends in a state whose consequences end. -/
theorem witness_CycleResultsAreApplied :
    (∀ a ∈ cycles, ∃ j ∈ a.queue.jobs, a = a.arrive (here a) ∧ a.powered = true ∧ a.cfg = some c0 ∧ a.job j.num = some j
      ∧ a.line.general.length < 8 ∧ a.dir.firstOwed = none ∧ a.crane.mode = .step ∧ a.crane.step.map (·.job) = some j.num
      ∧ a.crane.fork = some .retract ∧ a.crane.held = none ∧ a.dir.port ≠ .idle ∧ j.stage ≠ .toPick
      ∧ a.dir.hasPending slot1 = false ∧ (a.crane.step.map (·.place) = some (.slot slot1) → j.slot = some slot1)
      ∧ progress (settleWith 4 (after (.forkSensorReached (here a)) a)) = none)
    ∧ (cycles.map (fun a => a.slotRec slot1)
      = [some ⟨.outbound, 4, false⟩, some ⟨.inbound, 4, false⟩, some ⟨.outbound, 4, false⟩, some ⟨.outbound, 4, false⟩,
          some ⟨.inbound, 4, false⟩, some ⟨.inbound, 4, false⟩, some ⟨.inbound, 4, false⟩, some ⟨.empty, 4, false⟩,
          some ⟨.empty, 4, false⟩, some ⟨.empty, 4, false⟩]
      ∧ cycles.map (fun a => a.dir.writeList.length) = [1, 1, 4, 1, 1, 1, 1, 1, 1, 1]
      ∧ (taken run0).front.dispatch = true ∧ run0.front.dispatch = false)
    ∧ freeing = freeing.arrive (here run0) ∧ freeing.cfg = some c0 ∧ freeing.job 3 = some (fetchJob4 .picking)
      ∧ freeing.crane.mode = .writeWait ∧ freeing.crane.step = none ∧ freeing.dir.firstOwed = none
      ∧ freeing.dir.writeList = ⟨⟨.left, 2, 2⟩, ⟨.blocked .missing, 6⟩, none, 0⟩ :: freeing.dir.writeList.drop 1
      ∧ (freeing.dir.writeList.drop 1).length < 4 ∧ (∀ x ∈ freeing.dir.writeList.drop 1, x.slot ≠ slot1)
      ∧ ([0x12, 0, 0, 6] : List Byte) = Image.bytes ⟨.blocked .missing, 6⟩ ∧ freeing.slotRec slot1 = some ⟨.outbound, 4, false⟩
      ∧ progress (settleWith 4 (after (.readbackDone (here run0) 0x12 0 0 6) freeing)) = none := by decide +kernel

/-- The same place with the fork going out. -/
def extending0 : State :=
  { placing0 with crane := { placing0.crane with step := some ⟨7, .place, .slot slot1, .extend⟩, fork := some .extendL } }

theorem witness_CyclesAreCarriedOut_obstructed :
    (extending0 = extending0.arrive (here extending0) ∧ extending0.powered = true ∧ extending0.cfg = some c0
      ∧ extending0.crane.step = some ⟨7, .place, .slot slot1, .extend⟩ ∧ extending0.crane.fork ≠ none
      ∧ extending0.sensors.fkc = false)
    ∧ progress { extending0 with
        sensors := { extending0.sensors with fpr := true }
        crane := { extending0.crane with
          fork := some .retract, forkTimer := some (extending0.clock + 1000 * c0.forkLimit)
          step := some ⟨7, .place, .slot slot1, .retractObstructed⟩ } } = none
    ∧ run0.crane.step = none := by decide +kernel

/-- A cycle in a phase, the fork as given and out of centre, the lift as given. -/
def cycleAt (kind : StepKind) (place : Place) (phase : StepPhase) (fork : Option ForkAction) (lift : Axis) (j : Job) : State :=
  { cycling kind place phase true j .outbound with
    crane := { run0.crane with mode := .step, step := some ⟨j.num, kind, place, phase⟩, fork := fork, lift := lift } }

/-- The lift at pick height, at rest and then driven at creep to place height from below. -/
def low0 : Axis := { run0.crane.lift with count := 500 }
def lifting0 : Axis :=
  { low0 with
    move := .driving, target := some (c0.v0 + c0.lo), dir := some .up, firstMark := true, duty := c0.lift.duty.s0
    brake := false, stall := some (run0.clock + 1000 * c0.lift.stall.s0) }

theorem witness_CyclesAreCarriedOut_onward :
    (∀ a ∈ [cycleAt .pick (.slot slot1) .extend (some .extendL) low0 (fetchJob4 .picking),
        cycleAt .place (.slot slot1) .extend (some .extendL) run0.crane.lift (storeJob .placing),
        cycleAt .pick (.slot slot1) .liftMove none (settlingAxis 1105 99980000 none) (fetchJob4 .picking),
        taken (cycleAt .place .dispatch .waitEmpty none run0.crane.lift (fetchJob4 .toPlace))],
      a = a.arrive (here a) ∧ a.powered = true ∧ a.cfg = some c0 ∧ a.crane.held = none ∧ a.dir.firstOwed = none
        ∧ a.dir.port ≠ .idle ∧ a.outputsHeld = false ∧ a.sensors.fkc = false ∧ a.sensors.drdy = true ∧ a.sensors.fkr = false
        ∧ a.crane.lift.homed = true ∧ a.front.action = none ∧ a.front.owner = .none)
    ∧ (∃ u, SettlesTo { cycleAt .place .dispatch .extend (some .extendR) run0.crane.lift (fetchJob4 .placing) with
        crane := { run0.crane with
          mode := .step, step := some ⟨3, .place, .dispatch, .extend⟩, fork := some .extendR
          forkTimer := some (run0.clock + 1000 * c0.forkLimit) } } u)
    ∧ (c0.window < Machine.dist (c0.v0 + (1 - 1) * c0.cl + c0.lo) low0.count ∧ low0.move = .none)
    ∧ (∃ u, SettlesTo { cycleAt .pick (.slot slot1) .liftMove none lifting0 (fetchJob4 .picking) with
        sensors := { drdy := true, fbn := true, fkl := true } } u)
    ∧ (settlingAxis 1105 99980000 none).move = .settling ∧ (settlingAxis 1105 99980000 none).target = some 1100
    ∧ (settlingAxis 1105 99980000 none).duty = 0 ∧ (settlingAxis 1105 99980000 none).quietSince + 20000 ≤ run0.clock
    ∧ Machine.dist 1100 1105 ≤ c0.window
    ∧ ∃ u, SettlesTo (cycleAt .pick (.slot slot1) .retract (some .retract)
        { settlingAxis 1105 99980000 none with move := .none, target := none, dir := none } (fetchJob4 .picking)) u := by
  refine ⟨by decide +kernel, settles_in 0 (by decide) (by decide +kernel), by decide +kernel,
    settles_in 0 (by decide) (by decide +kernel), rfl, rfl, rfl, by decide, by decide,
    settles_in 0 (by decide) (by decide +kernel)⟩

/-- Homing's drive of the travel axis in a phase. -/
def homing0 (p : HomingPhase) : State :=
  { run0 with
    station := .homing
    crane := { run0.crane with mode := .homing, homing := some p, travel := { Axis.reset with duty := 100, brake := false } } }

theorem witness_HomeSwitchIsFollowed :
    (∀ p ∈ [HomingPhase.toward .travel, HomingPhase.away .travel],
      homing0 p = (homing0 p).arrive (here run0) ∧ (homing0 p).powered = true ∧ (homing0 p).cfg = some c0
        ∧ ((homing0 p).axis .travel).duty ≠ 0 ∧ (homing0 p).crane.homing = some p)
    ∧ (homing0 (.away .travel)).crane.homing ≠ some (.toward .travel)
    ∧ (homing0 (.toward .travel)).crane.homing ≠ some (.away .travel) := by decide +kernel

/-- Homing with an axis at rest for 20 ms in a phase; and the moves to the front about to complete. -/
def homingAt (p : HomingPhase) (ths : Bool) : State :=
  { homing0 p with
    sensors := { drdy := true, fkc := true, ths := ths }
    crane := { (homing0 p).crane with
      travel := { Axis.reset with count := 1000, homed := true }, lift := { Axis.reset with count := 500, homed := true } } }
def atFront : State :=
  { homingAt .front false with crane := { (homingAt .front false).crane with
      travel := { settlingAxis 1003 99980000 none with target := some 1000 } } }

theorem witness_HomingRunsToService :
    (∀ p ∈ [(HomingPhase.awayRest .lift, false), (.towardRest .lift, true), (.towardRest .lift, false), (.towardRest .travel, true)],
      let a := homingAt p.1 p.2
      a = a.arrive (here a) ∧ a.powered = true ∧ a.cfg = some c0
        ∧ (∀ x ∈ [AxisName.travel, .lift], (a.axis x).duty = 0 ∧ (a.axis x).quietSince + 20000 ≤ a.clock ∧ (a.axis x).move = .none)
        ∧ a.crane.held = none ∧ a.dir.firstOwed = none ∧ a.dir.writeList = [] ∧ a.crane.step = none ∧ a.crane.clearing = none
        ∧ a.crane.mode = .homing ∧ a.station = .homing ∧ a.fire.state = .calm ∧ a.sensors.drdy = true ∧ a.sensors.fkc = true
        ∧ a.crane.homing = some p.1 ∧ a.crane.travel.homed = true ∧ a.crane.lift.homed = true ∧ a.sensors.ths = p.2)
    ∧ (Axis.Begins c0.travel run0.clock c0.window c0.t0 (homingAt .front true).crane.travel (homingAt .front true).crane.travel
      ∧ Axis.Begins c0.lift run0.clock c0.window c0.v0 (homingAt .front true).crane.lift (homingAt .front true).crane.lift
      ∧ ∃ u, SettlesTo (homingAt .front true) u)
    ∧ (atFront = atFront.arrive (here atFront) ∧ atFront.powered = true ∧ atFront.cfg = some c0
      ∧ (atFront.axis .travel).move = .settling ∧ (atFront.axis .travel).target = some 1000
      ∧ (atFront.axis .travel).quietSince + 20000 ≤ atFront.clock ∧ Machine.dist 1000 (atFront.axis .travel).count ≤ c0.window
      ∧ atFront.crane.homing = some .front ∧ (atFront.axis .lift).move = .none ∧ (atFront.axis .lift).duty = 0
      ∧ atFront.faults.suspension = none)
    ∧ ∃ u, SettlesTo { atFront with
        station := .run
        crane := { (atFront.crane.onAxis .travel (fun x => { x with move := .none, target := none, dir := none })) with
          mode := .idle, homing := none, homeTimer := none } } u :=
  ⟨by decide +kernel, ⟨.inl ⟨by decide, rfl⟩, .inl ⟨by decide, rfl⟩, settles_in 1 (by decide) (by decide +kernel)⟩,
    by decide +kernel, settles_in 0 (by decide) (by decide +kernel)⟩

/-! ## Aisle front and loop -/

/-- The station with the front as given. -/
def withFront (f : Front) : State := { run0 with front := f }

theorem witness_PassageStepsIndex :
    run0 = run0.arrive (here run0) ∧ run0.powered = true ∧ run0.cfg = some c0 ∧ 0 < c0.carriers ∧ run0.front.indexValid = true
      ∧ { run0.front with indexValid := false }.indexValid = false ∧ (run0.front.index + 1) % c0.carriers ≠ 0
      ∧ ({ run0.front with index := 3 }.index + 1) % c0.carriers = 0 := by decide +kernel

theorem witness_LoopPeriodIsMeasured :
    let f : Front := { run0.front with previous := some 95000, stopTimer := some 100000000 }
    (withFront f = (withFront f).arrive (here run0) ∧ (withFront f).powered = true ∧ (withFront f).cfg = some c0
      ∧ f.stopTimer = some 100000000 ∧ f.previous = some 95000 ∧ 95000 < run0.clock / 1000 ∧ run0.clock / 1000 ≤ 95000 + 5000
      ∧ f.indexValid = true ∧ f.stopped = false ∧ f.discard = false ∧ { f with discard := true }.discard = true
      ∧ { f with stopped := true }.stopEdges = 0 ∧ { f with stopped := true, stopEdges := 1 }.stopEdges = 1) := by decide +kernel

theorem witness_ViewIsCorrected :
    run0.front.indexValid = true ∧ 2 = (run0.front.index + 1) % c0.carriers ∧ 2 < run0.front.view.length
      ∧ run0.front.entry 2 = .unknown ∧ 3 = ({ run0.front with index := 2 }.index + 1) % c0.carriers
      ∧ { run0.front with index := 2 }.entry 3 = .free
      ∧ { run0.front with view := [.free, .free, .laden (some 4) none none, .free] }.entry 2 = .laden (some 4) none none := by
  decide +kernel

/-- A STORE of bin 4 awaiting carrier 2. -/
def awaiting0 : State := { run0 with queue := { run0.queue with jobs := [storeJob .awaitCarrier] } }

/-- A picked bin in the dispatch position. -/
def dispatching0 : State :=
  { run0 with
    queue := { run0.queue with jobs := [fetchJob4 .dispatching] }
    front := { run0.front with dispatch := true, owner := .fetch 3 } }

theorem witness_PassageFiresPushers :
    (awaiting0 = awaiting0.arrive (here run0) ∧ awaiting0.powered = true ∧ awaiting0.cfg = some c0
      ∧ awaiting0.front.indexValid = true ∧ 2 = (awaiting0.front.index + 1) % c0.carriers ∧ 2 < awaiting0.front.view.length
      ∧ awaiting0.front.action = none ∧ awaiting0.awaiting 2 = some (storeJob .awaitCarrier)
      ∧ (awaiting0.front.entry 2).otherBin 4 = false ∧ awaiting0.front.intake = false ∧ awaiting0.station = .run
      ∧ awaiting0.fire.state = .calm ∧ awaiting0.job 7 = some (storeJob .awaitCarrier) ∧ awaiting0.line.general.length < 8)
    ∧ (dispatching0.awaiting 2 = none ∧ dispatching0.front.owner ≠ .none ∧ dispatching0.front.dispatch = true
      ∧ dispatching0.front.action = none)
    ∧ (homing0 .front).station ≠ .run := by decide +kernel

theorem witness_ViewIsCorrected_peers :
    Handed c0 ⟨4, .loaded 3 77 5 1⟩ run0 run0 ∧ Handed c0 ⟨4, .emptied 0 77⟩ run0 run0 ∧ run0 = run0.arrive (here run0)
      ∧ run0.powered = true := ⟨handed_now (by decide +kernel), handed_now (by decide +kernel), rfl, rfl⟩

/-- A pusher's action in flight, fired 100 ms ago. -/
def action0 (p : Pusher) (o : ActionOwner) : PusherAction :=
  { pusher := p, carrier := 2, owner := o, fired := 99900000, pulseEnded := false, confirmed := false }

/-- Bin 4 on its way from carrier 2, its STORE in the queue or gone. -/
def pulling (jobs : List Job) : State :=
  { run0 with
    dir := placing0.dir, queue := { run0.queue with jobs := jobs }
    crane := { run0.crane with mode := .writeWait }
    front := { run0.front with action := some (action0 .intake (.store 7 4)) } }

/-- The pull confirmed. -/
def pulled (jobs : List Job) : State :=
  { Queued (.emptied 2 4) .all (pulling jobs) with
    front := { (pulling jobs).front with
      intake := true, view := setAt 2 .free (pulling jobs).front.view
      action := some { action0 .intake (.store 7 4) with confirmed := true } } }

theorem witness_PullIsConfirmed :
    (∀ jobs ∈ [[], [storeJob .awaitCarrier]],
      pulling jobs = (pulling jobs).arrive (here run0) ∧ (pulling jobs).powered = true ∧ (pulling jobs).front.intake = false
        ∧ (pulling jobs).line.general.length < 8 ∧ (pulling jobs).front.action = some (action0 .intake (.store 7 4)))
    ∧ (pulling [storeJob .awaitCarrier]).job 7 = some (storeJob .awaitCarrier) ∧ (pulling []).job 7 = none
      ∧ progress { pulled [storeJob .awaitCarrier] with
          queue := { run0.queue with jobs := [{ storeJob .waiting with pulledSince := some (run0.clock / 1000) }] } } = none
      ∧ progress (pulled []) = none ∧ run0.front.action = none ∧ run0.front.intake = false := by decide +kernel

/-- The same once the pulse has ended: the action ends with its confirmation (4.10). -/
def pulseOver : PusherAction := { action0 .intake (.store 7 4) with pulseEnded := true }
def pullingLate : State := { pulling [storeJob .awaitCarrier] with front := { run0.front with action := some pulseOver } }

theorem witness_PullIsConfirmed_late :
    (pullingLate = pullingLate.arrive (here run0) ∧ pullingLate.powered = true ∧ pullingLate.front.intake = false
      ∧ pullingLate.front.action = some pulseOver ∧ pulseOver.confirmed = false ∧ pullingLate.queue.held = []
      ∧ pullingLate.job 7 = some (storeJob .awaitCarrier))
    ∧ (∃ u, SettlesTo { Queued (.emptied 2 4) .all pullingLate with
        front := { pullingLate.front with intake := true, view := setAt 2 .free pullingLate.front.view, action := none }
        queue := { run0.queue with jobs := [{ storeJob .waiting with pulledSince := some (run0.clock / 1000) }] } } u)
    ∧ { run0.front with intake := true }.intake = true
      ∧ { action0 .intake (.store 7 4) with confirmed := true }.confirmed = true :=
  ⟨by decide +kernel, settles_in 0 (by decide) (by decide +kernel), rfl, rfl⟩

/-- A load of carrier 2 under way, by a FETCH or a re-offer. -/
def loading2 (o : DispatchOwner) : State :=
  { dispatching0 with
    front := { dispatching0.front with owner := o, action := some (action0 .dispatch (.dispatch o)), reofferTag := 255 } }

/-- What the load leaves, by a FETCH or a re-offer; what a lost bin leaves. -/
def loadedBy (o : DispatchOwner) : State :=
  match o with
  | .fetch _ =>
    { Queued (.loaded 2 4 17 40) .all (loading2 o) with
      front := { (loading2 o).front with
        dispatch := false, owner := .none, action := some { action0 .dispatch (.dispatch o) with confirmed := true }
        view := setAt 2 (.laden (some 4) (some 17) (some 9)) run0.front.view }
      queue := { run0.queue with jobs := [] } }
  | .reOffer _ _ | .none =>
    { Queued (.offer 2 4 0) .all (loading2 o) with
      front := { (loading2 o).front with
        dispatch := false, owner := .none, reofferTag := 1
        action := some { action0 .dispatch (.dispatch o) with confirmed := true }
        view := setAt 2 (.laden (some 4) none (some 9)) run0.front.view } }

/-- The load by a FETCH once the pulse has ended. -/
def loadPulseOver : PusherAction := { action0 .dispatch (.dispatch (.fetch 3)) with pulseEnded := true }
def loadingLate : State :=
  { loading2 (.fetch 3) with front := { (loading2 (.fetch 3)).front with action := some loadPulseOver } }

theorem witness_LoadIsConfirmed_late :
    (loadingLate = loadingLate.arrive (here run0) ∧ loadingLate.front.dispatch = true ∧ loadPulseOver.confirmed = false
      ∧ loadingLate.front.action = some loadPulseOver ∧ loadingLate.queue.held = []
      ∧ loadingLate.job 3 = some (fetchJob4 .dispatching) ∧ loadingLate.line.general.length < 8)
    ∧ ∃ u, SettlesTo { Queued (.loaded 2 4 17 40) .all loadingLate with
        front := { loadingLate.front with
          dispatch := false, owner := .none, action := none, view := setAt 2 (.laden (some 4) (some 17) (some 9)) run0.front.view }
        queue := { run0.queue with jobs := [] } } u :=
  ⟨by decide +kernel, settles_in 0 (by decide) (by decide +kernel)⟩

def lostAt (o : DispatchOwner) : State := withFront { run0.front with dispatch := true, owner := o }

theorem witness_LoadIsConfirmed :
    (∀ o ∈ [DispatchOwner.fetch 3, .reOffer 4 255],
      loading2 o = (loading2 o).arrive (here run0) ∧ (loading2 o).powered = true ∧ (loading2 o).cfg = some c0
        ∧ (loading2 o).front.dispatch = true ∧ (loading2 o).line.general.length < 8
        ∧ (loading2 o).front.action = some (action0 .dispatch (.dispatch o)) ∧ (loading2 o).front.reofferTag < 256)
    ∧ (loading2 (.fetch 3)).job 3 = some (fetchJob4 .dispatching)
    ∧ (∃ u, SettlesTo (loadedBy (.fetch 3)) u) ∧ (∃ u, SettlesTo (loadedBy (.reOffer 4 255)) u)
    ∧ (∀ o ∈ [DispatchOwner.none, .reOffer 4 255],
        (lostAt o).front.dispatch = true ∧ (lostAt o).front.action = none ∧ (lostAt o).front.owner = o)
    ∧ (∃ u, SettlesTo { lostAt .none with front := { (lostAt .none).front with dispatch := false } } u)
    ∧ (dispatching0.front.action = none ∧ dispatching0.front.owner = .fetch 3 ∧ dispatching0.job 3 = some (fetchJob4 .dispatching)
      ∧ dispatching0.crane.held = none ∧ dispatching0.slotIs slot1 .outbound = false ∧ run0.front.dispatch = false)
    ∧ ∃ u, SettlesTo { Queued (.failed 4 40 .notFound) (.station 17) dispatching0 with
        front := { dispatching0.front with dispatch := false, owner := .none }, queue := { run0.queue with jobs := [] } } u :=
  ⟨by decide +kernel, by decide +kernel, settles_in 0 (by decide) (by decide +kernel), settles_in 0 (by decide) (by decide +kernel),
    by decide +kernel, settles_in 0 (by decide) (by decide +kernel), by decide +kernel,
    settles_in 0 (by decide) (by decide +kernel)⟩

/-- An action with its fire moment, confirmed or not. -/
def acting (fired : Nat) (confirmed : Bool) : State :=
  withFront { run0.front with action := some { action0 .intake (.store 7 4) with fired := fired, confirmed := confirmed } }

theorem witness_PulseAndLimitEndActions :
    CraneHeld (acting 99500000 false)
    ∧ (∀ fired ∈ [99900000, 99900001, 99500000, 99500001], ∀ b ∈ [true, false],
        acting fired b = (acting fired b).arrive (here run0) ∧ (acting fired b).powered = true ∧ (acting fired b).cfg = some c0
          ∧ (acting fired b).front.action = some { action0 .intake (.store 7 4) with fired := fired, confirmed := b }
          ∧ (acting fired b).queue.held = [] ∧ (acting fired b).station = .run ∧ (acting fired b).crane.mode ≠ .stopped
          ∧ (acting fired b).crane.held = none ∧ 2 < (acting fired b).front.view.length)
    ∧ run0.clock < 99900001 + 1000 * c0.pusherPulse ∧ 99900000 + 1000 * c0.pusherPulse ≤ run0.clock
      ∧ run0.clock < 99500001 + 1000 * c0.pusherLimit ∧ 99500000 + 1000 * c0.pusherLimit ≤ run0.clock :=
  ⟨craneHeld_moving (by decide +kernel), by decide +kernel⟩

/-- The pull confirmed with a fail request held since before it. -/
def heldRequest : State :=
  { acting 99900000 true with queue := { run0.queue with jobs := [storeJob .picking], held := [⟨7, .fail .fireStop, false⟩] } }

theorem witness_PulseAndLimitEndActions_held :
    (heldRequest = heldRequest.arrive (here run0) ∧ heldRequest.powered = true ∧ heldRequest.cfg = some c0
      ∧ heldRequest.queue.held = [⟨7, .fail .fireStop, false⟩] ∧ (heldRequest.job 7).map (·.stage) = some .picking)
    ∧ ∃ u, SettlesTo { heldRequest with
        front := { heldRequest.front with action := none }, queue := { heldRequest.queue with held := [] } } u :=
  ⟨by decide +kernel, settles_in 0 (by decide) (by decide +kernel)⟩

/-! ## Estimates -/

theorem witness_HalvesRoundToEven :
    0 < 10 ∧ 1245 = 124 * 10 + 5 ∧ 5 < 10 ∧ 2 * 5 = 10 ∧ 1237 = 123 * 10 + 7 ∧ 10 < 2 * 7 ∧ 1231 = 123 * 10 + 1 ∧ 2 * 1 < 10
      ∧ run0.front.indexValid = true ∧ run0.front.stopped = false ∧ run0.front.period = some 1000 ∧ run0.dir.records ≠ [] := by
  decide +kernel

theorem witness_LegIsItsLongerAxis :
    (0 + 2 = 2 ∨ 2 + 2 = 0) ∧ (1 + 1 = 2 ∨ 2 + 1 = 1) ∧ Config.valid c0 = true ∧ 0 ≤ c0.bays ∧ 2 ≤ c0.bays ∧ 1 ≤ 1 ∧ 1 ≤ 2
      ∧ 1 ≤ c0.levels ∧ 2 ≤ c0.levels := by decide +kernel

/-- The crane's position known and unknown; a slot EMPTY and none; two equally near slots. -/
def unhomed : State := { run0 with crane := Crane.reset }

theorem witness_NearestIsChosen :
    run0.cfg = some c0 ∧ run0.nearestEmpty = some ⟨.left, 1, 2⟩ ∧ getAt 1 run0.dir.records = some ⟨.empty, 0, false⟩
      ∧ run0.crane.travel.homed = true ∧ run0.crane.lift.homed = true ∧ run0.position = some ⟨2, 1⟩ ∧ 1 ≤ c0.levels
      ∧ unhomed.cfg = some c0 ∧ unhomed.crane.travel.homed = false
      ∧ (∀ l ∈ [1, 2], min (Machine.dist 510 (c0.v0 + (l - 1) * c0.cl)) (Machine.dist 510 (c0.v0 + (l - 1) * c0.cl + c0.lo))
          = if l = 1 then 0 else 90) := by decide +kernel

/-- An active FETCH, a waiting one and a STORE on its carrier, behind one another; the loop stopped; no carrier FREE. -/
def queued0 : State :=
  { run0 with queue := { run0.queue with jobs :=
      [{ fetchJob4 .toPick with start := some ⟨700, 99990⟩ }, { fetchJob4 .waiting with num := 4 },
        { fetchJob4 .dispatching with num := 5 }, storeJob .awaitCarrier] } }

theorem witness_EstimatesAreSums :
    (∀ s ∈ [run0, unhomed, queued0], s.cfg = some c0)
    ∧ (fetchJob4 .waiting).slot = some slot1 ∧ (storeJob .waiting).slot = some slot1 ∧ unhomed.position = none
      ∧ run0.position = some ⟨2, 1⟩ ∧ queued0.position = some ⟨2, 1⟩
      ∧ (∃ j rest, queued0.queue.jobs = j :: rest ∧ j.active = true ∧ ∀ k ∈ rest, k.active = false)
      ∧ queued0.queue.jobs.map (·.stage) = [.toPick, .waiting, .dispatching, .awaitCarrier]
      ∧ { run0.front with stopped := true }.pcs = none ∧ run0.front.pcs = some 100
      ∧ getAt ((run0.front.index + 2) % c0.carriers) run0.front.view = some .free
      ∧ getAt ((run0.front.index + 1) % c0.carriers) run0.front.view ≠ some .free
      ∧ run0.nearestEmpty = some ⟨.left, 1, 2⟩ ∧ run0.front.index < c0.carriers ∧ (run0.front.index + 1) % c0.carriers = 2 := by
  refine ⟨by decide +kernel, rfl, rfl, by decide +kernel, by decide +kernel, by decide +kernel, ⟨_, _, rfl, by decide⟩, ?_⟩
  decide +kernel

/-! ## Offers -/

/-- An eligible station; its cost; one with the loop stopped; one with four entries open. -/
def entry0 (carrier serial : Nat) (own : OwnState) : OfferEntry :=
  { serial := serial, carrier := carrier, bin := 77, tag := 50, offerer := 4, windowEnd := 100000, ownCost := some 1874, own := own
    best := none, heard := 0, job := none, withheld := none }

def fourOffers : State :=
  { run0 with offers := { entries := [entry0 0 0 .none, entry0 1 1 .none, entry0 3 2 .none, entry0 3 3 .none], nextSerial := 4 } }

def stoppedLoop : State := withFront { run0.front with stopped := true }

theorem witness_OfferIsBidFor :
    (Handed c0 ⟨4, .offer 2 77 50⟩ run0 run0 ∧ Handed c0 ⟨4, .offer 2 77 50⟩ stoppedLoop stoppedLoop
      ∧ Handed c0 ⟨4, .offer 2 77 50⟩ fourOffers fourOffers)
    ∧ (∀ s ∈ [run0, stoppedLoop, fourOffers], s = s.arrive (here run0) ∧ s.powered = true ∧ s.dir.lookup 77 = none
        ∧ s.jobOfBin 77 = none ∧ (∀ x ∈ s.offers.entries, x.carrier ≠ 2) ∧ s.line.general.length < 8)
    ∧ (run0.offers.entries.length < 4 ∧ run0.station = .run ∧ run0.fire.state = .calm ∧ 0 < run0.dir.emptyCount
      ∧ run0.queue.jobs.length < 8 ∧ run0.front.pcs.isSome = true ∧ (run0.bidCost 2).isSome = true)
    ∧ stoppedLoop.front.pcs = none ∧ 4 ≤ fourOffers.offers.entries.length :=
  ⟨⟨handed_now (by decide +kernel), handed_now (by decide +kernel), handed_now (by decide +kernel)⟩, by decide +kernel⟩

/-- The bid of the eligible station that marked its own copy; the entry without one of a station in SHUTDOWN. -/
theorem witness_OfferFindsDuplicate :
    (∀ s ∈ duplicates, Handed c0 ⟨4, .offer 2 4 50⟩ s s)
    ∧ (∀ s ∈ duplicates, s = s.arrive (here s) ∧ s.powered = true ∧ s.offers.entries = [] ∧ s.dir.lookup 4 = some 0
      ∧ s.station = .run ∧ s.fire.state = .calm ∧ 0 < s.dir.emptyCount ∧ s.queue.jobs.length < 8 ∧ s.front.pcs.isSome = true
      ∧ (∀ j ∈ s.queue.jobs, j.kind = .fetch) ∧ (s.bidCost 2).isSome = true ∧ s.line.general.length < 8)
    ∧ (∃ m k u, DuplicateMarked c0 4 (marking .held [] true) m ∧ m.bidCost 2 = some k ∧ m.station = .run ∧ m.fire.state = .calm
        ∧ 0 < m.dir.emptyCount ∧ m.queue.jobs = [] ∧ m.front.pcs.isSome = true ∧ m.line.general = []
      ∧ SettlesTo { m with
          offers := { entries := [{ entry0 2 0 .bidPending with bin := 4, windowEnd := 100400, ownCost := some k }], nextSerial := 1 }
          line := { m.line with
            general := [newEntry m.line.nextOrder (.bid 2 50 4 k) .all (some 0)], nextOrder := m.line.nextOrder + 1 } } u)
    ∧ (∃ m u, DuplicateMarked c0 4 { marking .held [] true with station := .homing } m ∧ m.station ≠ .run
      ∧ SettlesTo { m with offers :=
          { entries := [{ entry0 2 0 .none with bin := 4, windowEnd := 100400, ownCost := none }], nextSerial := 1 } } u)
    ∧ ((marking .held [storeJob .committing] true).jobOfBin 4 = some (storeJob .committing)
      ∧ run0.dir.lookup 6 = some 3 ∧ getAt 3 run0.dir.records = some ⟨.blocked .missing, 6, false⟩)
    ∧ Handed c0 ⟨4, .offer 0 77 51⟩ fourOffers fourOffers
      ∧ fourOffers.offers.entries = [] ++ entry0 0 0 .none :: fourOffers.offers.entries.drop 1
      ∧ fourOffers.dir.lookup 77 = none ∧ fourOffers.jobOfBin 77 = none ∧ fourOffers.line.attempt = none
      ∧ (fourOffers.bidCost 0).isSome = true ∧ { fourOffers with station := .homing }.station ≠ .run := by
  refine ⟨handed_duplicates (by decide), by decide +kernel, ?_, ?_, by decide +kernel, handed_now (by decide +kernel), by decide +kernel⟩
  · exact ⟨_, 1175, _, ⟨0, ⟨.held, 4, false⟩, by decide, by decide,
      .inl ⟨rfl, by decide, by decide, false, _, .inl ⟨by decide, rfl, rfl⟩, rfl⟩⟩, by decide +kernel, rfl, rfl, by decide, rfl,
      by decide, rfl, ⟨0, by decide, rfl, by decide +kernel⟩⟩
  · exact ⟨_, _, ⟨0, ⟨.held, 4, false⟩, by decide, by decide,
      .inl ⟨rfl, by decide, by decide, false, _, .inl ⟨by decide, rfl, rfl⟩, rfl⟩⟩, by decide, ⟨0, by decide, rfl, by decide +kernel⟩⟩

/-- One open entry for carrier 2, its BID waiting, sent, or its claim made for STORE 7. -/
def offered (own : OwnState) : State :=
  { run0 with
    dir := { placing0.dir with port := .writing }
    queue := { run0.queue with jobs := if own = .claimed then [storeJob .awaitCarrier] else [] }
    offers := { entries := [{ entry0 2 0 own with job := if own = .claimed then some 7 else none }], nextSerial := 1 }
    line := { run0.line with
      general := if own = .bidPending then [newEntry 0 (.bid 2 50 4 1874) .all (some 0)] else [], nextOrder := 1 } }

theorem witness_BidsAndClaimsAreHeard :
    (Handed c0 ⟨5, .bid 2 50 4 1800⟩ (offered .bidPending) (offered .bidPending)
      ∧ Handed c0 ⟨5, .claim 2 50 4 1800⟩ (offered .claimed) (offered .claimed)
      ∧ Handed c0 ⟨5, .bid 1 50 4 1800⟩ (offered .bidPending) (offered .bidPending)
      ∧ Handed c0 ⟨5, .claim 1 50 4 1800⟩ (offered .bidSent) (offered .bidSent))
    ∧ (∀ o ∈ [OwnState.none, .bidPending, .bidSent, .claimed],
        offered o = (offered o).arrive (here run0) ∧ (offered o).powered = true
          ∧ (offered o).offerMatch 2 50 4 = some { entry0 2 0 o with job := if o = .claimed then some 7 else none }
          ∧ (offered o).offerMatch 1 50 4 = none ∧ (offered o).line.attempt = none)
    ∧ (BidPair.better ⟨1800, 5⟩ ⟨1874, 9⟩ = true ∧ BidPair.better ⟨1874, 9⟩ ⟨1900, 5⟩ = true)
    ∧ (offered .claimed).job 7 = some (storeJob .awaitCarrier) ∧ (offered .claimed).front.action = none
      ∧ (storeJob .awaitCarrier).slot = some (slotAt c0 0) ∧ namesRecord c0 (slotAt c0 0) = true
      ∧ slotIndex c0 (slotAt c0 0) = 0 ∧ getAt 0 (offered .claimed).dir.records = some ⟨.inbound, 4, false⟩
      ∧ (offered .claimed).crane.held = none :=
  ⟨⟨handed_now (by decide +kernel), handed_now (by decide +kernel), handed_now (by decide +kernel), handed_now (by decide +kernel)⟩,
    by decide +kernel⟩

/-- No slot EMPTY. -/
def noEmptyRecords (s : State) : State :=
  { s with dir := { s.dir with records := setAt 1 ⟨.held, 8, false⟩ s.dir.records, emptyCount := 0 } }

/-- The same with a foreign bid kept. -/
def outbid : State :=
  { offered .bidSent with offers := { entries := [{ entry0 2 0 .bidSent with best := some ⟨1800, 5⟩ }], nextSerial := 1 } }

theorem witness_WindowEndClaims :
    (∀ o ∈ [OwnState.none, .bidPending, .bidSent],
        (offered o).cfg = some c0 ∧ (offered o).line.attempt = none
          ∧ (offered o).offers.entries.find? (fun x => x.carrier == 2) = some (entry0 2 0 o))
    ∧ ((entry0 2 0 .none).windowEnd ≤ run0.clock / 1000 ∧ 99999999 / 1000 < (entry0 2 0 .none).windowEnd)
    ∧ outbid.offers.entries.find? (fun x => x.carrier == 2) = some { entry0 2 0 .bidSent with best := some ⟨1800, 5⟩ }
    ∧ (offered .bidSent).station = .run ∧ (offered .bidSent).fire.state = .calm ∧ (offered .bidSent).queue.jobs.length < 8
      ∧ (offered .bidSent).line.general.length < 8
      ∧ (∀ j ∈ (offered .bidSent).queue.jobs, j.bin ≠ 77 ∧ (j.kind = .store → j.carrier ≠ some 2))
      ∧ (∀ q ∈ (offered .bidSent).dir.records, q.bin = 77 → q.state ≠ .held ∧ q.state ≠ .outbound ∧ q.state ≠ .inbound)
      ∧ (offered .bidSent).nearestEmpty = some ⟨.left, 1, 2⟩ ∧ namesRecord c0 ⟨.left, 1, 2⟩ = true
      ∧ slotIndex c0 ⟨.left, 1, 2⟩ = 1 ∧ getAt 1 (offered .bidSent).dir.records = some ⟨.empty, 0, false⟩ := by decide +kernel

/-- The bid sent and unbeaten, the claim refused: out of service, the bin named by a job, no slot EMPTY. -/
theorem witness_WindowEndClaims_refused :
    let a := { offered .bidSent with station := .homing }
    (a = a.arrive (here run0) ∧ a.powered = true ∧ a.cfg = some c0 ∧ a.line.attempt = none ∧ a.station ≠ .run
      ∧ a.offers.entries.find? (fun x => x.carrier == 2) = some (entry0 2 0 .bidSent) ∧ (entry0 2 0 .bidSent).best = none
      ∧ (entry0 2 0 .bidSent).windowEnd ≤ a.clock / 1000)
    ∧ { offered .bidSent with queue := { run0.queue with jobs := [{ storeJob .waiting with bin := 77 }] } }.queue.jobs.map Job.bin = [77]
    ∧ (noEmptyRecords (offered .bidSent)).nearestEmpty = none := by decide +kernel

/-! ## Fire shutdown -/

/-- The fire unit as given. -/
def withFire (st : StationState) (f : FireUnit) : State :=
  { run0 with station := st, fire := f, crane := { run0.crane with mode := if f.state = .calm then .idle else .stopped } }

/-- FIN read active for just 100 ms; and an ALARM of this station waiting with its repeat due. -/
def finFire (st : FireState) : FireUnit := { FireUnit.reset with state := st, fin := true, finRun := some 99900000 }
def alarmed : State :=
  { withFire .shutdown { finFire .sealing with filtered := true, alarmTimer := some run0.clock } with
    line := { run0.line with reserved := some (newEntry 0 (.alarm 3) .all none), nextOrder := 1 } }

theorem witness_FinAndAllClearAreTaken :
    (∀ st ∈ [FireState.sealing, .sealed, .breached],
      withFire .shutdown (finFire st) = (withFire .shutdown (finFire st)).arrive (here run0)
        ∧ (withFire .shutdown (finFire st)).powered = true ∧ (withFire .shutdown (finFire st)).cfg = some c0
        ∧ (finFire st).fin = true ∧ (finFire st).filtered = false ∧ (finFire st).finRun = some 99900000
        ∧ 99900000 + 100000 ≤ (withFire .shutdown (finFire st)).clock ∧ (withFire .shutdown (finFire st)).line.reserved = none
        ∧ ∀ e ∈ (withFire .shutdown (finFire st)).line.general, e.isAlarm = false)
    ∧ (run0.fire.fin = false ∧ alarmed = alarmed.arrive (here run0) ∧ alarmed.powered = true ∧ alarmed.cfg = some c0
      ∧ alarmed.fire.alarmTimer = some run0.clock ∧ run0.clock ≤ alarmed.clock
      ∧ alarmed.line.reserved = some (newEntry 0 (.alarm 3) .all none) ∧ (newEntry 0 (.alarm 3) .all none).isAlarm = true
      ∧ alarmed.line.attempt = none)
    ∧ (run0.line.mode = .locked ∧ frameOk c0.carriers ⟨20, .allclear 8⟩ = true ∧ 20 = c0.panel ∧ (8).testBit c0.zone = true
      ∧ (16).testBit c0.zone = false ∧ 4 ≠ c0.panel)
    ∧ progress { run0 with fire := { run0.fire with allClear := true } } = none := by decide +kernel

/-- FIN's run just over 100 ms, in service. -/
def fired0 : State := withFire .run (finFire .calm)

theorem witness_TriggerShutsDown :
    (run0 = run0.arrive (here run0) ∧ run0.line.mode = .locked ∧ frameOk c0.carriers ⟨4, .alarm 8 1⟩ = true
      ∧ (8).testBit c0.zone = true ∧ (16).testBit c0.zone = false ∧ (1).testBit 7 = false ∧ (128).testBit 7 = true)
    ∧ fired0 = fired0.arrive (here run0) ∧ fired0.powered = true ∧ fired0.cfg = some c0 ∧ fired0.fire.fin = true
      ∧ fired0.fire.filtered = false ∧ fired0.fire.finRun = some 99900000 ∧ 99900000 + 100000 ≤ fired0.clock
      ∧ fired0.station = .run ∧ fired0.fire.state = .calm ∧ fired0.fire.scl = false ∧ fired0.crane.mode = .idle
      ∧ fired0.crane.travel.duty = 0 ∧ fired0.crane.lift.duty = 0 ∧ fired0.crane.fork = none ∧ fired0.crane.step = none
      ∧ fired0.crane.held = none ∧ fired0.crane.named = none ∧ fired0.crane.clearing = none ∧ fired0.crane.homing = none
      ∧ fired0.front.action = none ∧ fired0.crane.travel.homed = true
      ∧ c0.t0 + c0.clearBay * c0.cb ≤ fired0.crane.travel.count + c0.window := by decide +kernel

/-- FIN's moment, and its conditions met. -/
theorem fin_fires {s : State} (h : s.fire.fin = true ∧ s.fire.filtered = false ∧ s.fire.finRun = some 99900000
    ∧ 99900000 + 100000 ≤ s.clock) (now : Now) : FinTriggers now s (.finActive now) := ⟨rfl, h.1, h.2.1, 99900000, h.2.2⟩

/-- The same with a call waiting at (L, 1, 1) and a STORE of bin 5 on its carrier for (L, 2, 1). -/
def firedWaiting : State :=
  { fired0 with
    dir := { run0.dir with records := [⟨.outbound, 4, false⟩, ⟨.empty, 0, false⟩, ⟨.inbound, 5, false⟩, ⟨.blocked .missing, 6, false⟩] }
    queue := { run0.queue with jobs := [fetchJob4 .waiting, { storeJob .awaitCarrier with bin := 5, slot := some ⟨.left, 2, 1⟩ }] } }

theorem witness_TriggerShutsDown_waiting :
    FinTriggers (here run0) firedWaiting (.finActive (here run0))
    ∧ AlarmTriggers (here run0) run0 (.alarm (here run0) 4 8 1)
    ∧ (firedWaiting.queue.jobs.map (·.num)).Nodup ∧ firedWaiting.line.general.length + firedWaiting.queue.jobs.length < 8
      ∧ firedWaiting.slotRec slot1 = some ⟨.outbound, 4, false⟩ ∧ firedWaiting.slotRec ⟨.left, 2, 1⟩ = some ⟨.inbound, 5, false⟩ :=
  ⟨fin_fires (by decide +kernel) _, ⟨4, 8, 1, c0, rfl, rfl, rfl, by decide, .inl (by decide)⟩, by decide +kernel⟩

/-- FIN just over 100 ms outside service, the crane at rest and not homed: in START and HALTED it is STOPPED. -/
def firedOutside (st : StationState) (cfg : Option Config) : State :=
  { withFire st (finFire .calm) with
    config := cfg
    crane := { Crane.reset with mode := if st = .loading ∨ st = .acquiring then .idle else .stopped } }

def outside : List State :=
  [firedOutside .start none, firedOutside .loading (some c0), firedOutside .acquiring (some c0), firedOutside .faulted (some c0),
    firedOutside .halted (some c0)]

theorem witness_TriggersOutsideRun :
    (∀ a ∈ outside, CraneHeld a)
    ∧ ∀ a ∈ outside, FinTriggers (here run0) a (.finActive (here run0)) ∧ a = a.arrive (here run0) ∧ a.powered = true
      ∧ a.fire.state = .calm ∧ a.fire.scl = false ∧ a.crane.held = none ∧ a.crane.step = none ∧ a.crane.fork = none
      ∧ a.crane.travel.duty = 0 ∧ a.crane.lift.duty = 0 ∧ a.crane.clearing = none ∧ a.crane.travel.homed = false
      ∧ a.front.action = none ∧ ((a.crane.mode = .idle ∧ a.crane.named = none) ∨ a.crane.mode = .stopped)
      ∧ a.line.reserved = none ∧ a.line.general = [] ∧ a.queue.jobs = [] := by
  refine ⟨fun a ha => ?_, fun a ha => ⟨fin_fires ?_ _, ?_⟩⟩
  · simp only [outside, List.mem_cons, List.not_mem_nil, or_false] at ha
    rcases ha with rfl | rfl | rfl | rfl | rfl
    · exact craneHeld_stopped (by decide +kernel)
    · exact craneHeld_moving (by decide +kernel)
    · exact craneHeld_moving (by decide +kernel)
    · exact craneHeld_stopped (by decide +kernel)
    · exact craneHeld_stopped (by decide +kernel)
  · revert a; decide +kernel
  · revert a; decide +kernel

/-- FIN just over 100 ms with the crane in motion: in a move step, homing, or in a cycle. -/
def firedAt (st : StationState) (c : Crane) : State := { withFire st (finFire .calm) with crane := c }
def movingCrane : Crane := { run0.crane with mode := .step, step := some ⟨3, .movePick, .slot slot1, .moving⟩, travel := drivingAxis 1150 1 }
def homingCrane : Crane := (homing0 (.toward .travel)).crane
def cyclingCrane : Crane := { run0.crane with mode := .step, step := some ⟨3, .pick, .slot slot1, .extend⟩, fork := some .extendL }

theorem witness_TriggerShutsDown_moving :
    (∀ p ∈ [(StationState.run, movingCrane), (.homing, homingCrane), (.run, cyclingCrane)],
      firedAt p.1 p.2 = (firedAt p.1 p.2).arrive (here run0) ∧ (firedAt p.1 p.2).powered = true ∧ (firedAt p.1 p.2).cfg = some c0
        ∧ (firedAt p.1 p.2).line.mode = .locked ∧ (firedAt p.1 p.2).station = p.1 ∧ (firedAt p.1 p.2).fire.state = .calm
        ∧ p.2.held = none ∧ (firedAt p.1 p.2).dir.firstOwed = none ∧ (firedAt p.1 p.2).dir.writeList = [] ∧ p.2.clearing = none)
    ∧ movingCrane.mode = .step ∧ movingCrane.travel.duty ≠ 0 ∧ homingCrane.mode = .homing ∧ homingCrane.step = none
      ∧ homingCrane.travel.duty ≠ 0 ∧ cyclingCrane.mode = .step ∧ cyclingCrane.homing = none ∧ cyclingCrane.fork ≠ none := by
  decide +kernel

/-- SEALING with the shutter's limit just run. -/
def sealing0 : State := withFire .shutdown { FireUnit.reset with state := .sealing, shutter := some run0.clock }
def sealed0 : State := withFire .shutdown { FireUnit.reset with state := .sealed, scl := true, parked := true }

theorem witness_ShutterIsWatched :
    AtRest sealing0
    ∧ (sealing0 = sealing0.arrive (here run0) ∧ sealing0.powered = true ∧ sealing0.cfg = some c0 ∧ sealing0.fire.state = .sealing
      ∧ sealing0.fire.parked = false ∧ sealing0.line.reserved = none ∧ sealing0.fire.shutter = some run0.clock
      ∧ none = sealing0.faults.suspension.map (·.kind))
    ∧ progress { sealing0 with
        fire := { sealing0.fire with state := .sealed, scl := true, shutter := none, parked := true }
        line := { sealing0.line with reserved := some (newEntry 0 (.parked 3 false false none) .all none), nextOrder := 1 } } = none
    ∧ (sealed0.fire.state = .sealed
      ∧ progress (recordFault .shutter { sealed0 with fire := { sealed0.fire with state := .breached, scl := false } }) = none)
    ∧ progress (recordFault .shutter { sealing0 with
        fire := { sealing0.fire with state := .breached, shutter := none, parked := true }
        line := { sealing0.line with reserved := some (newEntry 0 (.parked 3 false true none) .all none), nextOrder := 1 } }) = none :=
  ⟨by constructor <;> decide +kernel, by decide +kernel⟩

/-- BREACHED; and REOPENING with the shutter's limit just run and FIN active for just 100 ms. -/
def breached0 : State := withFire .shutdown { FireUnit.reset with state := .breached, parked := true, shutter := some 110000000 }
def opening0 : State := withFire .shutdown { finFire .reopening with shutter := some run0.clock, allClear := true }

theorem witness_ShutterIsWatched_reopening :
    (AtRest breached0 ∧ CraneHeld opening0 ∧ FinTriggers (here run0) opening0 (.finActive (here run0))
      ∧ AlarmTriggers (here run0) opening0 (.alarm (here run0) 4 8 1))
    ∧ (breached0 = breached0.arrive (here run0) ∧ breached0.powered = true ∧ breached0.cfg = some c0
      ∧ breached0.fire.state = .breached
      ∧ progress { breached0 with fire := { breached0.fire with state := .sealed, scl := true, shutter := none } } = none)
    ∧ (opening0 = opening0.arrive (here run0) ∧ opening0.powered = true ∧ opening0.cfg = some c0 ∧ opening0.fire.state = .reopening
      ∧ opening0.station = .shutdown ∧ opening0.crane.held = none ∧ opening0.fire.shutter = some run0.clock
      ∧ run0.clock ≤ opening0.clock ∧ opening0.line.reserved = none ∧ opening0.line.general = [])
    ∧ (∃ u, SettlesTo { opening0 with fire := { opening0.fire with
        state := .sealing, allClear := false, parked := false, deadline := none
        shutter := some (run0.clock + 1000 * c0.shutterLimit) } } u)
    ∧ ∃ u, SettlesTo { opening0 with
        fire := { opening0.fire with
          state := .sealing, allClear := false, parked := false, deadline := none, filtered := true, finLast := run0.clock
          alarmTimer := some (run0.clock + 1000000), shutter := some (run0.clock + 1000 * c0.shutterLimit) }
        line := { opening0.line with reserved := some (newEntry 0 (.alarm c0.zone) .all none), nextOrder := 1 } } u :=
  ⟨⟨by constructor <;> decide +kernel, craneHeld_stopped (by decide +kernel), fin_fires (by decide +kernel) _,
      ⟨4, 8, 1, c0, rfl, rfl, rfl, by decide, .inl (by decide)⟩⟩,
    by decide +kernel, by decide +kernel, settles_in 0 (by decide) (by decide +kernel), settles_in 0 (by decide) (by decide +kernel)⟩

/-- HALTING with the crane coming to rest, the deadline just run. -/
def halting0 : State :=
  { withFire .shutdown { FireUnit.reset with state := .halting, deadline := some run0.clock } with
    crane := { run0.crane with mode := .stopping, travel := { drivingAxis 1150 0 with duty := 100 } } }

theorem witness_DeadlineOrFaultForcesSealing :
    CraneHeld halting0
    ∧ (halting0 = halting0.arrive (here run0) ∧ halting0.powered = true ∧ halting0.cfg = some c0
      ∧ halting0.fire.deadline = some run0.clock ∧ run0.clock ≤ halting0.clock ∧ halting0.fire.state = .halting
      ∧ halting0.fire.scl = false ∧ halting0.crane.held = none) := by
  refine ⟨⟨fun _ => .inl rfl, ?_, fun h => absurd h (by decide), ?_, ?_, ?_, ?_⟩, by decide +kernel⟩ <;> decide

/-- HALTING with the FETCH's place cycle running, its bin on the fork, and the job's disposal still to come. -/
def haltingLaden : State :=
  { halting0 with
    sensors := { drdy := true, fbn := true }
    queue := { run0.queue with jobs := [fetchJob4 .placing] }
    crane := { halting0.crane with step := some ⟨3, .place, .dispatch, .extend⟩, fork := some .extendR } }

theorem witness_DeadlineOrFaultForcesSealing_fault :
    CraneHeld haltingLaden
    ∧ RaisesSevere (here haltingLaden) haltingLaden (.drdyInactive (here haltingLaden)) .drive
    ∧ haltingLaden = haltingLaden.arrive (here haltingLaden) ∧ haltingLaden.powered = true ∧ haltingLaden.cfg = some c0
      ∧ haltingLaden.station = .shutdown ∧ haltingLaden.fire.state = .halting ∧ haltingLaden.fire.scl = false
      ∧ haltingLaden.crane.held = none ∧ haltingLaden.fire.recordMark = false ∧ haltingLaden.crane.mode = .stopping
      ∧ haltingLaden.crane.step = some ⟨3, .place, .dispatch, .extend⟩
      ∧ haltingLaden.job 3 = some (fetchJob4 .placing) ∧ (∀ k ∈ haltingLaden.queue.jobs, k.num = 3 → k = fetchJob4 .placing)
      ∧ haltingLaden.sensors.fbn = true := by
  refine ⟨⟨fun _ => .inl rfl, ?_, fun h => absurd h (by decide), ?_, ?_, ?_, ?_⟩,
    .inr (.inr (.inr (.inl ⟨rfl, rfl, .inl (by decide)⟩))), by decide +kernel⟩ <;> decide

/-- HALTING with the last axis about to stop: the crane at a count, homed or not, its step named for a job. -/
def stoppingAt (count : Nat) (homed fbn : Bool) (kind : StepKind) (done : Bool) (j : Job) (st : SlotState) : State :=
  { withFire .shutdown { FireUnit.reset with state := .halting, deadline := some 110000000 } with
    sensors := { drdy := true, fkc := true, fbn := fbn }
    dir := { run0.dir with records := [⟨st, 4, false⟩, ⟨.empty, 0, false⟩, ⟨.held, 5, false⟩, ⟨.blocked .missing, 6, false⟩] }
    queue := { run0.queue with jobs := [j] }
    crane := { run0.crane with
      mode := .stopping, named := some ⟨j.num, kind, done⟩
      travel := { drivingAxis count 0 with move := .none, target := none, homed := homed, nextDuty := some 0 } } }

/-- CLEARING with the travel move at rest at the clear bay's centre. -/
def clearing0 : State :=
  { withFire .shutdown { FireUnit.reset with state := .clearing } with
    faults := { FaultUnit.reset with suspension := some ⟨.laden, 3, .toPlace, true, .fire, 1000, 510, none, .movePlace, false⟩ }
    crane := { run0.crane with mode := .clearing, clearing := some .moving, travel := settlingAxis 1100 99980000 none } }

theorem witness_StopsAreCarriedOut :
    (∀ a ∈ [stoppingAt 1095 true false .movePick false (fetchJob4 .toPick) .outbound,
        stoppingAt 1094 true false .pick false (storeJob .picking) .inbound,
        stoppingAt 1200 false true .movePlace false (fetchJob4 .toPlace) .empty,
        stoppingAt 1200 true false .place false (storeJob .placing) .inbound],
      a = a.arrive (here a) ∧ a.powered = true ∧ a.cfg = some c0 ∧ a.station = .shutdown ∧ a.fire.scl = false ∧ a.crane.step = none
        ∧ a.crane.held = none ∧ a.dir.firstOwed = none ∧ a.dir.writeList = [] ∧ a.line.general.length < 8
        ∧ a.fire.state = .halting ∧ a.fire.recordMark = false ∧ a.crane.mode = .stopping ∧ a.crane.fork = none
        ∧ (a.axis .travel).nextDuty = some 0 ∧ (a.axis .lift).duty = 0 ∧ a.crane.homing = none ∧ a.crane.clearing = none
        ∧ a.sensors.fkc = true ∧ a.sensors.drdy = true
        ∧ ∀ j ∈ a.queue.jobs, a.job j.num = some j ∧ a.front.pulling j.num = false)
    ∧ (c0.t0 + c0.clearBay * c0.cb ≤ 1095 + c0.window ∧ 1094 + c0.window < c0.t0 + c0.clearBay * c0.cb
      ∧ (stoppingAt 1095 true false .movePick false (fetchJob4 .toPick) .outbound).slotRec slot1 = some ⟨.outbound, 4, false⟩)
    ∧ (clearing0 = clearing0.arrive (here run0) ∧ clearing0.fire.state = .clearing ∧ clearing0.crane.mode = .clearing
      ∧ clearing0.crane.clearing = some .moving ∧ clearing0.crane.homing = none ∧ clearing0.crane.travel.move = .settling
      ∧ clearing0.crane.travel.target = some 1100 ∧ clearing0.crane.travel.duty = 0
      ∧ clearing0.crane.travel.quietSince + 20000 ≤ clearing0.clock
      ∧ Machine.dist 1100 clearing0.crane.travel.count ≤ c0.window ∧ clearing0.crane.step = none ∧ clearing0.crane.held = none) := by
  decide +kernel

/-- SEALED with the all-clear taken and FIN settled; then REOPENING, after a plain or a forced stop. -/
def cleared0 : State := withFire .shutdown { FireUnit.reset with state := .sealed, scl := true, allClear := true, finLast := 95000000 }
def reopening0 (forced : Bool) : State := withFire .shutdown { FireUnit.reset with state := .reopening, forced := forced, rehome := forced }

theorem witness_ReopeningResumes :
    (cleared0 = cleared0.arrive (here run0) ∧ cleared0.powered = true ∧ cleared0.cfg = some c0 ∧ cleared0.fire.state = .sealed
      ∧ cleared0.fire.allClear = true ∧ cleared0.fire.fin = false ∧ cleared0.fire.finLast + 1000 * c0.finSettle ≤ cleared0.clock
      ∧ cleared0.crane.held = none ∧ cleared0.dir.firstOwed = none ∧ cleared0.dir.writeList = [] ∧ cleared0.crane.step = none
      ∧ cleared0.crane.mode = .stopped ∧ cleared0.crane.clearing = none ∧ cleared0.crane.homing = none
      ∧ cleared0.sensors.sop = false)
    ∧ ∀ b ∈ [true, false],
        reopening0 b = (reopening0 b).arrive (here run0) ∧ (reopening0 b).fire.state = .reopening
          ∧ (reopening0 b).station = .shutdown ∧ (reopening0 b).crane.mode = .stopped ∧ (reopening0 b).crane.step = none
          ∧ (reopening0 b).crane.held = none ∧ (reopening0 b).crane.clearing = none ∧ (reopening0 b).crane.homing = none
          ∧ (reopening0 b).dir.firstOwed = none ∧ (reopening0 b).dir.writeList = []
          ∧ hasSevere (reopening0 b).faults.current = false ∧ (reopening0 b).fire.startPoint = .none
          ∧ (reopening0 b).fire.forced = b ∧ (reopening0 b).fire.rehome = b ∧ (reopening0 b).faults.suspension = none
          ∧ (reopening0 b).queue.jobs = [] ∧ (reopening0 b).sensors.fkc = true ∧ (reopening0 b).sensors.drdy = true
          ∧ anyLimit (reopening0 b).sensors = false := by decide +kernel

/-- REOPENING with a load to begin, a severe fault standing, or homing to begin. -/
def reopeningWith (p : StartPoint) (current : Word) : State :=
  { reopening0 false with
    fire := { (reopening0 false).fire with startPoint := p }, faults := { FaultUnit.reset with current := current } }

theorem witness_ReopeningResumes_rows :
    (∀ p ∈ [(StartPoint.loading, 32#16), (.homing, 32), (.homing, 0)],
      reopeningWith p.1 p.2 = (reopeningWith p.1 p.2).arrive (here run0) ∧ (reopeningWith p.1 p.2).cfg = some c0
        ∧ (reopeningWith p.1 p.2).fire.state = .reopening ∧ (reopeningWith p.1 p.2).station = .shutdown
        ∧ (reopeningWith p.1 p.2).crane.mode = .stopped ∧ (reopeningWith p.1 p.2).fire.startPoint = p.1
        ∧ (reopeningWith p.1 p.2).sensors.fkc = true ∧ anyLimit (reopeningWith p.1 p.2).sensors = false)
    ∧ hasSevere 32#16 = true ∧ hasSevere 0#16 = false := by decide +kernel

/-- REOPENING with a record to serve. -/
def recorded (r : Suspension) (fbn : Bool) (jobs : List Job) (st : SlotState) : State :=
  { reopening0 false with
    sensors := { drdy := true, fkc := true, fbn := fbn }
    dir := { run0.dir with records := [⟨st, 4, false⟩, ⟨.empty, 0, false⟩, ⟨.held, 5, false⟩, ⟨.blocked .missing, 6, false⟩] }
    queue := { run0.queue with jobs := jobs }
    faults := { FaultUnit.reset with suspension := some r } }

/-- A record of job `n` with the crane at a travel count. -/
def record (kind : SuspKind) (n travel : Nat) (stage : Stage) (step : StepKind) (done : Bool) (f : Option FaultName) : Suspension :=
  ⟨kind, n, stage, done, .fire, travel, 510, f, step, false⟩

/-- A STORE stopped before its bin was on the fork, alone or before a waiting call; bins gone from the fork; the crane moved; a step
to give; a jammed slot. -/
def servings : List (Suspension × State) :=
  let q := record .quiet 7 1200 .picking .pick false none
  let f := record .laden 3 1200 .toPlace .movePlace true none
  let p := record .laden 7 1200 .placing .place false none
  let m := record .laden 3 1206 .toPlace .movePlace true none
  let k := record .laden 7 1200 .placing .place false (some .forkJam)
  [(q, recorded q false [storeJob .picking] .inbound),
    (q, recorded q false [storeJob .picking, { fetchJob4 .waiting with bin := 5, slot := some ⟨.left, 2, 1⟩ }] .inbound),
    (f, recorded f false [fetchJob4 .toPlace] .empty), (p, recorded p false [storeJob .placing] .inbound),
    (m, recorded m true [fetchJob4 .toPlace] .empty), (f, recorded f true [fetchJob4 .toPlace] .empty),
    (p, recorded p true [storeJob .placing] .inbound), (k, recorded k true [storeJob .placing] .inbound)]

/-- Each meets the common hypotheses, and its consequences end. -/
theorem witness_RecordIsServed :
    (∀ x ∈ servings, x.2 = x.2.arrive (here x.2) ∧ x.2.powered = true ∧ x.2.cfg = some c0 ∧ x.2.fire.state = .reopening
      ∧ x.2.station = .shutdown ∧ x.2.crane.mode = .stopped ∧ x.2.crane.step = none ∧ x.2.crane.held = none
      ∧ x.2.crane.clearing = none ∧ x.2.crane.homing = none ∧ x.2.dir.firstOwed = none ∧ x.2.dir.writeList = []
      ∧ hasSevere x.2.faults.current = false ∧ x.2.fire.startPoint = .none ∧ x.2.fire.forced = false ∧ x.2.fire.rehome = false
      ∧ x.2.faults.suspension = some x.1 ∧ (x.2.job x.1.job).isSome = true ∧ x.2.line.general.length < 8
      ∧ x.2.front.pulling x.1.job = false ∧ progress (settleWith 4 (after (.sopActive (here x.2)) x.2)) = none)
    ∧ (Machine.dist 1200 1206 = c0.window + 1 ∧ Machine.dist 1200 1200 ≤ c0.window ∧ run0.crane.travel.count = 1200
      ∧ run0.crane.lift.count = 510)
    ∧ servings.map (fun x => jammed x.1 (storeJob .placing)) = [false, false, false, false, false, false, false, true]
    ∧ servings.map (fun x => (after (.sopActive (here x.2)) x.2).faults.suspension.isSome)
      = [false, false, false, false, true, false, false, false] := by decide +kernel

/-! ## Reports and line -/

/-- The beacon timer just run, the general entries full or not. -/
def beaconing (n : Nat) : State :=
  { run0 with
    faults := { run0.faults with beacon := some run0.clock, accrued := 0x4000 }
    line := { run0.line with general := (List.range n).map (fun i => newEntry i (.emptied 0 4) .all none) } }

theorem witness_BeaconIsQueued :
    (∀ n ∈ [0, 7, 8], beaconing n = (beaconing n).arrive (here run0) ∧ (beaconing n).powered = true
      ∧ (beaconing n).cfg = some c0 ∧ (beaconing n).faults.beacon = some run0.clock
      ∧ (∀ e ∈ (beaconing n).line.general, e.isBeacon = false) ∧ (beaconing n).line.general.length = n)
    ∧ 99999999 < run0.clock := by decide +kernel

/-- The line in a mode. -/
def withLine (l : LineUnit) : State := { run0 with line := l }

/-- Hunting again, a run made at an entry, the last falling edge and the hunt's start long ago. -/
def hunting (armed : Bool) (run : Nat) : LineUnit :=
  { run0.line with mode := .hunting, armed := armed, run := run, runEntry := 2, huntEntry := 0, huntStart := 90000000
                   lastFall := 98000000 }

theorem rest_hunting : AtRest (withLine (hunting true 2)) := by constructor <;> decide +kernel

theorem witness_HuntLocksRate :
    AtRest (withLine (hunting true 2))
    ∧ (∀ b ∈ [true, false], ∀ n ∈ [0, 1, 2],
        withLine (hunting b n) = (withLine (hunting b n)).arrive (here run0) ∧ (withLine (hunting b n)).powered = true
          ∧ (withLine (hunting b n)).cfg = some c0 ∧ (hunting b n).mode = .hunting ∧ (hunting b n).armed = b
          ∧ (hunting b n).run = n ∧ (hunting b n).everLocked = true ∧ (withLine (hunting b n)).station ≠ .acquiring)
    ∧ (∀ low ∈ [60, 68], minStart 2 ≤ low ∧ low ≤ maxStart 2 ∧ ∀ k < 2, maxStart k < low)
    ∧ maxStart 5 < 545 ∧ isLead ⟨0xB5, false⟩ = true ∧ (hunting true 2).runEntry = 2 ∧ (hunting true 2).runEntry ≠ 3
      ∧ (∀ k < 3, maxStart k < 120) ∧ minStart 3 ≤ 120
      ∧ (59 < minStart 2 ∧ 59 ≤ maxStart 2 ∧ ∀ k < 2, maxStart k < 59)
      ∧ (∀ n ∈ [charUs 0, charUs 0 - 1], (hunting false 0).lastFall + n ≤ run0.clock ∧
          withLine (hunting false 0) = (withLine (hunting false 0)).arrive { here run0 with line := { high := n } })
      ∧ (hunting true 2).lastFall + 2000000 ≤ run0.clock ∧ (hunting true 2).huntStart + 10000000 ≤ run0.clock := by
  refine ⟨rest_hunting, ?_⟩
  decide +kernel

/-- The loop test. -/
def testing0 : State := { loading0 with station := .acquiring, line := { LineUnit.reset with mode := .loopTest } }

/-- The first lock, by silence, by the time run, or by a third match at entry 2. -/
def acquiring0 : State :=
  { run0 with station := .acquiring, line := { hunting true 0 with everLocked := false, rate := none }, crane := Crane.reset }

theorem witness_AcquisitionRuns :
    (CraneHeld testing0 ∧ testing0 = testing0.arrive (here testing0) ∧ testing0.powered = true ∧ testing0.cfg = some c0
      ∧ testing0.line.mode = .loopTest ∧ testing0.fire.state = .calm
      ∧ (loopTestChars c0.address).isPrefixOf [] = false
      ∧ (loopTestChars c0.address).isPrefixOf (loopTestChars c0.address ++ [⟨9, false⟩]) = true)
    ∧ acquiring0 = acquiring0.arrive (here run0) ∧ acquiring0.powered = true ∧ acquiring0.cfg = some c0
      ∧ acquiring0.station = .acquiring ∧ acquiring0.line.mode = .hunting ∧ acquiring0.line.everLocked = false
      ∧ acquiring0.line.lastFall + 2000000 ≤ acquiring0.clock ∧ acquiring0.fire.state = .calm
      ∧ hasSevere acquiring0.faults.current = false ∧ acquiring0.crane.held = none ∧ acquiring0.crane.clearing = none
      ∧ acquiring0.dir.firstOwed = none ∧ acquiring0.dir.writeList = [] ∧ anyLimit acquiring0.sensors = false
      ∧ acquiring0.sensors.fkc = true ∧ acquiring0.sensors.drdy = true ∧ acquiring0.sensors.vhs = false
      ∧ acquiring0.line.huntStart + 10000000 ≤ acquiring0.clock ∧ acquiring0.line.armed = true ∧ acquiring0.line.runEntry = 2
      ∧ { acquiring0.line with run := 2 }.run = 2 ∧ isLead ⟨0xB5, false⟩ = true ∧ minStart 2 ≤ 60 ∧ 60 ≤ maxStart 2
      ∧ ∀ k < 2, maxStart k < 60 :=
  ⟨⟨craneHeld_moving (by decide +kernel), by decide +kernel⟩, by decide +kernel⟩

/-- The receiver in a state with the characters it holds. -/
def receiving (rx : RxState) (buf : List Byte) : LineUnit := { run0.line with rx := rx, rxBuf := buf, idleFrom := 99999955 }

theorem witness_CharactersMakeFrames :
    (∀ p ∈ [(RxState.awaitLead, []), (.awaitAddress, []), (.header, [9, 4]), (.header, [9, 4, 7]), (.payload, [9, 4, 7, 2]),
        (.payload, [9, 4, 7, 2, 1]), (.check, [9, 4, 7, 0, 0xFF])],
      withLine (receiving p.1 p.2) = (withLine (receiving p.1 p.2)).arrive (here run0) ∧ (withLine (receiving p.1 p.2)).powered = true
        ∧ (receiving p.1 p.2).mode = .locked ∧ (receiving p.1 p.2).attempt = none ∧ (receiving p.1 p.2).rx = p.1
        ∧ (receiving p.1 p.2).rxBuf = p.2 ∧ (receiving p.1 p.2).tally.length < 31
        ∧ (List.replicate 31 99000000).filter (fun t => decide (run0.clock ≤ t + 1000000)) = List.replicate 31 99000000
        ∧ [98999999].filter (fun t => decide (run0.clock ≤ t + 1000000)) = [])
    ∧ ([9, 4, 7, 2].length + 1 ≤ 4 + byteAt [9, 4, 7, 2] 3 ∧ ([9, 4, 7, 2, 1] : List Byte).length + 1 = 4 + byteAt [9, 4, 7, 2, 1] 3)
    ∧ (([9, 4, 7, 0, 0xFF] : List Byte) = [9, 4, 7, 0] ++ [0xFF] ∧ ([9, 4, 7, 0] : List Byte).length = 4 + byteAt [9, 4, 7, 0, 0xFF] 3)
    ∧ 24 < (25 : Byte).toNat ∧ (24 : Byte).toNat ≤ 24 ∧ isLead ⟨7, false⟩ = false
      ∧ (receiving .header [9]).idleFrom + 2 * charUs 0 < run0.clock := by decide +kernel

/-- A complete frame at hand, and a receive queue with frames in it. -/
def complete (bytes : List Byte) (n : Nat) : State :=
  withLine { run0.line with rxDone := some bytes, rxQueue := List.replicate n ⟨4, .cancel 1 1⟩ }

/-- FETCH 4, tag 40, from station 17 to all; the same with a bin of 0; to station 8; ALARM and ALLCLEAR from station 4. -/
theorem witness_FramesAreRoutedAndStatsAnswered :
    (∀ n ∈ [0, 5, 6], complete [0x3F, 17, 1, 4, 0, 0, 4, 40] n = (complete [0x3F, 17, 1, 4, 0, 0, 4, 40] n).arrive (here run0)
      ∧ (complete [0x3F, 17, 1, 4, 0, 0, 4, 40] n).powered = true ∧ (complete [0x3F, 17, 1, 4, 0, 0, 4, 40] n).cfg = some c0
      ∧ (complete [0x3F, 17, 1, 4, 0, 0, 4, 40] n).line.rxQueue.length = n)
    ∧ addressAccepted c0 0x3F = true ∧ addressAccepted c0 8 = false
    ∧ parseFrame 4 [0x3F, 17, 1, 4, 0, 0, 4, 40] = some ⟨17, .fetch 4 40⟩ ∧ parseFrame 4 [0x3F, 17, 1, 3, 0, 0, 4] = none
    ∧ parseFrame 4 [0x3F, 4, 0x0C, 2, 8, 1] = some ⟨4, .alarm 8 1⟩ ∧ (8).testBit c0.zone = true
    ∧ parseFrame 4 [0x3F, 4, 0x0D, 1, 8] = some ⟨4, .allclear 8⟩ ∧ 4 ≠ c0.panel ∧ sealed0.fire.state = .sealed := by decide +kernel

theorem witness_FramesAreRoutedAndStatsAnswered_stats :
    Handed c0 ⟨17, .stats 0⟩ run0 run0 ∧ Handed c0 ⟨17, .stats 1⟩ run0 run0 ∧ run0 = run0.arrive (here run0)
      ∧ run0.powered = true ∧ run0.line.general.length < 8 :=
  ⟨handed_now (by decide +kernel), handed_now (by decide +kernel), rfl, rfl, by decide +kernel⟩

/-- A frame waiting, or under an attempt. -/
def sending (e : TxEntry) (att : Option Attempt) (idle : Nat) : State :=
  withLine { run0.line with general := [e], nextOrder := 1, attempt := att, idleFrom := idle }

/-- This station's EMPTIED, or its BEACON reporting LOOP; attempted as often as given. -/
def emptiedEntry (attempts : Nat) : TxEntry := { newEntry 0 (.emptied 2 4) .all none with attempts := attempts }
def beaconEntry : TxEntry :=
  { newEntry 0 (.beacon .run .calm 0 1 4 (some .loop) 0x2000 0x2000) .all none with reported := 0x2000, attempts := 1 }

/-- Its access gap, in µs. -/
def gap0 : Nat := accessGap 9 (emptiedEntry 0).body.cls * charUs 0

theorem witness_AttemptsSendOrCollide :
    (∀ idle ∈ [run0.clock - gap0, run0.clock - gap0 + 1],
      sending (emptiedEntry 0) none idle = (sending (emptiedEntry 0) none idle).arrive (here run0)
        ∧ (sending (emptiedEntry 0) none idle).powered = true ∧ (sending (emptiedEntry 0) none idle).cfg = some c0
        ∧ (sending (emptiedEntry 0) none idle).line.head = some (emptiedEntry 0)
        ∧ (sending (emptiedEntry 0) none idle).line.mode = .locked ∧ (sending (emptiedEntry 0) none idle).line.attempt = none
        ∧ (sending (emptiedEntry 0) none idle).line.rx = .awaitLead)
    ∧ (run0.clock - gap0 + (accessGap c0.address (emptiedEntry 0).body.cls + (emptiedEntry 0).backoff)
          * charUs (run0.line.rate.getD 0) ≤ run0.clock
      ∧ run0.clock < run0.clock - gap0 + 1 + (accessGap c0.address (emptiedEntry 0).body.cls + (emptiedEntry 0).backoff)
          * charUs (run0.line.rate.getD 0))
    ∧ (∀ e ∈ [emptiedEntry 1, emptiedEntry 15, emptiedEntry 16, beaconEntry], ∀ m ∈ [[], [⟨0xB5, false⟩], [⟨0xB5, false⟩, ⟨9, true⟩]],
        sending e (some ⟨0, m, 0⟩) 0 = (sending e (some ⟨0, m, 0⟩) 0).arrive { here run0 with line := { readBack := m } }
          ∧ (sending e (some ⟨0, m, 0⟩) 0).line.attempt = some ⟨0, m, 0⟩ ∧ (sending e (some ⟨0, m, 0⟩) 0).line.reserved = none
          ∧ (sending e (some ⟨0, m, 0⟩) 0).line.idleFrom ≤ run0.clock
          ∧ (sending e (some ⟨0, m, 0⟩) 0).line.general.find? (fun x => x.order == 0) = some e ∧ e.withdrawn = false
          ∧ e.offer = none ∧ (sending e (some ⟨0, m, 0⟩) 0).line.mode = .locked)
    ∧ ([⟨0xB5, false⟩].isPrefixOf ([⟨0xB5, false⟩] : List LineChar) = true
      ∧ [⟨0xB5, false⟩].isPrefixOf ([⟨0xAD, false⟩] : List LineChar) = false
      ∧ [⟨0xB5, false⟩].isPrefixOf ([] : List LineChar) = false)
    ∧ (beaconEntry.isBeacon = true ∧ (emptiedEntry 1).isBeacon = false ∧ (emptiedEntry 15).attempts < 16
      ∧ 16 ≤ (emptiedEntry 16).attempts
      ∧ ∀ x ∈ (sending beaconEntry (some ⟨0, [], 0⟩) 0).line.general, x.isBeacon = true → x.order = 0) := by decide +kernel

/-- A BID or a FETCH's frame under an attempt since a moment, the offer's entry as given. -/
def sendingBid (own : OwnState) (attempts since : Nat) : State :=
  { offered own with line := { run0.line with
      general := [{ newEntry 0 (.bid 2 50 4 1874) .all (some 0) with attempts := attempts }], nextOrder := 1
      attempt := some ⟨0, [⟨0xB5, false⟩, ⟨9, true⟩], since⟩, idleFrom := 0 } }

theorem witness_AttemptsSendOrCollide_offers :
    (∀ own ∈ [OwnState.none, .bidPending, .bidSent], ∀ n ∈ [1, 16],
      let a := sendingBid own n 99999911
      a = a.arrive (here run0) ∧ a.powered = true ∧ a.cfg = some c0 ∧ a.line.reserved = none ∧ a.line.idleFrom ≤ a.clock
        ∧ (a.line.general.find? (fun x => x.order == 0)).map (·.offer) = some (some 0)
        ∧ a.offers.entries.find? (fun x => x.serial == 0) = some (entry0 2 0 own) ∧ (entry0 2 0 own).serial = 0
        ∧ (entry0 2 0 own).withheld = none ∧ (newEntry 0 (.bid 2 50 4 1874) .all (some 0)).isBeacon = false)
    ∧ ([⟨0xB5, false⟩].isPrefixOf ([⟨0xB5, false⟩, ⟨9, true⟩] : List LineChar) = true
      ∧ [⟨0xB5, false⟩, ⟨9, true⟩].isPrefixOf ([⟨0xB5, false⟩] : List LineChar) = false)
    ∧ run0.clock < 99999957 + (1 + 1) * charUs (run0.line.rate.getD 0)
      ∧ 99999956 + (1 + 1) * charUs (run0.line.rate.getD 0) ≤ run0.clock := by decide +kernel

/-! ## Invariants: states that have them, and that step -/

theorem witness_EveryStepHoldsCrane : CraneHeld { run0 with pending := [.binLost (here run0)] }
    ∧ ∃ t, step { run0 with pending := [.binLost (here run0)] } = .next t :=
  ⟨craneHeld_moving (by decide +kernel), _, rfl⟩

theorem witness_EveryStepKeepsRoom : Bounded { fullQueue with pending := [.fetch (here run0) 17 4 40] }
    ∧ ∃ t, step { fullQueue with pending := [.fetch (here run0) 17 4 40] } = .next t :=
  ⟨by constructor <;> decide +kernel, _, rfl⟩

theorem witness_EveryStepCountsEmpty :
    EmptyCounted { run0 with pending := [.fetch (here run0) 17 4 40] } ∧ RecordsWhole { run0 with pending := [.fetch (here run0) 17 4 40] }
      ∧ MemoryOrdered { run0 with pending := [.fetch (here run0) 17 4 40] }
      ∧ ∃ t, step { run0 with pending := [.fetch (here run0) 17 4 40] } = .next t :=
  ⟨by unfold EmptyCounted; decide +kernel, ⟨.inr ⟨c0, rfl, by decide +kernel⟩, by decide⟩, by unfold MemoryOrdered; decide +kernel, _, rfl⟩

theorem witness_EveryStepKeepsRanges :
    Numbered { fullQueue with pending := [.cancel (here run0) 17 4 40] } ∧ Ranged { fullQueue with pending := [.cancel (here run0) 17 4 40] }
      ∧ ∃ t, step { fullQueue with pending := [.cancel (here run0) 17 4 40] } = .next t := by
  refine ⟨by constructor <;> decide +kernel, ⟨?_, by decide, by decide, by decide⟩, _, rfl⟩
  intro c hc
  cases hc
  decide

end Sys2Proof.Tests
end

section
/-! SUPPORT. Where a new job stands (R30): the two list insertions said by position, and `placeJob` through them. -/

namespace Sys2Proof.Machine

/-! ## The list insertions -/

theorem insertAfterLast_eq_none {α : Type} {p : α → Bool} (x : α) :
    ∀ {ys : List α}, (∀ y ∈ ys, p y = false) → insertAfterLast p x ys = none
  | [], _ => rfl
  | y :: ys, h => by
    obtain ⟨hy, hys⟩ := List.forall_mem_cons.mp h
    simp [insertAfterLast, insertAfterLast_eq_none x hys, hy]

theorem insertAfterLast_append_cons {α : Type} {p : α → Bool} (x : α) {k : α} {back : List α} (hk : p k = true)
    (hback : ∀ y ∈ back, p y = false) :
    ∀ front : List α, insertAfterLast p x (front ++ k :: back) = some (front ++ k :: x :: back)
  | [] => by simp [insertAfterLast, insertAfterLast_eq_none x hback, hk]
  | y :: front => by simp [insertAfterLast, insertAfterLast_append_cons x hk hback front]

theorem insertBefore_eq_none {α : Type} {p : α → Bool} (x : α) :
    ∀ {ys : List α}, (∀ y ∈ ys, p y = false) → insertBefore p x ys = none
  | [], _ => rfl
  | y :: ys, h => by
    obtain ⟨hy, hys⟩ := List.forall_mem_cons.mp h
    simp [insertBefore, insertBefore_eq_none x hys, hy]

theorem insertBefore_append_cons {α : Type} {p : α → Bool} (x : α) {k : α} {back : List α} (hk : p k = true) :
    ∀ {front : List α}, (∀ y ∈ front, p y = false) →
      insertBefore p x (front ++ k :: back) = some (front ++ x :: k :: back)
  | [], _ => by simp [insertBefore, hk]
  | y :: front, h => by
    obtain ⟨hy, hfront⟩ := List.forall_mem_cons.mp h
    simp [insertBefore, hy, insertBefore_append_cons x hk hfront]

/-! ## The jobs a new FETCH looks for -/

/-- A STORE neither active nor promoted: a new FETCH goes ahead of it (R30). -/
def Job.openStore (j : Job) : Bool := j.isStore && !j.active && !j.promoted

@[simp] theorem Job.waitingFetch_eq_true {j : Job} : j.waitingFetch = true ↔ j.kind = .fetch ∧ j.stage = .waiting := by
  simp [Job.waitingFetch, Job.isFetch]

@[simp] theorem Job.waitingFetch_eq_false {j : Job} : j.waitingFetch = false ↔ (j.kind = .fetch → j.stage ≠ .waiting) := by
  simp [Job.waitingFetch, Job.isFetch]

@[simp] theorem Job.openStore_eq_true {j : Job} :
    j.openStore = true ↔ j.kind = .store ∧ j.active = false ∧ j.promoted = false := by
  simp [Job.openStore, Job.isStore, and_assoc]

@[simp] theorem Job.openStore_eq_false {j : Job} :
    j.openStore = false ↔ (j.kind = .store → j.active = true ∨ j.promoted = true) := by
  cases hactive : j.active <;> simp [Job.openStore, Job.isStore, hactive]

/-! ## The place of a new job -/

theorem placeJob_store {j : Job} (hj : j.kind = .store) (jobs : List Job) : placeJob j jobs = jobs ++ [j] := by
  simp [placeJob, hj]

/-- The two searches of R30 for a new FETCH, the second made when the first finds nothing. -/
theorem placeJob_fetch {j : Job} (hj : j.kind = .fetch) (jobs : List Job) :
    placeJob j jobs
      = ((insertAfterLast Job.waitingFetch j jobs).or (insertBefore Job.openStore j jobs)).getD (jobs ++ [j]) := by
  have hopen : (fun k : Job => k.isStore && !k.active && !k.promoted) = Job.openStore := rfl
  simp only [placeJob, hj, hopen]
  cases insertAfterLast Job.waitingFetch j jobs with
  | some js => rfl
  | none => cases insertBefore Job.openStore j jobs <;> rfl

theorem placeJob_behind_last_waitingFetch {j k : Job} {back : List Job} (hj : j.kind = .fetch) (hk : k.waitingFetch = true)
    (hback : ∀ x ∈ back, x.waitingFetch = false) (front : List Job) :
    placeJob j (front ++ k :: back) = front ++ k :: j :: back := by
  simp [placeJob_fetch hj, insertAfterLast_append_cons j hk hback]

theorem placeJob_ahead_of_first_openStore {j k : Job} {front back : List Job} (hj : j.kind = .fetch)
    (hnone : ∀ x ∈ front ++ k :: back, x.waitingFetch = false) (hk : k.openStore = true)
    (hfront : ∀ x ∈ front, x.openStore = false) :
    placeJob j (front ++ k :: back) = front ++ j :: k :: back := by
  simp [placeJob_fetch hj, insertAfterLast_eq_none j hnone, insertBefore_append_cons j hk hfront]

theorem placeJob_fetch_last {j : Job} {jobs : List Job} (hj : j.kind = .fetch)
    (hnone : ∀ x ∈ jobs, x.waitingFetch = false) (hstore : ∀ x ∈ jobs, x.openStore = false) :
    placeJob j jobs = jobs ++ [j] := by
  simp [placeJob_fetch hj, insertAfterLast_eq_none j hnone, insertBefore_eq_none j hstore]

/-- Settles O13: each row of R30 is the position at which the searches of `placeJob_fetch` end. -/
theorem newJobTakesItsPlace : Obligations.NewJobTakesItsPlace := by
  intro j jobs front back
  refine ⟨fun hj => placeJob_store hj jobs, fun hj => ⟨?behindLast, fun hnone => ⟨?aheadOfStore, ?last⟩⟩⟩
  case behindLast =>
    rintro k rfl hkind hstage hback
    exact placeJob_behind_last_waitingFetch hj (Job.waitingFetch_eq_true.mpr ⟨hkind, hstage⟩)
      (fun x hx => Job.waitingFetch_eq_false.mpr (hback x hx)) front
  case aheadOfStore =>
    rintro k rfl hkind hactive hpromoted hfront
    exact placeJob_ahead_of_first_openStore hj (fun x hx => Job.waitingFetch_eq_false.mpr (hnone x hx))
      (Job.openStore_eq_true.mpr ⟨hkind, hactive, hpromoted⟩) (fun x hx => Job.openStore_eq_false.mpr (hfront x hx))
  case last =>
    intro hstore
    exact placeJob_fetch_last hj (fun x hx => Job.waitingFetch_eq_false.mpr (hnone x hx))
      (fun x hx => Job.openStore_eq_false.mpr (hstore x hx))

end Sys2Proof.Machine
end

section
/-! SUPPORT. Rounding half to even (R88): `roundHalfEven` by the whole quotient and the remainder, and the figures made with it. -/

namespace Sys2Proof.Machine

/-! ## The three cases of the remainder -/

/-- The two readings of x ÷ y agree: a quotient and a remainder below the divisor are those of `/` and `%`. -/
theorem roundHalfEven_mul_add {y r : Nat} (hr : r < y) (q : Nat) :
    roundHalfEven (q * y + r) y = if y < 2 * r then q + 1 else if 2 * r < y then q else if q % 2 = 0 then q else q + 1 := by
  have hquot : (q * y + r) / y = q := by
    rw [Nat.mul_comm, Nat.mul_add_div (Nat.zero_lt_of_lt hr), Nat.div_eq_of_lt hr, Nat.add_zero]
  have hrem : (q * y + r) % y = r := by
    rw [Nat.mul_add_mod_self_right, Nat.mod_eq_of_lt hr]
  simp only [roundHalfEven, hquot, hrem]

theorem roundHalfEven_above_half {y r : Nat} (hr : r < y) (habove : y < 2 * r) (q : Nat) :
    roundHalfEven (q * y + r) y = q + 1 := by
  rw [roundHalfEven_mul_add hr, if_pos habove]

theorem roundHalfEven_below_half {y r : Nat} (hr : r < y) (hbelow : 2 * r < y) (q : Nat) :
    roundHalfEven (q * y + r) y = q := by
  rw [roundHalfEven_mul_add hr, if_neg hbelow.not_gt, if_pos hbelow]

theorem roundHalfEven_at_half {y r : Nat} (hr : r < y) (hhalf : 2 * r = y) (q : Nat) :
    roundHalfEven (q * y + r) y = if q % 2 = 0 then q else q + 1 := by
  rw [roundHalfEven_mul_add hr, if_neg hhalf.not_gt, if_neg hhalf.not_lt]

/-! ## Its three uses -/

theorem Front.pcs_of_period {f : Front} {p : Nat} (hvalid : f.indexValid = true) (hmoving : f.stopped = false)
    (hperiod : f.period = some p) : f.pcs = some (roundHalfEven p 10) := by
  simp [Front.pcs, hvalid, hmoving, hperiod]

theorem State.remaining_of_start (s : State) {j : Job} {e : StartEstimate} (hstart : j.start = some e) :
    s.remaining j = e.estimate - min (roundHalfEven (s.clock / 1000 - e.moment) 10) 65535 := by
  simp [State.remaining, State.msNow, hstart]

theorem State.fillPenalty_of_records {s : State} (hrecords : s.dir.records ≠ []) (c : Config) :
    s.fillPenalty c
      = roundHalfEven (c.fillWeight * (s.dir.records.length - s.dir.emptyCount)) s.dir.records.length := by
  simp [State.fillPenalty, Directory.capacity, hrecords]

/-- Settles O34: the three cases of the remainder against half the divisor, the examples evaluated, and the three uses. -/
theorem halvesRoundToEven : Obligations.HalvesRoundToEven := by
  refine ⟨?rounds, by decide, by decide, by decide, by decide, by decide, ?period, ?elapsed, ?fill⟩
  case rounds =>
    rintro _ y q r - rfl hr
    exact ⟨fun habove => roundHalfEven_above_half hr habove q, fun hbelow => roundHalfEven_below_half hr hbelow q,
      fun hhalf => roundHalfEven_at_half hr hhalf q⟩
  case period => exact fun f p hvalid hmoving hperiod => Front.pcs_of_period hvalid hmoving hperiod
  case elapsed => exact fun s j e hstart => s.remaining_of_start hstart
  case fill => exact fun s c hrecords => State.fillPenalty_of_records hrecords c

end Sys2Proof.Machine
end

section
/-! SUPPORT. The leg time (R90): one axis's term, the larger of the two, and its bound over the valid configurations (R179). -/

namespace Sys2Proof.Machine

/-! ## Distances -/

@[simp] theorem dist_self (a : Nat) : dist a a = 0 := by simp [dist]

theorem dist_comm (a b : Nat) : dist a b = dist b a := Nat.add_comm _ _

/-- A distance counted in either direction. -/
theorem dist_eq_of_add {a b d : Nat} (h : a + d = b ∨ b + d = a) : dist a b = d := by
  unfold dist
  omega

theorem dist_le {a b n : Nat} (ha : a ≤ n) (hb : b ≤ n) : dist a b ≤ n := by
  unfold dist
  omega

/-! ## One axis's term -/

/-- A term of the leg time: the ramp overhead and `per` for each of `d` bays or levels, or 0 when the axis stands still. -/
def legTerm (ramp per d : Nat) : Nat := if d = 0 then 0 else ramp + d * per

@[simp] theorem legTerm_zero (ramp per : Nat) : legTerm ramp per 0 = 0 := if_pos rfl

theorem legTerm_le {ramp per d rampMax perMax dMax : Nat} (hramp : ramp ≤ rampMax) (hper : per ≤ perMax) (hd : d ≤ dMax) :
    legTerm ramp per d ≤ rampMax + dMax * perMax := by
  unfold legTerm
  split
  · exact Nat.zero_le _
  · exact Nat.add_le_add hramp (Nat.mul_le_mul hd hper)

/-! ## The leg -/

theorem leg_eq_max (c : Config) (p q : Pos) :
    leg c p q = max (legTerm c.rt c.tb (dist p.bay q.bay)) (legTerm c.rl c.tl (dist p.level q.level)) := rfl

theorem leg_comm (c : Config) (p q : Pos) : leg c p q = leg c q p := by
  simp only [leg_eq_max, dist_comm p.bay, dist_comm p.level]

@[simp] theorem leg_self (c : Config) (p : Pos) : leg c p p = 0 := by simp [leg_eq_max]

/-- The ranges of R179 a leg depends on. -/
theorem Config.leg_ranges_of_valid {c : Config} (hc : Config.valid c = true) :
    c.bays ≤ 64 ∧ c.levels ≤ 16 ∧ c.tb ≤ 500 ∧ c.tl ≤ 500 ∧ c.rt ≤ 2000 ∧ c.rl ≤ 2000 := by
  simp only [Config.valid, within, Bool.and_eq_true, decide_eq_true_eq] at hc
  omega

/-- R90's bound: 64 bays at 500 cs and a ramp of 2000 cs. The lift term, of at most 16 levels, stays below it. -/
theorem leg_le_of_valid {c : Config} (hc : Config.valid c = true) {p q : Pos} (hpb : p.bay ≤ c.bays) (hqb : q.bay ≤ c.bays)
    (hpl : p.level ≤ c.levels) (hql : q.level ≤ c.levels) : leg c p q ≤ 34000 := by
  obtain ⟨hbays, hlevels, htb, htl, hrt, hrl⟩ := Config.leg_ranges_of_valid hc
  have htravel : legTerm c.rt c.tb (dist p.bay q.bay) ≤ 2000 + 64 * 500 :=
    legTerm_le hrt htb ((dist_le hpb hqb).trans hbays)
  have hlift : legTerm c.rl c.tl (dist p.level q.level) ≤ 2000 + 16 * 500 :=
    legTerm_le hrl htl ((dist_le hpl hql).trans hlevels)
  rw [leg_eq_max]
  omega

/-! ## The longest leg -/

/-- An axis of the longest aisle, within its ranges and relations (R179). -/
def longestAisleAxis : AxisConfig :=
  { home := 1000, duty := ⟨100, 300, 600, 1000⟩, threshold := ⟨0, 50, 100, 200⟩, minPeriod := ⟨1000, 500, 300, 200⟩
    stall := ⟨500, 300, 200, 100⟩ }

/-- A valid configuration with 64 bays, the longest travel time per bay and the longest travel ramp. -/
def longestAisle : Config :=
  { address := 1, groupMask := 0, zone := 0, panel := 20, maintenance := 21, preferredRate := 0, faces := 1, bays := 64
    levels := 1, clearBay := 1, t0 := 1000, cb := 100, v0 := 500, cl := 100, lo := 10, travel := longestAisleAxis
    lift := longestAisleAxis, window := 5, carriers := 4, tb := 500, tl := 500, rt := 2000, rl := 2000, fork := 350
    forkLimit := 5000, homeLimit := 60000, pusherPulse := 100, pusherLimit := 500, fillWeight := 100, bidWindow := 400
    storePatience := 60000, fireDeadline := 30000, shutterLimit := 20000, finSettle := 5000, beaconPeriod := 10000 }

theorem longestAisle_valid : Config.valid longestAisle = true := by decide

theorem leg_longestAisle : leg longestAisle ⟨0, 1⟩ ⟨64, 1⟩ = 34000 := by decide

/-- Settles O35: the leg is the larger of two terms in the distances, which are alike both ways and bounded by the ranges. -/
theorem legIsItsLongerAxis : Obligations.LegIsItsLongerAxis := by
  rintro c b1 l1 b2 l2 db dl _ _ hb hl rfl rfl
  refine ⟨?larger, leg_comm c _ _, leg_self c _, ?bounded, longestAisle, longestAisle_valid, rfl, leg_longestAisle⟩
  case larger => rw [leg_eq_max, dist_eq_of_add hb, dist_eq_of_add hl, legTerm, legTerm]
  case bounded =>
    intro hc hb1 hb2 _ _ hl1 hl2
    exact leg_le_of_valid hc hb1 hb2 hl1 hl2

end Sys2Proof.Machine
end

section
/-! SUPPORT. The commands and their queue: reset, the supply, the front command; and the crane of a homing station that
`CraneHeld` lets keep a step. -/

namespace Sys2Proof.Machine

set_option Elab.async false

open Sys2Proof

/-! ## The front command -/

/-- Settles O1: `step` is the match on the queue. -/
theorem stepRunsFrontCommand : Obligations.StepRunsFrontCommand := by
  refine ⟨fun c rest s h => ?_, fun s h => ?_⟩
  · unfold step
    rw [h]
    rfl
  · unfold step
    rw [h]

/-! ## The supply -/

/-- A command other than the supply's acts by `whenOn`, and so not at all without power (log 8). -/
theorem exec_unpowered {i : Instr} {s : State} (h : s.powered = false) (hon : ∀ pins, i ≠ .powerOn pins)
    (hoff : i ≠ .powerOff) (hreset : i ≠ .nrstActive) : exec i s = .next s := by
  cases i
  case powerOn pins => exact absurd rfl (hon pins)
  case powerOff => exact absurd rfl hoff
  case nrstActive => exact absurd rfl hreset
  case endLimitSwitch now w => exact whenOn_unpowered (now := now) (act := fun t => settle (axisFault .limit (limitAxis w) _)) h
  case sclActive now => exact whenOn_unpowered (now := now) (act := fun t => settle _) h
  case sopActive now => exact whenOn_unpowered (now := now) (act := fun t => settle _) h
  all_goals exact whenOn_unpowered h

/-- Settles O3: the pins and the power-on values are read off `poweredOn` and `unpowered`. -/
theorem supplyIsFollowed : Obligations.SupplyIsFollowed := by
  refine ⟨fun pins s => ⟨poweredOn pins s, rfl, ?_⟩, fun s => ⟨unpowered s, rfl, rfl, rfl, ?_⟩, fun c s h => exec_unpowered h⟩
  · refine ⟨rfl, rfl, rfl, rfl, rfl, rfl, rfl, rfl, rfl, rfl, ?axes, ?rest⟩
    case axes =>
      intro a
      cases a <;> exact ⟨rfl, rfl, rfl, rfl, rfl, rfl, rfl, rfl, rfl, rfl, rfl, rfl, rfl⟩
    case rest =>
      have primary : (poweredOn pins s).primary = none := show primaryOf 0 = none by decide
      repeat' apply And.intro
      all_goals first | exact primary | rfl
  · repeat' apply And.intro
    all_goals rfl

/-! ## Reset -/

/-- Settles O60: nothing is queued, driven or held after reset. -/
theorem resetHasInvariants : Obligations.ResetHasInvariants := by
  refine ⟨?held, ⟨?_, ?_, ?_, ?_, ?_⟩, rfl, ⟨.inl rfl, fun _ => rfl⟩, rfl, ⟨?_, ?_, ?_, ?_⟩, ?_, ?_, ?_, ?_⟩
  case held => exact ⟨by decide, by decide, (nomatch ·), by decide, by decide, by decide, by decide⟩
  all_goals decide

/-! ## A homing station with a step in progress -/

/-- A station homing its lift while a step of its crane waits for both moves: `CraneHeld` rules it out no more than R58 names
it, and the step is taken up as FIN settles. -/
def homingWithStep : State :=
  { State.reset with
    station := .homing
    config := some longestAisle
    pending := [.finSettled ⟨0, {}, {}⟩]
    front := { Front.reset with intake := true }
    crane := { Crane.reset with
      mode := .homing, homing := some (.toward .lift), step := some ⟨0, .movePick, .intake, .moving⟩ } }

theorem craneHeld_homingWithStep : CraneHeld homingWithStep :=
  ⟨by decide, by decide, (nomatch ·), by decide, by decide, by decide, by decide⟩

/-- The step goes on into its pick, the mode is STEP, and the homing drive stays named beside it. -/
theorem step_homingWithStep :
    ∃ t, step homingWithStep = .next t ∧ t.crane.mode = .step ∧ t.crane.homing = some (.toward .lift) :=
  ⟨_, rfl, by decide +kernel, by decide +kernel⟩

/-- Refutes O56: `CraneHeld` allows a step in progress beside homing; with both axes at rest the step goes on in mode STEP,
and homing is then left outside its mode. -/
theorem not_everyStepHoldsCrane : ¬ Obligations.EveryStepHoldsCrane := by
  rintro ⟨keeps, -⟩
  obtain ⟨t, hstep, hmode, hhoming⟩ := step_homingWithStep
  have held := (keeps _ _ craneHeld_homingWithStep hstep).homing (by rw [hhoming]; rfl)
  rw [hmode] at held
  cases held

end Sys2Proof.Machine
end

section
/-! SUPPORT. What every operation keeps: the room of each queue (R10, R28, R119, R196, R197), the EMPTY count (R3), the
records whole, the record memory in its form, the job numbers different (R24) and the counts in their ranges; and the
commands waiting. One relation holds them together, `Keeps`, and each operation of the model is in it. -/

namespace Sys2Proof.Machine

set_option Elab.async false

open Sys2Proof

/-! ## Per unit -/

/-- The write list stays within its room, the EMPTY count right, and the records as many as they were or none. -/
structure KeepsDir (d e : Directory) : Prop where
  writes : d.writeList.length ≤ 4 → e.writeList.length ≤ 4
  empty : d.emptyCount = countEmpty d.records → e.emptyCount = countEmpty e.records
  records : e.records.length = d.records.length ∨ e.records = []

/-- The queue stays within its room, its numbers different and in their range. -/
structure KeepsQueue (q r : JobQueue) : Prop where
  room : q.jobs.length ≤ 8 → r.jobs.length ≤ 8
  counter : q.counter ≤ 255 → r.counter ≤ 255
  byte : q.jobs.length ≤ 8 → q.counter ≤ 255 → (∀ j ∈ q.jobs, j.num ≤ 255) → ∀ j ∈ r.jobs, j.num ≤ 255
  distinct : q.jobs.length ≤ 8 → (q.jobs.map (·.num)).Nodup → (r.jobs.map (·.num)).Nodup

/-- The axis's count and step lie in their ranges. -/
def Axis.InRange (x : Axis) : Prop := x.count ≤ 65535 ∧ x.step ≤ 3

/-- Both axes stay in their ranges. -/
def KeepsCrane (c d : Crane) : Prop := c.travel.InRange ∧ c.lift.InRange → d.travel.InRange ∧ d.lift.InRange

/-- The general entries and the receive queue stay within their room. -/
structure KeepsLine (l m : LineUnit) : Prop where
  general : l.general.length ≤ 8 → m.general.length ≤ 8
  received : l.rxQueue.length ≤ 6 → m.rxQueue.length ≤ 6

/-- What leads from one state to the next inside a command. -/
structure Keeps (s t : State) : Prop where
  pending : t.pending = s.pending
  bounded : Bounded s → Bounded t
  emptyCounted : EmptyCounted s → EmptyCounted t
  recordsWhole : RecordsWhole s → RecordsWhole t
  memoryOrdered : MemoryOrdered s → MemoryOrdered t
  numbered : Numbered s → Numbered t
  ranged : Ranged s → Ranged t

theorem KeepsDir.refl (d : Directory) : KeepsDir d d := ⟨id, id, .inl rfl⟩

theorem KeepsDir.trans {a b c : Directory} (h : KeepsDir a b) (k : KeepsDir b c) : KeepsDir a c where
  writes := k.writes ∘ h.writes
  empty := k.empty ∘ h.empty
  records := by
    rcases k.records with hk | hk
    · rcases h.records with hh | hh
      · exact .inl (hk.trans hh)
      · exact .inr (List.length_eq_zero_iff.mp (by rw [hk, hh]; rfl))
    · exact .inr hk

theorem Keeps.refl (s : State) : Keeps s s := ⟨rfl, id, id, id, id, id, id⟩

theorem Keeps.trans {s t u : State} (h : Keeps s t) (k : Keeps t u) : Keeps s u :=
  ⟨k.pending.trans h.pending, k.bounded ∘ h.bounded, k.emptyCounted ∘ h.emptyCounted, k.recordsWhole ∘ h.recordsWhole,
    k.memoryOrdered ∘ h.memoryOrdered, k.numbered ∘ h.numbered, k.ranged ∘ h.ranged⟩

/-- The same, the last operation first, as a term of the model is written. -/
theorem Keeps.after {s t u : State} (k : Keeps t u) (h : Keeps s t) : Keeps s u := h.trans k

/-- An update of items that none of it speaks of. -/
theorem Keeps.of_same {s t : State} (pending : t.pending = s.pending) (station : t.station = .start → s.station = .start)
    (config : t.config = s.config) (memory : t.memory = s.memory) (dir : t.dir = s.dir) (queue : t.queue = s.queue)
    (crane : t.crane = s.crane) (front : t.front.reofferTag = s.front.reofferTag) (offers : t.offers = s.offers)
    (line : t.line = s.line) : Keeps s t where
  pending := pending
  bounded h := ⟨queue ▸ h.jobs, dir ▸ h.writes, offers ▸ h.offers, line ▸ h.general, line ▸ h.received⟩
  emptyCounted h := by unfold EmptyCounted; rw [dir]; exact h
  recordsWhole h := ⟨by rw [dir, config]; exact h.all, fun ht => dir ▸ h.start (station ht)⟩
  memoryOrdered h := by unfold MemoryOrdered; rw [memory]; exact h
  numbered h := ⟨queue ▸ h.room, queue ▸ h.counter, queue ▸ h.byte, queue ▸ h.distinct⟩
  ranged h := ⟨config ▸ h.home, crane ▸ h.count, crane ▸ h.step, front ▸ h.tag⟩

/-! ## The named updates -/

variable (s : State)

theorem keeps_setStation {x : StationState} (hx : x ≠ .start) : Keeps s (s.setStation x) :=
  .of_same rfl (fun h => absurd h hx) rfl rfl rfl rfl rfl rfl rfl rfl

theorem keeps_setSensors (x : Sensors) : Keeps s (s.setSensors x) := .of_same rfl id rfl rfl rfl rfl rfl rfl rfl rfl

theorem keeps_setKey (level armed : Bool) (run : Option Nat) : Keeps s (s.setKey level armed run) :=
  .of_same rfl id rfl rfl rfl rfl rfl rfl rfl rfl

theorem keeps_arrive (now : Now) : Keeps s (s.arrive now) := .of_same rfl id rfl rfl rfl rfl rfl rfl rfl rfl

theorem keeps_onFire (f : FireUnit → FireUnit) : Keeps s (s.onFire f) := .of_same rfl id rfl rfl rfl rfl rfl rfl rfl rfl

theorem keeps_onFaults (f : FaultUnit → FaultUnit) : Keeps s (s.onFaults f) := .of_same rfl id rfl rfl rfl rfl rfl rfl rfl rfl

theorem keeps_setMemory {m : List Host.Cell} (h : Memory.wf s.memory = true → Memory.wf m = true) : Keeps s (s.setMemory m) where
  pending := rfl
  bounded k := ⟨k.jobs, k.writes, k.offers, k.general, k.received⟩
  emptyCounted := id
  recordsWhole k := ⟨k.all, k.start⟩
  memoryOrdered := h
  numbered k := ⟨k.room, k.counter, k.byte, k.distinct⟩
  ranged k := ⟨k.home, k.count, k.step, k.tag⟩

theorem keeps_onDir {f : Directory → Directory} (h : KeepsDir s.dir (f s.dir)) : Keeps s (s.onDir f) where
  pending := rfl
  bounded k := ⟨k.jobs, h.writes k.writes, k.offers, k.general, k.received⟩
  emptyCounted := h.empty
  recordsWhole k := by
    have none_of : s.dir.records = [] → (f s.dir).records = [] := fun hn =>
      h.records.elim (fun hr => List.length_eq_zero_iff.mp (by rw [hr, hn]; rfl)) id
    refine ⟨?_, fun ht => none_of (k.start ht)⟩
    rcases k.all with hn | ⟨c, hc, hl⟩
    · exact .inl (none_of hn)
    · rcases h.records with hr | hr
      · exact .inr ⟨c, hc, hr.trans hl⟩
      · exact .inl hr
  memoryOrdered := id
  numbered k := ⟨k.room, k.counter, k.byte, k.distinct⟩
  ranged k := ⟨k.home, k.count, k.step, k.tag⟩

theorem keeps_onQueue {f : JobQueue → JobQueue} (h : KeepsQueue s.queue (f s.queue)) : Keeps s (s.onQueue f) where
  pending := rfl
  bounded k := ⟨h.room k.jobs, k.writes, k.offers, k.general, k.received⟩
  emptyCounted := id
  recordsWhole k := ⟨k.all, k.start⟩
  memoryOrdered := id
  numbered k := ⟨h.room k.room, h.counter k.counter, h.byte k.room k.counter k.byte, h.distinct k.room k.distinct⟩
  ranged k := ⟨k.home, k.count, k.step, k.tag⟩

/-- The home counts of the configuration held lie in their ranges. -/
def State.HomeInRange (s : State) : Prop := ∀ c, s.config = some c → c.travel.home ≤ 65535 ∧ c.lift.home ≤ 65535

theorem keeps_onCrane_of_home {f : Crane → Crane} (h : s.HomeInRange → KeepsCrane s.crane (f s.crane)) : Keeps s (s.onCrane f) where
  pending := rfl
  bounded k := ⟨k.jobs, k.writes, k.offers, k.general, k.received⟩
  emptyCounted := id
  recordsWhole k := ⟨k.all, k.start⟩
  memoryOrdered := id
  numbered k := ⟨k.room, k.counter, k.byte, k.distinct⟩
  ranged k := by
    obtain ⟨home, ⟨htc, hlc⟩, ⟨hts, hls⟩, tag⟩ := k
    obtain ⟨⟨htc', hts'⟩, hlc', hls'⟩ := h home ⟨⟨htc, hts⟩, hlc, hls⟩
    exact ⟨home, ⟨htc', hlc'⟩, ⟨hts', hls'⟩, tag⟩

theorem keeps_onCrane {f : Crane → Crane} (h : KeepsCrane s.crane (f s.crane)) : Keeps s (s.onCrane f) :=
  keeps_onCrane_of_home s fun _ => h

/-- A change of the crane unit that leaves both axes as they are. -/
theorem keeps_onCrane_same {f : Crane → Crane} (ht : (f s.crane).travel = s.crane.travel) (hl : (f s.crane).lift = s.crane.lift) :
    Keeps s (s.onCrane f) := keeps_onCrane s (by unfold KeepsCrane; rw [ht, hl]; exact id)

theorem keeps_onFront {f : Front → Front} (h : s.front.reofferTag ≤ 255 → (f s.front).reofferTag ≤ 255) : Keeps s (s.onFront f) where
  pending := rfl
  bounded k := ⟨k.jobs, k.writes, k.offers, k.general, k.received⟩
  emptyCounted := id
  recordsWhole k := ⟨k.all, k.start⟩
  memoryOrdered := id
  numbered k := ⟨k.room, k.counter, k.byte, k.distinct⟩
  ranged k := ⟨k.home, k.count, k.step, h k.tag⟩

theorem keeps_onOffers {f : OfferTable → OfferTable}
    (h : s.offers.entries.length ≤ 4 → (f s.offers).entries.length ≤ 4) : Keeps s (s.onOffers f) where
  pending := rfl
  bounded k := ⟨k.jobs, k.writes, h k.offers, k.general, k.received⟩
  emptyCounted := id
  recordsWhole k := ⟨k.all, k.start⟩
  memoryOrdered := id
  numbered k := ⟨k.room, k.counter, k.byte, k.distinct⟩
  ranged k := ⟨k.home, k.count, k.step, k.tag⟩

theorem keeps_onLine {f : LineUnit → LineUnit} (h : KeepsLine s.line (f s.line)) : Keeps s (s.onLine f) where
  pending := rfl
  bounded k := ⟨k.jobs, k.writes, k.offers, h.general k.general, h.received k.received⟩
  emptyCounted := id
  recordsWhole k := ⟨k.all, k.start⟩
  memoryOrdered := id
  numbered k := ⟨k.room, k.counter, k.byte, k.distinct⟩
  ranged k := ⟨k.home, k.count, k.step, k.tag⟩

theorem keeps_onCounters (f : LineCounters → LineCounters) : Keeps s (s.onCounters f) := keeps_onLine s ⟨id, id⟩

theorem keeps_onAxis {a : AxisName} {f : Axis → Axis} (h : (s.axis a).InRange → (f (s.axis a)).InRange) : Keeps s (s.onAxis a f) := by
  refine keeps_onCrane s ?_
  rintro ⟨ht, hl⟩
  cases a
  · exact ⟨h ht, hl⟩
  · exact ⟨ht, h hl⟩

theorem keeps_onBoth {f : Axis → Axis} (h : ∀ x : Axis, x.InRange → (f x).InRange) : Keeps s (s.onCrane (Crane.onBoth f)) :=
  keeps_onCrane s fun ⟨ht, hl⟩ => ⟨h _ ht, h _ hl⟩

/-! ## The lists -/

theorem length_updateFirst {α : Type} (p : α → Bool) (f : α → α) (l : List α) : (updateFirst p f l).length = l.length := by
  induction l with
  | nil => rfl
  | cons x xs ih =>
    unfold updateFirst
    split
    · rfl
    · simp [ih]

@[simp] theorem getAt_nil {α : Type} (n : Nat) : getAt n ([] : List α) = none := by cases n <;> rfl
@[simp] theorem getAt_zero {α : Type} (y : α) (ys : List α) : getAt 0 (y :: ys) = some y := rfl
@[simp] theorem getAt_succ {α : Type} (k : Nat) (y : α) (ys : List α) : getAt (k + 1) (y :: ys) = getAt k ys := rfl
@[simp] theorem setAt_nil {α : Type} (n : Nat) (x : α) : setAt n x [] = [] := by cases n <;> rfl
@[simp] theorem setAt_zero {α : Type} (x y : α) (ys : List α) : setAt 0 x (y :: ys) = x :: ys := rfl
@[simp] theorem setAt_succ {α : Type} (k : Nat) (x y : α) (ys : List α) : setAt (k + 1) x (y :: ys) = y :: setAt k x ys := rfl

theorem mem_of_getAt {α : Type} {n : Nat} {x : α} {l : List α} (h : getAt n l = some x) : x ∈ l := by
  induction l generalizing n with
  | nil => simp at h
  | cons y ys ih =>
    cases n with
    | zero => simp at h; simp [h]
    | succ k => exact List.mem_cons_of_mem _ (ih h)

theorem length_setAt {α : Type} (n : Nat) (x : α) (l : List α) : (setAt n x l).length = l.length := by
  induction l generalizing n with
  | nil => simp
  | cons y ys ih =>
    cases n with
    | zero => rfl
    | succ k => simp [ih]

/-- A list with an element put before another is the list and the element, in some order. -/
theorem insertBefore_perm {α : Type} {p : α → Bool} {x : α} {l m : List α} (h : insertBefore p x l = some m) : m.Perm (x :: l) := by
  induction l generalizing m with
  | nil => cases h
  | cons y ys ih =>
    unfold insertBefore at h
    split at h
    · cases h
      exact .refl _
    · obtain ⟨zs, hz, rfl⟩ := Option.map_eq_some_iff.mp h
      exact ((ih hz).cons y).trans (.swap x y ys)

theorem insertAfterLast_perm {α : Type} {p : α → Bool} {x : α} {l m : List α} (h : insertAfterLast p x l = some m) :
    m.Perm (x :: l) := by
  induction l generalizing m with
  | nil => cases h
  | cons y ys ih =>
    unfold insertAfterLast at h
    split at h
    · rename_i zs hz
      cases h
      exact ((ih hz).cons y).trans (.swap x y ys)
    · split at h
      · cases h
        exact .swap x y ys
      · cases h

/-- A new job's place in the queue changes no other job. -/
theorem placeJob_perm (j : Job) (jobs : List Job) : (placeJob j jobs).Perm (j :: jobs) := by
  unfold placeJob
  split
  · exact List.perm_append_singleton j jobs
  · split
    · rename_i js h
      exact insertAfterLast_perm h
    · split
      · rename_i js h
        exact insertBefore_perm h
      · exact List.perm_append_singleton j jobs

/-- Setting a record in a list moves the number of EMPTY records by the old and the new one. -/
theorem countEmpty_setAt {i : Nat} {r old : SlotRec} {rs : List SlotRec} (h : getAt i rs = some old) :
    countEmpty (setAt i r rs) = countEmpty rs - (if old.state = .empty then 1 else 0) + (if r.state = .empty then 1 else 0) := by
  induction rs generalizing i with
  | nil => simp at h
  | cons x xs ih =>
    cases i with
    | zero =>
      cases h
      by_cases ho : old.state = .empty <;> by_cases hr : r.state = .empty <;> simp [countEmpty, ho, hr]
    | succ k =>
      have pos : old.state = .empty → 0 < countEmpty xs := fun he =>
        List.length_pos_of_mem (List.mem_filter.mpr ⟨mem_of_getAt h, by simp [he]⟩)
      have tail := ih h
      have cons : ∀ ys, countEmpty (x :: ys) = (if x.state = .empty then 1 else 0) + countEmpty ys := by
        intro ys
        by_cases hx : x.state = .empty <;> simp [countEmpty, hx, Nat.add_comm]
      rw [setAt_succ, cons, cons, tail]
      by_cases ho : old.state = .empty
      · have := pos ho
        simp only [ho, if_true]
        omega
      · simp only [ho, if_false]
        omega

/-! ## The slot directory -/

theorem keepsDir_put (i : Nat) (r : SlotRec) (d : Directory) : KeepsDir d (Directory.put i r d) := by
  rcases put_cases i r d with ⟨_, h⟩ | ⟨old, ho, h⟩
  · rw [h]; exact .refl d
  · rw [h]
    exact ⟨id, fun he => by rw [countEmpty_setAt ho, ← he], .inl (length_setAt _ _ _)⟩

/-- A write is listed only where there is room for it, or in the place of a pending one. -/
theorem keepsDir_addWrite {a : SlotAddr} {img : Image} {job : Option Nat} {acks : Nat} {d : Directory} (h : d.writeRoom a = true) :
    KeepsDir d (d.addWrite a img job acks) := by
  refine ⟨fun hw => ?_, by simp, by simp⟩
  cases hp : d.hasPending a
  · rw [addWrite_new hp]
    simp [Directory.writeRoom, hp] at h ⊢
    omega
  · rw [addWrite_replaces hp]
    simp only [List.length_append, length_updateFirst, Directory.writing, Directory.pendingWrites]
    split <;> (simp; omega)

theorem writeRoom_put (a : SlotAddr) (i : Nat) (r : SlotRec) (d : Directory) : (Directory.put i r d).writeRoom a = d.writeRoom a := by
  rcases put_cases i r d with ⟨_, h⟩ | ⟨old, _, h⟩
  · rw [h]
  · rw [h]
    rfl

theorem keepsDir_oweWrite (a : SlotAddr) (i : Nat) (r : SlotRec) (job : Option Nat) (d : Directory) :
    KeepsDir d (Directory.oweWrite a i r job d) := by
  unfold Directory.oweWrite
  split
  · rename_i h
    exact (keepsDir_put i _ d).trans (keepsDir_addWrite ((writeRoom_put a i _ d).trans h))
  · exact keepsDir_put i _ d

theorem keepsDir_change (a : SlotAddr) (i : Nat) (st : SlotState) (bin : Nat) (job : Option Nat) (d : Directory) :
    KeepsDir d (Directory.change a i st bin job d) := by
  unfold Directory.change
  split
  · exact .refl d
  · dsimp only
    split
    · exact keepsDir_put _ _ d
    · exact keepsDir_oweWrite _ _ _ _ d

theorem keepsDir_force (a : SlotAddr) (i : Nat) (st : SlotState) (bin : Nat) (job : Option Nat) (d : Directory) :
    KeepsDir d (Directory.force a i st bin job d) := by
  unfold Directory.force
  split
  · exact .refl d
  · exact keepsDir_oweWrite _ _ _ _ d

theorem keeps_requestChange (a : SlotAddr) (src : SlotState → Bool) (st : SlotState) (bin : SlotRec → Nat) (job : Option Nat) :
    Keeps s (requestChange a src st bin job s) := by
  rcases requestChange_cases a src st bin job s with h | ⟨c, r, _, _, _, h⟩ <;> rw [h]
  · exact .refl s
  · exact keeps_onDir s (keepsDir_change _ _ _ _ _ _)

theorem keeps_releaseSlot (kind : JobKind) (bin : Nat) (a : SlotAddr) : Keeps s (releaseSlot kind bin a s) := by
  unfold releaseSlot
  split
  · cases kind <;> exact keeps_requestChange s _ _ _ _ _
  · exact .refl s

theorem keeps_releaseFor (j : Job) : Keeps s (releaseFor j s) := by
  unfold releaseFor
  split
  · exact .refl s
  · split
    · exact keeps_requestChange s _ _ _ _ _
    · exact keeps_releaseSlot s _ _ _

theorem keeps_forceSlot (a : SlotAddr) (st : SlotState) (bin : Nat) (job : Option Nat) : Keeps s (forceSlot a st bin job s) := by
  unfold forceSlot
  split
  · split
    · exact keeps_onDir s (keepsDir_force _ _ _ _ _ _)
    · exact .refl s
  · exact .refl s

/-! ## The transmit queue -/

theorem keeps_countLost : Keeps s (countLost s) := keeps_onCounters s _

theorem keeps_appendGeneral {body : TxBody} {dest : Dest} {offer : Option Nat} {reported : Word} (h : s.line.room = true) :
    Keeps s (appendGeneral body dest offer reported s) := by
  refine keeps_onLine s ⟨fun _ => ?_, id⟩
  simp [LineUnit.room] at h ⊢
  omega

theorem keeps_send (body : TxBody) (dest : Dest) : Keeps s (send body dest s) := by
  unfold send
  split
  · exact keeps_appendGeneral s (by assumption)
  · exact keeps_countLost s

theorem keeps_sendOwned (body : TxBody) (serial : Nat) : Keeps s (sendOwned body serial s) := by
  unfold sendOwned
  split
  · exact keeps_appendGeneral s (by assumption)
  · exact keeps_countLost s

theorem keeps_sendAlarm (zone : Nat) : Keeps s (sendAlarm zone s) := by
  unfold sendAlarm
  dsimp only
  split
  · exact keeps_onLine s ⟨id, id⟩
  · split
    · exact keeps_onLine s ⟨fun h => (length_updateFirst _ _ _).trans_le h, id⟩
    · split
      · exact keeps_onLine s ⟨id, id⟩
      · exact keeps_send s _ _

theorem keeps_sendParked (body : TxBody) : Keeps s (sendParked body s) := by
  rcases sendParked_cases body s with h | h <;> rw [h]
  · exact keeps_send s _ _
  · exact keeps_onLine s ⟨id, id⟩

theorem keeps_sendBeacon (body : TxBody) (reported : Word) : Keeps s (sendBeacon body reported s) := by
  rcases sendBeacon_cases body reported s with ⟨g, h, hg⟩ | ⟨hr, h⟩ | ⟨_, h⟩ <;> rw [h]
  · exact (keeps_onLine s ⟨fun hl => hg.trans_le hl, id⟩).trans (keeps_onFaults _ _)
  · exact (keeps_appendGeneral s (by simpa [LineUnit.room] using hr)).trans (keeps_onFaults _ _)
  · exact (keeps_countLost s).trans (keeps_onFaults _ _)

theorem keeps_withdraw (serial : Nat) : Keeps s (withdraw serial s) :=
  keeps_onLine s ⟨fun h => by
    rw [List.length_map]
    exact (List.length_filter_le _ _).trans h, id⟩

theorem keeps_recordFault (f : FaultName) : Keeps s (recordFault f s) :=
  (keeps_onFaults s _).trans (keeps_onLine _ ⟨fun h => (List.length_map _).trans_le h, id⟩)

/-! ## The job queue -/

/-- A queue whose numbers are those of some of the jobs as they stood. -/
theorem keepsQueue_sublist {q r : JobQueue} (hc : r.counter = q.counter) (h : (r.jobs.map (·.num)).Sublist (q.jobs.map (·.num))) :
    KeepsQueue q r where
  room hl := by simpa using h.length_le.trans (by simpa using hl)
  counter := hc ▸ id
  byte _ _ hb j hj := by
    obtain ⟨k, hk, he⟩ := List.mem_map.mp (h.subset (List.mem_map_of_mem hj))
    exact he ▸ hb k hk
  distinct _ hd := hd.sublist h

/-- A queue with the same jobs in another order, each with its number. -/
theorem keepsQueue_perm {q r : JobQueue} (hc : r.counter = q.counter) (h : (r.jobs.map (·.num)).Perm (q.jobs.map (·.num))) :
    KeepsQueue q r where
  room hl := by simpa using h.length_eq.trans_le (by simpa using hl)
  counter := hc ▸ id
  byte _ _ hb j hj := by
    obtain ⟨k, hk, he⟩ := List.mem_map.mp (h.subset (List.mem_map_of_mem hj))
    exact he ▸ hb k hk
  distinct _ hd := h.nodup_iff.mpr hd

theorem keeps_onJobs {f : List Job → List Job} (h : ((f s.queue.jobs).map (·.num)).Sublist (s.queue.jobs.map (·.num))) :
    Keeps s (onJobs f s) := keeps_onQueue s (f := fun q => { q with jobs := f q.jobs }) (keepsQueue_sublist rfl h)

theorem keeps_onJobs_perm {f : List Job → List Job} (h : ((f s.queue.jobs).map (·.num)).Perm (s.queue.jobs.map (·.num))) :
    Keeps s (onJobs f s) := keeps_onQueue s (f := fun q => { q with jobs := f q.jobs }) (keepsQueue_perm rfl h)

theorem keeps_hold (r : HeldRequest) : Keeps s (hold r s) :=
  keeps_onQueue s (f := fun q => { q with held := q.held ++ [r] }) (keepsQueue_sublist rfl (.refl _))

theorem keeps_updateJob (n : Nat) {f : Job → Job} (hf : ∀ j, (f j).num = j.num) : Keeps s (updateJob n f s) := by
  refine keeps_onJobs s ?_
  have : (s.queue.jobs.map (fun j => if j.num = n then f j else j)).map (·.num) = s.queue.jobs.map (·.num) := by
    rw [List.map_map]
    refine List.map_congr_left fun j _ => ?_
    simp only [Function.comp]
    split
    · exact hf j
    · rfl
  exact this ▸ .refl _

theorem keeps_removeJob (n : Nat) : Keeps s (removeJob n s) :=
  keeps_onJobs s (List.filter_sublist.map _)

theorem keeps_closeClaimed (n : Nat) : Keeps s (closeClaimed n s) :=
  keeps_onOffers s fun h => (List.length_filter_le _ _).trans h

theorem keeps_closeOffers : Keeps s (closeOffers s) :=
  (keeps_onLine s ⟨fun h => by
    rw [List.length_map]
    exact (List.length_filter_le _ _).trans h, id⟩).trans (keeps_onOffers _ fun _ => Nat.zero_le _)

end Sys2Proof.Machine
end

section
/-! SUPPORT. `Keeps` for each operation of the model, in the order in which the model defines them, up to `settle`. -/

namespace Sys2Proof.Machine

set_option Elab.async false

open Sys2Proof

variable (s : State)

/-! ## Stops -/

theorem inRange_halt (clock : Nat) {x : Axis} (h : x.InRange) : (x.halt clock).InRange := h

theorem inRange_rampDown (clock : Nat) {x : Axis} (h : x.InRange) : (x.rampDown clock).InRange := by
  unfold Axis.rampDown
  split
  · exact h
  · exact ⟨h.1, Nat.zero_le _⟩

theorem keeps_haltBoth : Keeps s (haltBoth s) := keeps_onBoth s fun _ h => inRange_halt _ h
theorem keeps_rampBoth : Keeps s (rampBoth s) := keeps_onBoth s fun _ h => inRange_rampDown _ h
theorem keeps_clearHomed : Keeps s (clearHomed s) := keeps_onBoth s fun _ h => h

theorem keeps_emergencyStop : Keeps s (emergencyStop s) := by
  unfold emergencyStop
  split
  · exact keeps_onCrane_same s rfl rfl
  · exact (keeps_haltBoth s).trans (keeps_onCrane_same _ rfl rfl)

theorem keeps_controlledStop : Keeps s (controlledStop s) := by
  have ramped (f : Crane → Crane) (ht : ∀ c, (f c).travel = c.travel) (hl : ∀ c, (f c).lift = c.lift) :
      Keeps s ((rampBoth s).onCrane f) := (keeps_rampBoth s).trans (keeps_onCrane_same _ (ht _) (hl _))
  unfold controlledStop
  split
  · exact keeps_onCrane_same s rfl rfl
  · exact .refl s
  · exact keeps_onCrane_same s rfl rfl
  · exact keeps_onCrane_same s rfl rfl
  · exact ramped _ (fun _ => rfl) (fun _ => rfl)
  · exact ramped _ (fun _ => rfl) (fun _ => rfl)
  · split
    · exact ramped _ (fun _ => rfl) (fun _ => rfl)
    · split
      · exact keeps_onCrane_same s rfl rfl
      · exact ramped _ (fun _ => rfl) (fun _ => rfl)

theorem keeps_stopCarriedOut : Keeps s (stopCarriedOut s) := by
  unfold stopCarriedOut
  exact (keeps_onCrane_same _ rfl rfl).after (keeps_haltBoth s)

theorem keeps_moveEnd : Keeps s (moveEnd s) := by
  unfold moveEnd
  split
  · exact (keeps_rampBoth s).trans (keeps_onCrane_same _ rfl rfl)
  · exact .refl s

theorem keeps_endMotion : Keeps s (endMotion s) := by
  unfold endMotion
  refine keeps_onCrane s ?_
  unfold KeepsCrane
  split
  · exact id
  · exact id
  · split <;> exact id
  · split <;> exact id
  all_goals exact id

/-! ## Jobs -/

theorem keeps_failNow (n : Nat) (o : FailOutcome) : Keeps s (failNow n o s) := by
  unfold failNow
  split
  · exact .refl s
  · rename_i j _
    have left (body : TxBody) (dest : Dest) : Keeps s (closeClaimed n (removeJob n (send body dest (releaseFor j s)))) :=
      (keeps_closeClaimed _ _).after ((keeps_removeJob _ _).after ((keeps_send _ _ _).after (keeps_releaseFor s j)))
    dsimp only
    split
    · exact (keeps_moveEnd _).after (left _ _)
    · exact left _ _

theorem keeps_yieldNow (n : Nat) : Keeps s (yieldNow n s) := by
  unfold yieldNow
  split
  · exact .refl s
  · split
    · exact ((keeps_releaseFor s _).trans (keeps_removeJob _ _)).trans (keeps_closeClaimed _ _)
    · exact .refl s

theorem keeps_requestFail (n : Nat) (o : FailOutcome) : Keeps s (requestFail n o s) := by
  unfold requestFail
  split
  · exact keeps_hold s _
  · exact keeps_failNow s _ _

theorem keeps_requestYield (n : Nat) : Keeps s (requestYield n s) := by
  unfold requestYield
  split
  · exact keeps_hold s _
  · exact keeps_yieldNow s _

theorem keeps_carryOut (r : HeldRequest) : Keeps s (carryOut s r) := by
  unfold carryOut
  split
  · exact keeps_yieldNow s _
  · split
    · exact keeps_failNow s _ _
    · exact .refl s

/-- Steps taken one after another over a list. -/
theorem keeps_foldl {α : Type} {f : State → α → State} (h : ∀ t x, Keeps t (f t x)) (l : List α) (t : State) :
    Keeps t (l.foldl f t) := by
  induction l generalizing t with
  | nil => exact .refl t
  | cons x xs ih => exact (h t x).trans (ih _)

theorem keeps_dropHeld : Keeps s (s.onQueue (fun q => { q with held := [] })) :=
  keeps_onQueue s (keepsQueue_sublist rfl (.refl _))

theorem keeps_releaseHeld : Keeps s (releaseHeld s) := (keeps_dropHeld s).trans (keeps_foldl keeps_carryOut _ _)

theorem keeps_failWaiting (o : FailOutcome) : Keeps s (failWaiting o s) := by
  refine keeps_foldl (fun t j => ?_) _ _
  split
  · exact keeps_requestFail t _ _
  · exact .refl t

theorem keeps_startJob (n estimate : Nat) : Keeps s (startJob n estimate s) := keeps_updateJob s n fun _ => rfl

theorem keeps_restartJob (n : Nat) : Keeps s (restartJob n s) := by
  unfold restartJob
  split
  · exact .refl s
  · exact keeps_startJob s _ _

theorem keeps_setStage (n : Nat) (st : Stage) : Keeps s (updateJob n (Job.setStage st) s) := keeps_updateJob s n fun _ => rfl

theorem keeps_chooseSlot (n : Nat) : Keeps s (chooseSlot n s) := by
  unfold chooseSlot
  split
  · exact .refl s
  · split
    · exact (keeps_requestChange s _ _ _ _ _).trans (keeps_updateJob _ _ fun _ => rfl)
    · exact keeps_updateJob s _ fun _ => rfl

theorem keeps_dispatchLost : Keeps s (dispatchLost s) := by
  have unowned : Keeps s (s.onFront (fun f => { f with owner := .none })) := keeps_onFront s id
  unfold dispatchLost
  dsimp only
  split
  · exact unowned.trans (keeps_failNow _ _ _)
  · exact unowned
  · exact unowned

theorem keeps_setOwner (o : DispatchOwner) : Keeps s (setOwner o s) := by
  unfold setOwner
  dsimp only
  split
  · exact keeps_onFront s id
  · exact (keeps_onFront s id).trans (keeps_dispatchLost _)

/-! ## Faults -/

theorem keeps_setRecord (r : Option Suspension) : Keeps s (setRecord r s) := keeps_onFaults s _

theorem keeps_disposeActive (cause : Cause) (o : FailOutcome) : Keeps s (disposeActive cause o s) := by
  have failed (n : Nat) : Keeps s (setRecord none (requestFail n o s)) := (keeps_requestFail s n o).trans (keeps_setRecord _ _)
  unfold disposeActive
  split
  · exact .refl s
  split
  · exact .refl s
  split
  · split
    · exact keeps_setRecord s _
    · exact .refl s
  split
  · split
    · exact keeps_setRecord s _
    · exact .refl s
  split
  · exact keeps_setRecord s _
  split
  · split
    · exact keeps_setRecord s _
    · exact failed _
  · split
    · exact failed _
    · exact keeps_setRecord s _

theorem keeps_enterSealing : Keeps s (enterSealing s) := keeps_onFire s _

theorem keeps_forceSeal (cause : Cause) (forced : Bool) : Keeps s (forceSeal cause forced s) := by
  unfold forceSeal
  dsimp only
  refine .trans ?_ (keeps_enterSealing _)
  have stopped := (keeps_emergencyStop s).trans (keeps_onFire _ fun f => { f with forced := f.forced || forced, rehome := true })
  split
  · exact stopped
  · exact ((stopped.trans (keeps_onFire _ _)).trans (keeps_disposeActive _ _ _)).trans (keeps_failWaiting _ _)

theorem keeps_enterFaulted : Keeps s (enterFaulted s) :=
  (((((keeps_setStation s (by decide)).trans (keeps_emergencyStop _)).trans (keeps_clearHomed _)).trans
    (keeps_disposeActive _ _ _)).trans (keeps_failWaiting _ _)).trans (keeps_closeOffers _)

theorem keeps_raise (f : FaultName) : Keeps s (raise f s) := by
  rcases raise_cases f s with ⟨h, _⟩ | ⟨_, _, h⟩ | ⟨_, _, _, h⟩ <;> rw [h]
  · exact keeps_recordFault s f
  · exact (keeps_recordFault s f).trans (keeps_enterFaulted _)
  · exact (keeps_recordFault s f).trans (keeps_forceSeal _ _ _)

theorem keeps_halt (a : AxisName) (clock : Nat) : Keeps s (s.onAxis a (Axis.halt clock)) := keeps_onAxis s (inRange_halt clock)

theorem keeps_axisFault (f : FaultName) (a : AxisName) : Keeps s (axisFault f a s) := by
  unfold axisFault
  split
  · exact ((keeps_halt s a _).trans (keeps_endMotion _)).trans (keeps_raise _ _)
  · exact keeps_raise s f

theorem keeps_driveFault : Keeps s (driveFault s) := ((keeps_haltBoth s).trans (keeps_endMotion _)).trans (keeps_raise _ _)

theorem keeps_forkFault (f : FaultName) : Keeps s (forkFault f s) :=
  ((keeps_onCrane_same s rfl rfl).trans (keeps_endMotion _)).trans (keeps_raise _ _)

theorem keeps_enterHalted : Keeps s (enterHalted s) := by
  unfold enterHalted
  dsimp only
  have stopped := (keeps_setStation s (x := .halted) (by decide)).trans (keeps_emergencyStop _)
  have cleared := (((((stopped.trans
    (keeps_onLine _ (f := fun l => { l with
      mode := .off, rx := .awaitLead, rxBuf := [], rxDone := none, rxQueue := [], general := [], reserved := none, attempt := none })
      ⟨fun _ => Nat.zero_le _, fun _ => Nat.zero_le _⟩)).trans
    (keeps_onFaults _ fun u => { u with beacon := none })).trans
    (keeps_onDir _ (f := fun d => { d with port := .idle, staging := [] }) ⟨id, id, .inl rfl⟩)).trans
    (keeps_onFront _ (f := fun f => { f with action := none }) id)).trans (keeps_dropHeld _)).trans
    (keeps_onOffers _ (f := fun o => { o with entries := [] }) fun _ => Nat.zero_le _)
  split
  · exact cleared.trans (keeps_enterSealing _)
  · exact cleared.trans (keeps_enterSealing _)
  all_goals exact cleared

/-! ## Moves, fork actions, steps -/

theorem startStep_le (c : AxisConfig) (cap d : Nat) : startStep c cap d ≤ 3 := by
  unfold startStep
  split
  · omega
  split
  · omega
  split <;> omega

/-- What a move request takes is one of the states it may end in. -/
theorem keeps_requestMove {a : AxisName} {target cap : Nat} {t : State} (h : requestMove a target cap s = .taken t) : Keeps s t := by
  rcases requestMove_cases a target cap s with h' | h' | h' | ⟨c, k, _, _, _, _, _, _, h'⟩ <;> rw [h'] at h <;> cases h
  · exact keeps_onAxis s fun hx => hx
  · exact keeps_onAxis s fun hx => ⟨hx.1, startStep_le _ _ _⟩

theorem keeps_requestBoth {travel lift cap : Nat} {t : State} (h : requestBoth travel lift cap s = .taken t) : Keeps s t := by
  unfold requestBoth at h
  split at h
  · rename_i u hu
    exact (keeps_requestMove s hu).trans (keeps_requestMove u h)
  · split at h <;> cases h
  · cases h

theorem keeps_beginFork (f : ForkAction) : Keeps s (beginFork f s) := by
  unfold beginFork
  split
  · exact .refl s
  · split
    · exact .refl s
    · exact keeps_onCrane_same s rfl rfl

theorem keeps_forkDone : Keeps s (forkDone s) := keeps_onCrane_same s rfl rfl
theorem keeps_setPhase (p : StepPhase) : Keeps s (setPhase p s) := keeps_onCrane_same s rfl rfl

theorem keeps_takeStep (job : Nat) (kind : StepKind) (place : Place) (phase : StepPhase) : Keeps s (takeStep job kind place phase s) :=
  keeps_onCrane_same s rfl rfl

theorem keeps_giveStep {job : Nat} {kind : StepKind} {place : Place} {t : State} (h : giveStep job kind place s = .taken t) :
    Keeps s t := by
  unfold giveStep at h
  split at h
  · cases h
  split at h
  · cases h
  split at h
  · cases h
    exact keeps_takeStep s _ _ _ _
  · cases h
    exact keeps_takeStep s _ _ _ _
  all_goals
    split at h
    · cases h
      exact (keeps_beginFork _ _).after (keeps_takeStep s _ _ _ _)
    · exact (keeps_requestBoth _ h).after (keeps_takeStep s _ _ _ _)

/-! ## Results -/

theorem keeps_resultChange (r : StepResult) (a : SlotAddr) (job : Nat) : Keeps s (resultChange r a job s) := by
  unfold resultChange
  split <;> exact keeps_requestChange s _ _ _ _ _

theorem keeps_carryOn (n : Nat) : Keeps s (carryOn n s) :=
  (keeps_restartJob _ _).after ((keeps_setStage _ _ _).after (keeps_chooseSlot s n))

theorem keeps_resultJob (r : StepResult) (place : Place) (n : Nat) : Keeps s (resultJob r place n s) := by
  unfold resultJob
  split
  · exact .refl s
  split
  · exact keeps_updateJob s _ fun _ => rfl
  · exact keeps_failNow s _ _
  · exact keeps_carryOn s _
  split
  · exact keeps_setStage s _ _
  all_goals
    split
    · exact (keeps_setOwner _ _).after (keeps_setStage s _ _)
    · exact (keeps_setOwner _ _).after (keeps_failNow s _ _)

theorem keeps_applyResult (r : StepResult) (st : CraneStep) : Keeps s (applyResult r st s) := by
  unfold applyResult
  split
  · exact .refl s
  · refine (keeps_resultJob _ _ _ _).after ?_
    split
    · exact keeps_resultChange s _ _ _
    · exact .refl s

theorem keeps_cycleEnds : Keeps s (cycleEnds s) := keeps_onCrane_same s rfl rfl

theorem keeps_deliver (r : StepResult) : Keeps s (deliver r s) := by
  unfold deliver
  split
  · exact .refl s
  · dsimp only
    split
    · exact (keeps_onCrane_same _ rfl rfl).after (keeps_cycleEnds s)
    · exact (keeps_applyResult _ _ _).after (keeps_cycleEnds s)

theorem keeps_finishHeld {t : State} (h : finishHeld s = some t) : Keeps s t := by
  unfold finishHeld at h
  split at h
  · split at h
    · cases h
      exact (keeps_applyResult _ _ _).after (keeps_onCrane_same s rfl rfl)
    · cases h
  · cases h

theorem keeps_fillOwed {t : State} (h : fillOwed s = some t) : Keeps s t := by
  unfold fillOwed at h
  split at h
  · split at h
    · split at h
      · cases h
        exact keeps_onDir s (keepsDir_oweWrite _ _ _ _ _)
      · cases h
    · cases h
  · cases h

theorem keeps_beginWrite {t : State} (h : beginWrite s = some t) : Keeps s t := by
  unfold beginWrite at h
  split at h
  · split at h
    · cases h
      exact (keeps_setMemory _ Memory.wf_dropAll).after (keeps_onDir s ⟨id, id, .inl rfl⟩)
    · cases h
  · cases h

/-! ## The step in progress -/

theorem keeps_insideStep {m : MoveTry} {f : State → State} (hm : ∀ t, m = .taken t → Keeps s (f t)) : Keeps s (insideStep m f s) := by
  unfold insideStep
  split
  · exact hm _ rfl
  · exact keeps_driveFault s
  · exact keeps_endMotion s

theorem keeps_beginExtend (st : CraneStep) : Keeps s (beginExtend st s) := by
  unfold beginExtend
  dsimp only
  split <;> exact (keeps_beginFork _ _).after ((keeps_setPhase _ _).after (keeps_setStage s _ _))

theorem keeps_beginLift (c : Config) (st : CraneStep) : Keeps s (beginLift c st s) := by
  unfold beginLift
  refine keeps_insideStep s fun t ht => (keeps_setPhase _ _).after ?_
  have moved := keeps_requestMove s ht
  split
  · exact (keeps_onCrane_same _ rfl rfl).after moved
  · exact moved

theorem keeps_verify (st : CraneStep) : Keeps s (verify st s) := by
  have picked : Keeps s (if s.sensors.fbn then deliver .pickVerified (s.onCrane (fun c => { c with carry := true }))
      else deliver .noBin s) := by
    split
    · exact (keeps_deliver _ _).after (keeps_onCrane_same s rfl rfl)
    · exact keeps_deliver s _
  have placed : Keeps s (if s.sensors.fbn then forkFault .forkJam s else deliver .placeVerified s) := by
    split
    · exact keeps_forkFault s _
    · exact keeps_deliver s _
  unfold verify
  split
  · exact picked
  · exact picked
  · exact placed
  · exact placed

theorem keeps_stepProgress {t : State} (h : stepProgress s = some t) : Keeps s t := by
  unfold stepProgress at h
  split at h
  · split at h
    · split at h
      · cases h
        exact keeps_insideStep s fun t ht => (keeps_requestBoth _ ht).after (keeps_setPhase s _)
      · cases h
    · split at h
      · cases h
        exact keeps_takeStep s _ _ _ _
      · cases h
    · have picked (st : CraneStep) (h : (if s.sensors.fbn = true then some (forkFault .forkJam s)
          else if st.place = .intake ∧ (!s.front.intake) = true then some (deliver .noBin s)
          else some (beginExtend st s)) = some t) : Keeps s t := by
        split at h
        · cases h; exact keeps_forkFault s _
        split at h
        · cases h; exact keeps_deliver s _
        · cases h; exact keeps_beginExtend s _
      have placed (st : CraneStep) (h : (if st.place = .dispatch ∧ s.front.dispatch = true then some (setPhase .waitEmpty s)
          else some (beginExtend st s)) = some t) : Keeps s t := by
        split at h
        · cases h; exact keeps_setPhase s _
        · cases h; exact keeps_beginExtend s _
      split at h
      · exact picked _ h
      · exact picked _ h
      · exact placed _ h
      · exact placed _ h
    · split at h
      · cases h
      · cases h; exact keeps_beginExtend s _
    · split at h
      · cases h; exact keeps_beginLift s _ _
      · cases h
    · split at h
      · cases h; exact (keeps_beginFork _ _).after (keeps_setPhase s _)
      · cases h
    · split at h
      · cases h; exact keeps_verify s _
      · cases h
    · split at h
      · cases h; exact keeps_deliver s _
      · cases h
  · cases h

/-! ## Homing -/

theorem inRange_drive (c : AxisConfig) (clock : Nat) (dir : Dir) {x : Axis} (h : x.InRange) : (x.drive c clock dir 0).InRange :=
  ⟨h.1, Nat.zero_le _⟩

theorem keeps_driveHeld (a : AxisName) : Keeps s (driveHeld a s) := by
  unfold driveHeld
  dsimp only
  split
  · exact (keeps_endMotion _).after (keeps_halt s a _)
  · exact (keeps_forkFault _ _).after (keeps_halt s a _)

theorem keeps_setHoming (p : HomingPhase) : Keeps s (setHoming p s) := keeps_onCrane_same s rfl rfl

theorem keeps_homingDrive (a : AxisName) (dir : Dir) (p : HomingPhase) : Keeps s (homingDrive a dir p s) := by
  unfold homingDrive
  split
  · exact .refl s
  split
  · exact keeps_driveHeld s a
  split
  · exact keeps_driveFault s
  · exact (keeps_setHoming _ _).after (keeps_onAxis s fun h => ⟨h.1, Nat.zero_le _⟩)

theorem keeps_beginAxisHoming (a : AxisName) : Keeps s (beginAxisHoming a s) := by
  unfold beginAxisHoming
  split <;> exact keeps_homingDrive s _ _ _

theorem keeps_startHoming : Keeps s (startHoming s) := by
  unfold startHoming
  split
  · exact .refl s
  · rename_i c _
    have begun : Keeps s ((clearHomed (haltBoth s)).onCrane (fun x =>
        { x with mode := .homing, step := none, homing := none, named := none, homingStopped := false,
                 homeTimer := some (s.inMs c.homeLimit) })) :=
      (keeps_onCrane_same _ rfl rfl).after ((keeps_clearHomed _).after (keeps_haltBoth s))
    dsimp only
    split
    · have ended := (keeps_endMotion _).after begun
      split
      · split
        · exact (keeps_raise _ _).after ((keeps_raise _ _).after ended)
        · exact (keeps_raise _ _).after ended
      · split
        · exact (keeps_raise _ _).after ended
        · exact ended
    · exact (keeps_beginAxisHoming _ _).after begun

theorem keeps_homingFront : Keeps s (homingFront s) := by
  unfold homingFront
  split
  · exact .refl s
  · exact keeps_insideStep s fun t ht => (keeps_requestBoth _ ht).after (keeps_setHoming s _)

theorem keeps_enterHoming : Keeps s (enterHoming s) := by
  unfold enterHoming
  split
  · exact keeps_enterFaulted s
  · exact (keeps_startHoming _).after (keeps_setStation s (by decide))

/-! ## The clearing move and the first stop report -/

theorem keeps_cannotClear : Keeps s (cannotClear s) := (keeps_enterSealing _).after (keeps_onFire s _)

theorem keeps_clearTravel (c : Config) : Keeps s (clearTravel c s) := by
  unfold clearTravel
  split
  · rename_i t ht
    exact (keeps_onCrane_same _ rfl rfl).after (keeps_requestMove s ht)
  · exact (keeps_driveFault _).after (keeps_onCrane_same s rfl rfl)
  · exact (keeps_cannotClear _).after ((keeps_onCrane_same _ rfl rfl).after (keeps_haltBoth s))

theorem keeps_giveClearing (c : Config) : Keeps s (giveClearing c s) := by
  have clearing := keeps_onFire s fun f => { f with state := .clearing }
  unfold giveClearing
  dsimp only
  split
  · exact (keeps_cannotClear _).after clearing
  split
  · exact (keeps_beginFork _ _).after ((keeps_onCrane_same _ rfl rfl).after clearing)
  · exact (keeps_clearTravel _ _).after clearing

theorem keeps_askClear : Keeps s (askClear s) := by
  unfold askClear
  split
  · exact keeps_cannotClear s
  split
  · exact keeps_cannotClear s
  split
  · exact keeps_enterSealing s
  · exact keeps_giveClearing s _

theorem keeps_clearingDone : Keeps s (clearingDone s) := by
  unfold clearingDone
  exact (keeps_enterSealing _).after ((keeps_onFaults _ _).after ((keeps_onCrane_same _ rfl rfl).after (keeps_haltBoth s)))

theorem keeps_clearProgress {t : State} (h : clearProgress s = some t) : Keeps s t := by
  unfold clearProgress at h
  split at h
  · split at h
    · cases h; exact keeps_clearTravel s _
    · cases h
  · split at h
    · cases h; exact keeps_clearingDone s
    · cases h
  · cases h

theorem keeps_firstStop : Keeps s (firstStop s) := by
  unfold firstStop
  refine (keeps_askClear _).after ?_
  split
  · exact keeps_onFire s _
  · exact (keeps_failWaiting _ _).after ((keeps_disposeActive _ _ _).after (keeps_onFire s _))

/-! ## Entering RUN, the record, selection -/

/-- The job found under a number stands in the queue under it. -/
theorem State.job_mem {s : State} {n : Nat} {j : Job} (h : s.job n = some j) : j ∈ s.queue.jobs ∧ j.num = n :=
  ⟨List.mem_of_find?_eq_some h, by simpa using List.find?_some h⟩

/-- A job of the queue taken out and put back changed in nothing but its number's other items: the numbers stay. -/
theorem nums_of_moved {j k : Job} {jobs l : List Job} (hj : j ∈ jobs) (hk : k.num = j.num)
    (hl : l.Perm (k :: jobs.filter (fun x => x.num != j.num))) : ∃ m, m.Sublist (jobs.map (·.num)) ∧ (l.map (·.num)).Perm m := by
  induction jobs generalizing l with
  | nil => cases hj
  | cons x xs ih =>
    by_cases hx : x.num = j.num
    · refine ⟨x.num :: (xs.filter (fun x => x.num != j.num)).map (·.num), (List.filter_sublist.map _).cons_cons _, ?_⟩
      simpa [hx, hk] using hl.map (·.num)
    · have hj' : j ∈ xs := by
        rcases List.mem_cons.mp hj with rfl | h
        · exact absurd rfl hx
        · exact h
      obtain ⟨m, hm, hp⟩ := ih hj' (.refl _)
      refine ⟨x.num :: m, hm.cons_cons _, ?_⟩
      have hl' : l.Perm (x :: k :: xs.filter (fun x => x.num != j.num)) := by
        rw [List.filter_cons_of_pos (by simpa using hx)] at hl
        exact hl.trans (.swap _ _ _)
      exact (hl'.map fun x : Job => x.num).trans (hp.cons x.num)

/-- Numbers that are, in some order, some of the numbers as they stood. -/
theorem keepsQueue_subperm {q r : JobQueue} {m : List Nat} (hc : r.counter = q.counter) (hm : m.Sublist (q.jobs.map (·.num)))
    (h : (r.jobs.map (·.num)).Perm m) : KeepsQueue q r where
  room hl := by simpa using h.length_eq.trans_le (hm.length_le.trans (by simpa using hl))
  counter := hc ▸ id
  byte _ _ hb j hj := by
    obtain ⟨k, hk, he⟩ := List.mem_map.mp (hm.subset (h.mem_iff.mp (List.mem_map_of_mem hj)))
    exact he ▸ hb k hk
  distinct _ hd := h.nodup_iff.mpr (hd.sublist hm)

theorem keeps_onJobs_moved {j k : Job} {f : List Job → List Job} (hj : j ∈ s.queue.jobs) (hk : k.num = j.num)
    (hf : (f s.queue.jobs).Perm (k :: s.queue.jobs.filter (fun x => x.num != j.num))) : Keeps s (onJobs f s) := by
  obtain ⟨m, hm, hp⟩ := nums_of_moved hj hk hf
  exact keeps_onQueue s (f := fun q => { q with jobs := f q.jobs }) (keepsQueue_subperm rfl hm hp)

theorem keeps_requeue {j : Job} (hj : j ∈ s.queue.jobs) : Keeps s (onJobs (requeue j) s) := by
  refine keeps_onJobs_moved s (k := { j with stage := .waiting, start := none }) hj rfl ?_
  unfold requeue
  cases h : insertBefore (fun x => x.stage == .waiting) { j with stage := .waiting, start := none }
      (s.queue.jobs.filter (fun x => x.num != j.num)) with
  | none => simp only [h, Option.getD_none]; exact .refl _
  | some l => simp only [h, Option.getD_some]; exact insertBefore_perm h

theorem keeps_clearJam (r : Suspension) (j : Job) : Keeps s (clearJam r j s) := by
  unfold clearJam
  split
  · exact .refl s
  · exact (keeps_setRecord _ _).after ((keeps_setStage _ _ _).after ((keeps_chooseSlot _ _).after (keeps_requestChange s _ _ _ _ _)))

theorem keeps_serve : Keeps s (serve s) := by
  unfold serve
  split
  · split
    · refine (keeps_setRecord _ _).after ?_
      split
      · rename_i hj
        exact keeps_requeue s (State.job_mem hj).1
      · exact .refl s
    · split
      · exact keeps_setRecord s _
      split
      · exact (keeps_setRecord _ _).after (keeps_requestFail s _ _)
      split
      · exact keeps_raise s _
      split
      · exact keeps_clearJam s _ _
      · exact .refl s
  · exact .refl s

theorem keeps_enterRun : Keeps s (enterRun s) := (keeps_serve _).after (keeps_setStation s (by decide))

theorem keeps_giveServed (r : Suspension) (j : Job) : Keeps s (giveServed r j s) := by
  have placed := keeps_setStage s j.num .toPlace
  unfold giveServed
  dsimp only
  split
  · rename_i u hu
    exact (keeps_setRecord _ _).after ((keeps_restartJob _ _).after ((keeps_giveStep _ hu).after placed))
  · exact (keeps_driveFault _).after ((keeps_setRecord _ _).after ((keeps_restartJob _ _).after ((keeps_takeStep _ _ _ _ _).after placed)))
  · exact keeps_raise s _

theorem keeps_serveGive {t : State} (h : serveGive s = some t) : Keeps s t := by
  unfold serveGive at h
  split at h
  · cases h
  split at h
  · split at h
    · cases h; exact keeps_setRecord s _
    · split at h
      · cases h; exact keeps_giveServed s _ _
      · cases h; exact keeps_setRecord s _
  · cases h

theorem keeps_giveMove {j : Job} {kind : StepKind} {place : Place} {t : State} (h : giveMove s j kind place = some t) : Keeps s t := by
  unfold giveMove at h
  split at h
  · rename_i u hu
    cases h
    exact keeps_giveStep s hu
  · cases h
    exact (keeps_driveFault _).after (keeps_takeStep s _ _ _ _)
  · cases h

theorem keeps_nextStep {t : State} (h : nextStep s = some t) : Keeps s t := by
  unfold nextStep at h
  split at h
  · split at h
    · cases h
    split at h
    · cases h
    split at h
    · exact keeps_giveMove s h
    · exact keeps_giveMove s h
    all_goals cases h
  · cases h

theorem keeps_selectJob {j : Job} (hj : j ∈ s.queue.jobs) : Keeps s (selectJob j s) :=
  (keeps_startJob _ _ _).after ((keeps_setStage _ _ _).after (keeps_onJobs_moved s (k := j) hj rfl (.refl _)))

theorem keeps_selection {t : State} (h : selection s = some t) : Keeps s t := by
  unfold selection at h
  split at h
  · obtain ⟨j, hj, rfl⟩ := Option.map_eq_some_iff.mp h
    exact keeps_selectJob s (List.mem_of_find?_eq_some hj)
  · cases h

/-! ## The fire unit's own transitions -/

theorem keeps_parked (breached : Bool) : Keeps s (parked breached s) := by
  unfold parked
  split
  · exact .refl s
  · exact (keeps_onFire _ _).after (keeps_sendParked s _)

theorem keeps_sealedByScl {t : State} (h : sealedByScl s = some t) : Keeps s t := by
  have closed := keeps_onFire s fun f => { f with state := .sealed, shutter := none }
  unfold sealedByScl at h
  dsimp only at h
  split at h
  · split at h
    · cases h
      split
      · exact closed
      · exact (keeps_parked _ _).after closed
    · cases h
  · split at h
    · cases h; exact closed
    · cases h
  all_goals cases h

theorem keeps_reopen {t : State} (h : reopen s = some t) : Keeps s t := by
  unfold reopen at h
  split at h
  · split at h
    · cases h; exact keeps_onFire s _
    · cases h
  · split at h
    · cases h; exact keeps_onFire s _
    · cases h
  all_goals cases h

theorem keeps_toCalm : Keeps s (toCalm s) := keeps_onFire s _

theorem keeps_beginLoading : Keeps s (beginLoading s) :=
  (keeps_onDir _ (f := fun d => { d with
    records := [], emptyCount := 0, writeList := [], port := .reading, portSince := s.clock, attempt := 0, staging := [] })
    ⟨fun _ => Nat.zero_le _, fun _ => rfl, .inr rfl⟩).after (keeps_setStation s (by decide))

theorem keeps_beginAcquire : Keeps s (beginAcquire s) := by
  refine keeps_onLine s ?_
  split
  · exact ⟨id, id⟩
  · exact ⟨id, id⟩

theorem keeps_resume : Keeps s (resume s) := by
  unfold resume
  dsimp only
  split
  · split
    · exact (keeps_beginLoading _).after (keeps_toCalm s)
    split
    · exact (keeps_enterFaulted _).after (keeps_toCalm s)
    split
    · exact (keeps_enterHoming _).after (keeps_toCalm s)
    · exact (keeps_enterRun _).after (keeps_toCalm s)
  · exact keeps_toCalm s

theorem keeps_opened {t : State} (h : opened s = some t) : Keeps s t := by
  unfold opened at h
  split at h
  · cases h; exact keeps_resume s
  · cases h

/-! ## The consequences of a command -/

theorem keeps_craneRests {t : State} (h : craneRests s = some t) : Keeps s t := by
  unfold craneRests at h
  split at h
  · split at h
    · cases h; exact keeps_onCrane_same s rfl rfl
    · cases h; exact keeps_stopCarriedOut s
    all_goals cases h
  · cases h

theorem keeps_haltingReport {t : State} (h : haltingReport s = some t) : Keeps s t := by
  unfold haltingReport at h
  split at h
  · cases h; exact keeps_firstStop s
  · cases h

theorem keeps_homedAtFront {t : State} (h : homedAtFront s = some t) : Keeps s t := by
  unfold homedAtFront at h
  split at h
  · cases h; exact (keeps_enterRun _).after ((keeps_onFaults _ _).after (keeps_onCrane_same s rfl rfl))
  · cases h

theorem keeps_progress {t : State} (h : progress s = some t) : Keeps s t := by
  rcases progress_cases h with h | h | h | h | h | h | h | h | h | h | h | h | h | h
  · exact keeps_finishHeld s h
  · exact keeps_fillOwed s h
  · exact keeps_beginWrite s h
  · exact keeps_stepProgress s h
  · exact keeps_craneRests s h
  · exact keeps_haltingReport s h
  · exact keeps_clearProgress s h
  · exact keeps_homedAtFront s h
  · exact keeps_sealedByScl s h
  · exact keeps_reopen s h
  · exact keeps_opened s h
  · exact keeps_serveGive s h
  · exact keeps_nextStep s h
  · exact keeps_selection s h

theorem keeps_settle : Keeps s (settle s) :=
  settle_keeps (P := Keeps s) (fun _ _ h k => k.trans (keeps_progress _ h)) (.refl s)

end Sys2Proof.Machine
end

section
/-! SUPPORT. `Keeps` for every command, and what follows from it: each command completes and keeps the queue behind it, and
the bounds, the EMPTY count, the whole records, the memory's form, the numbers and the ranges hold after it. -/

namespace Sys2Proof.Machine

set_option Elab.async false

open Sys2Proof

variable (s : State)

/-! ## The front unit -/

theorem keeps_correct (carrier : Nat) (cld : Bool) (f : Front) : (correct carrier cld f).reofferTag = f.reofferTag := by
  unfold correct
  split <;> rfl

theorem keeps_passFront (n clock : Nat) (chm cld : Bool) (f : Front) : (passFront n clock chm cld f).reofferTag = f.reofferTag := by
  have edge : (stopEdge clock f).reofferTag = f.reofferTag := by
    unfold stopEdge
    dsimp only
    split
    · split <;> rfl
    · rfl
  have index (g : Front) : (stepIndex n chm g).reofferTag = g.reofferTag := by
    unfold stepIndex
    split
    · split <;> rfl
    split
    · rfl
    split <;> rfl
  have measured (b : Bool) (ms : Nat) (g : Front) : (measure b ms g).reofferTag = g.reofferTag := by
    unfold measure
    dsimp only
    split
    · split <;> rfl
    · rfl
  unfold passFront
  dsimp only
  split
  · rw [keeps_correct, measured, index, edge]
  · rw [measured, index, edge]

theorem keeps_fire (p : Pusher) (carrier : Nat) (owner : ActionOwner) : Keeps s (fire p carrier owner s) := keeps_onFront s id

theorem keeps_pullTest (cld : Bool) : Keeps s (pullTest cld s) := by
  unfold pullTest
  dsimp only
  split
  · exact .refl s
  split
  · exact keeps_failNow s _ _
  split
  · exact .refl s
  · exact keeps_fire s _ _ _

theorem keeps_loadTest (cld : Bool) : Keeps s (loadTest cld s) := by
  unfold loadTest
  dsimp only
  split
  · exact keeps_fire s _ _ _
  · exact .refl s

theorem keeps_passage (chm cld : Bool) : Keeps s (passage chm cld s) := by
  unfold passage
  split
  · exact .refl s
  · rename_i c _
    have passed (t : State) (ht : Keeps s t) : Keeps s
        (if (t.onFront (passFront c.carriers s.clock chm cld)).front.indexValid = true then
          loadTest cld (pullTest cld (t.onFront (passFront c.carriers s.clock chm cld)))
        else t.onFront (passFront c.carriers s.clock chm cld)) := by
      have moved := (keeps_onFront t (f := passFront c.carriers s.clock chm cld)
        (fun h => (keeps_passFront _ _ _ _ _).trans_le h)).after ht
      split
      · exact (keeps_loadTest _ _).after ((keeps_pullTest _ _).after moved)
      · exact moved
    dsimp only
    split
    · exact passed _ (keeps_raise s _)
    · exact passed _ (.refl s)

theorem keeps_loopStops : Keeps s (loopStops s) := by
  unfold loopStops
  split
  · exact keeps_onFront s id
  · exact .refl s

theorem keeps_endAction : Keeps s (endAction s) := (keeps_releaseHeld _).after (keeps_onFront s id)

theorem keeps_confirmed (a : PusherAction) : Keeps s (confirmed a s) := by
  unfold confirmed
  split
  · exact keeps_endAction s
  · exact keeps_onFront s id

theorem keeps_pulled (a : PusherAction) (job bin : Nat) : Keeps s (pulled a job bin s) := by
  have sent : Keeps s (send (.emptied a.carrier bin) .all (s.onFront (setView a.carrier .free))) :=
    (keeps_send _ _ _).after (keeps_onFront s id)
  unfold pulled
  refine (keeps_confirmed _ _).after ?_
  split
  · refine (keeps_closeClaimed _ _).after (Keeps.after ?_ sent)
    exact keeps_updateJob _ _ fun _ => rfl
  · exact sent

theorem freshTag_le (counter original : Nat) : (freshTag counter original).2 ≤ 255 := by
  unfold freshTag
  dsimp only
  omega

theorem keeps_loadedNow (c : Config) (a : PusherAction) (o : DispatchOwner) : Keeps s (loadedNow c a o s) := by
  have unowned : Keeps s (s.onFront (fun f => { f with owner := .none })) := keeps_onFront s id
  unfold loadedNow
  refine (keeps_confirmed _ _).after ?_
  split
  · split
    · exact (keeps_removeJob _ _).after ((keeps_send _ _ _).after ((keeps_onFront _ id).after unowned))
    · exact (keeps_onFront _ id).after unowned
  · exact (keeps_send _ _ _).after ((keeps_onFront _ fun _ => freshTag_le _ _).after unowned)
  · exact unowned

theorem keeps_intakeChange (occupied : Bool) : Keeps s (intakeChange occupied s) := by
  have read : Keeps s (s.onFront (fun f => { f with intake := occupied })) := keeps_onFront s id
  unfold intakeChange
  split
  · exact .refl s
  · dsimp only
    split
    · split
      · split
        · exact read
        · exact (keeps_settle _).after ((keeps_pulled _ _ _ _).after read)
      · exact read
    · exact read

theorem keeps_dispatchEmptied : Keeps s (dispatchEmptied s) := by
  unfold dispatchEmptied
  split
  · split
    · split
      · exact .refl s
      · exact keeps_loadedNow s _ _ _
    · split
      · exact .refl s
      · exact keeps_dispatchLost s
  · split
    · exact .refl s
    · exact keeps_dispatchLost s
  · exact .refl s

theorem keeps_dispatchChange (occupied : Bool) : Keeps s (dispatchChange occupied s) := by
  have read : Keeps s (s.onFront (fun f => { f with dispatch := occupied })) := keeps_onFront s id
  unfold dispatchChange
  split
  · exact .refl s
  · dsimp only
    split
    · exact read
    · exact (keeps_settle _).after ((keeps_dispatchEmptied _).after read)

theorem keeps_pulseEnd : Keeps s (pulseEnd s) := by
  unfold pulseEnd
  split
  · split
    · split
      · split
        · exact keeps_endAction s
        · exact (keeps_settle _).after (keeps_endAction s)
      · exact keeps_onFront s id
    · exact .refl s
  · exact .refl s

theorem keeps_limitEnd : Keeps s (limitEnd s) := by
  unfold limitEnd
  split
  · split
    · exact (keeps_settle _).after ((keeps_raise _ _).after ((keeps_endAction _).after (keeps_onFront s id)))
    · exact .refl s
  · exact .refl s

/-! ## Frames handed to their blocks -/

theorem keeps_enqueue (f : RxFrame) : Keeps s (enqueue f s) := by
  unfold enqueue
  split
  · refine keeps_onLine s ⟨id, fun _ => ?_⟩
    simp only [List.length_append, List.length_singleton]
    omega
  · exact keeps_onCounters s _

theorem keeps_handFrame {f : RxFrame} {handle : State → State} (h : ∀ t, Keeps t (handle t)) : Keeps s (handFrame f handle s) := by
  rcases handFrame_cases f handle s with ⟨c, b, ⟨_, _, way⟩, e⟩ | e | e <;> rw [e]
  · refine (h b).after ?_
    obtain ⟨_, _, rfl⟩ | ⟨rest, hq, rfl⟩ := way
    · exact .refl _
    · refine keeps_onLine s (f := fun l => { l with rxQueue := rest }) ⟨id, fun hl => ?_⟩
      rw [hq] at hl
      exact (Nat.le_succ _).trans hl
  · exact keeps_enqueue s f
  · exact .refl s

theorem keeps_handFire {f : RxFrame} {handle : Config → State → State} (h : ∀ c t, Keeps t (handle c t)) :
    Keeps s (handFire f handle s) := by
  unfold handFire
  split
  · exact .refl s
  · split
    · exact h _ s
    · exact .refl s

/-! ## Lending -/

/-- The number taken is one of the numbers tried, and free when one of them is. -/
theorem freeNumber_free {jobs : List Job} {fuel n : Nat} (hn : n ≤ 255)
    (hfree : ∃ d, d ≤ fuel ∧ ∀ j ∈ jobs, j.num ≠ (n + d) % 256) :
    freeNumber jobs n fuel ≤ 255 ∧ ∀ j ∈ jobs, j.num ≠ freeNumber jobs n fuel := by
  obtain ⟨d, hd, hfree⟩ := hfree
  induction fuel generalizing n d with
  | zero =>
    obtain rfl : d = 0 := by omega
    rw [Nat.add_zero, Nat.mod_eq_of_lt (by omega)] at hfree
    exact ⟨hn, hfree⟩
  | succ fuel ih =>
    rw [freeNumber]
    split
    · rename_i taken
      obtain ⟨j, hj, he⟩ := List.any_eq_true.mp taken
      have hd0 : d ≠ 0 := by
        rintro rfl
        rw [Nat.add_zero, Nat.mod_eq_of_lt (by omega)] at hfree
        exact hfree j hj (by simpa using he)
      refine ih (n := (n + 1) % 256) (by omega) (d - 1) (by omega) fun k hk => ?_
      have := hfree k hk
      omega
    · rename_i free
      exact ⟨hn, fun j hj he => free (List.any_eq_true.mpr ⟨j, hj, by simpa using he⟩)⟩

/-- Eight jobs leave one of nine numbers in a row free. -/
theorem exists_free_number {jobs : List Job} (hl : jobs.length ≤ 8) (n : Nat) :
    ∃ d, d ≤ 8 ∧ ∀ j ∈ jobs, j.num ≠ (n + d) % 256 := by
  by_contra hall
  push Not at hall
  have sub : (Finset.range 9).image (fun d => (n + d) % 256) ⊆ (jobs.map (·.num)).toFinset := by
    intro m hm
    obtain ⟨d, hd, rfl⟩ := Finset.mem_image.mp hm
    obtain ⟨j, hj, he⟩ := hall d (by have := Finset.mem_range.mp hd; omega)
    exact List.mem_toFinset.mpr (List.mem_map.mpr ⟨j, hj, he⟩)
  have card : ((Finset.range 9).image (fun d => (n + d) % 256)).card = 9 := by
    rw [Finset.card_image_of_injOn, Finset.card_range]
    intro a ha b hb hab
    have := Finset.mem_range.mp (Finset.mem_coe.mp ha)
    have := Finset.mem_range.mp (Finset.mem_coe.mp hb)
    dsimp only at hab
    omega
  have := (Finset.card_le_card sub).trans (List.toFinset_card_le _)
  rw [card, List.length_map] at this
  omega

theorem nextNumber_free {q : JobQueue} (hl : q.jobs.length ≤ 8) (hc : q.counter ≤ 255) :
    q.nextNumber ≤ 255 ∧ ∀ j ∈ q.jobs, j.num ≠ q.nextNumber :=
  freeNumber_free hc (exists_free_number hl q.counter)

/-- Adding a job with the next number to a queue with a place free. -/
theorem keeps_addJob {j : Job} (hroom : s.queueRoom = true) (hj : j.num = s.queue.nextNumber) : Keeps s (addJob j s) where
  pending := rfl
  bounded k := ⟨by
    have := (placeJob_perm j s.queue.jobs).length_eq
    simp only [State.queueRoom, decide_eq_true_eq] at hroom
    show (placeJob j s.queue.jobs).length ≤ 8
    rw [this]
    exact hroom, k.writes, k.offers, k.general, k.received⟩
  emptyCounted := id
  recordsWhole k := ⟨k.all, k.start⟩
  memoryOrdered := id
  numbered k := by
    have perm := placeJob_perm j s.queue.jobs
    obtain ⟨hle, hfree⟩ := nextNumber_free k.room k.counter
    simp only [State.queueRoom, decide_eq_true_eq] at hroom
    refine ⟨perm.length_eq.trans_le hroom, by show (j.num + 1) % 256 ≤ 255; omega, fun x hx => ?_, ?_⟩
    · rcases List.mem_cons.mp (perm.mem_iff.mp hx) with rfl | hx
      · exact hj ▸ hle
      · exact k.byte x hx
    · refine (perm.map (·.num)).nodup_iff.mpr (List.nodup_cons.mpr ⟨fun hm => ?_, k.distinct⟩)
      obtain ⟨x, hx, he⟩ := List.mem_map.mp hm
      exact hfree x hx (he.trans hj)
  ranged k := ⟨k.home, k.count, k.step, k.tag⟩

theorem keeps_queueCall (src bin tag : Nat) (a : SlotAddr) (h : s.queueRoom = true) : Keeps s (queueCall src bin tag a s) :=
  (keeps_settle _).after ((keeps_send _ _ _).after ((keeps_requestChange _ _ _ _ _ _).after (keeps_addJob s h rfl)))

theorem keeps_takeFetch (src bin tag : Nat) : Keeps s (takeFetch src bin tag s) := by
  unfold takeFetch
  split
  · split <;> exact keeps_send s _ _
  · split
    · split
      · split
        · exact keeps_queueCall s _ _ _ _ (by assumption)
        · exact keeps_send s _ _
      · exact keeps_send s _ _
    · exact .refl s

theorem keeps_takeCancel (src bin tag : Nat) : Keeps s (takeCancel src bin tag s) := by
  unfold takeCancel
  split
  · split
    · exact (keeps_settle _).after (keeps_failNow s _ _)
    · exact .refl s
  · exact .refl s

theorem keeps_blockDuplicate (c : Config) (i bin : Nat) : Keeps s (blockDuplicate c i bin s) :=
  (keeps_raise _ _).after (keeps_onDir s (keepsDir_change _ _ _ _ _ _))

theorem keeps_markDuplicate (bin : Nat) : Keeps s (markDuplicate bin s) := by
  unfold markDuplicate
  split
  · split
    · exact keeps_blockDuplicate s _ _ _
    · split
      · exact .refl s
      · exact keeps_blockDuplicate s _ _ _
    · exact keeps_raise s _
    · split
      · exact .refl s
      split
      · exact (keeps_failNow _ _ _).after (keeps_blockDuplicate s _ _ _)
      · exact keeps_raise s _
    · exact .refl s
  · exact .refl s

theorem keeps_takeHold (bin : Nat) (o : HoldOutcome) : Keeps s (takeHold bin o s) := by
  have marked : Keeps s (if s.duplicateHere bin then settle (markDuplicate bin s) else s) := by
    split
    · exact (keeps_settle _).after (keeps_markDuplicate s bin)
    · exact .refl s
  cases o
  · exact marked
  · exact marked
  all_goals exact .refl s

theorem keeps_promoteIn {j : Job} (hj : j ∈ s.queue.jobs) : Keeps s (onJobs (promoteIn j) s) := by
  by_cases hw : (aheadOf j.num s.queue.jobs).any Job.waitingFetch = true
  · cases h : insertBefore Job.waitingFetch { j with promoted := true } (s.queue.jobs.filter (fun x => x.num != j.num)) with
    | none =>
      have : promoteIn j s.queue.jobs = s.queue.jobs := by simp [promoteIn, hw, h]
      exact keeps_onJobs s (by rw [this])
    | some l =>
      have : promoteIn j s.queue.jobs = l := by simp [promoteIn, hw, h]
      exact keeps_onJobs_moved s (k := { j with promoted := true }) hj rfl (this ▸ insertBefore_perm h)
  · have : promoteIn j s.queue.jobs = s.queue.jobs.map (fun x => if x.num = j.num then { j with promoted := true } else x) := by
      simp [promoteIn, hw]
    refine keeps_onJobs s ?_
    rw [this, List.map_map]
    have same : s.queue.jobs.map ((·.num) ∘ fun x => if x.num = j.num then { j with promoted := true } else x)
        = s.queue.jobs.map (·.num) := by
      refine List.map_congr_left fun x _ => ?_
      by_cases hx : x.num = j.num <;> simp [hx]
    rw [same]

theorem keeps_promote (n : Nat) : Keeps s (promote n s) := by
  unfold promote
  split
  · rename_i hj
    split
    · exact keeps_promoteIn s (State.job_mem hj).1
    · exact .refl s
  · exact .refl s

theorem writeRoom_of_slotset {c : Config} {src face bay level state bin : Nat} {r : SlotResult} {a : SlotAddr} {st : SlotState}
    (h : s.slotsetResult c src face bay level state bin = (r, some (a, st))) : s.dir.writeRoom a = true := by
  unfold State.slotsetResult at h
  split at h
  · cases h
  split at h
  · dsimp only at h
    split at h
    · cases h
    split at h
    · cases h
    · rename_i hs
      split at h
      · cases h
      · cases h
        simp only [State.slotSettable, Bool.not_eq_true', Bool.not_eq_false, Bool.and_eq_true] at hs
        exact hs.2
  · cases h

theorem keeps_takeSlotset (src face bay level state bin : Nat) : Keeps s (takeSlotset src face bay level state bin s) := by
  unfold takeSlotset
  split
  · exact .refl s
  · split
    · rename_i h
      refine (keeps_settle _).after (keeps_onDir s ?_)
      exact (keepsDir_put _ _ _).trans (keepsDir_addWrite ((writeRoom_put _ _ _ _).trans (writeRoom_of_slotset s h)))
    · exact keeps_send s _ _

/-! ## Bidding -/

theorem keeps_updateOffer (serial : Nat) (f : OfferEntry → OfferEntry) : Keeps s (updateOffer serial f s) :=
  keeps_onOffers s (f := fun t => { t with entries := t.entries.map (fun e => if e.serial = serial then f e else e) }) fun h => (List.length_map _).trans_le h

theorem keeps_closeEntry (serial : Nat) : Keeps s (closeEntry serial s) :=
  keeps_onOffers s (f := fun t => { t with entries := t.entries.filter (fun e => e.serial != serial) }) fun h => (List.length_filter_le _ _).trans h

theorem keeps_closeWithdrawn (serial : Nat) : Keeps s (closeWithdrawn serial s) := (keeps_closeEntry _ _).after (keeps_withdraw s _)

theorem keeps_placeEntry {e : OfferEntry}
    (h : s.offers.entries.any (fun x => x.carrier == e.carrier) = true ∨ s.offers.entries.length < 4) : Keeps s (placeEntry e s) := by
  refine keeps_onOffers s fun hl => ?_
  dsimp only
  split
  · rw [length_updateFirst]
    exact hl
  · rw [List.length_append, List.length_singleton]
    rcases h with h | h
    · contradiction
    · exact h

theorem keeps_openEntry (c : Config) (src carrier bin tag : Nat) (cost : Option Nat)
    (h : s.offers.entries.any (fun x => x.carrier == carrier) = true ∨ s.offers.entries.length < 4) :
    Keeps s (openEntry c src carrier bin tag cost s) := by
  unfold openEntry
  dsimp only
  have opened (t : State) (ht : Keeps s t) (ho : t.offers = s.offers) (e : OfferEntry) (he : e.carrier = carrier) :
      Keeps s (placeEntry e t) := (keeps_placeEntry t (by rw [ho, he]; exact h)).after ht
  split
  · split
    · exact (keeps_sendOwned _ _ _).after (opened _ (keeps_withdraw s _) rfl _ rfl)
    · exact (keeps_sendOwned _ _ _).after (opened _ (.refl s) rfl _ rfl)
  · split
    · exact opened _ (keeps_withdraw s _) rfl _ rfl
    · exact opened _ (.refl s) rfl _ rfl

theorem keeps_takeOffer (src carrier bin tag : Nat) : Keeps s (takeOffer src carrier bin tag s) := by
  unfold takeOffer
  split
  · exact .refl s
  · rename_i c _
    have entered (t : State) (cost : Option Nat) : Keeps t
        (if t.offers.entries.any (fun e => e.carrier == carrier) || decide (t.offers.entries.length < 4) then
          openEntry c src carrier bin tag cost t
        else t.onCounters (fun k => { k with ignoredOffer := satInc k.ignoredOffer })) := by
      split
      · rename_i h
        exact keeps_openEntry t c src carrier bin tag cost (by simpa using h)
      · exact keeps_onCounters t _
    dsimp only
    split
    · exact (keeps_settle _).after ((entered _ _).after (keeps_markDuplicate s bin))
    · exact (entered _ _).after (keeps_markDuplicate s bin)

theorem keeps_suppress (serial : Nat) : Keeps s (suppress serial s) := by
  unfold suppress
  split <;> exact (keeps_withdraw _ _).after (keeps_updateOffer s _ _)

theorem keeps_takeBid (src carrier tag offerer cost : Nat) : Keeps s (takeBid src carrier tag offerer cost s) := by
  unfold takeBid
  split
  · dsimp only
    split
    · exact (keeps_suppress _ _).after (keeps_updateOffer s _ _)
    · exact keeps_updateOffer s _ _
  · exact .refl s

theorem keeps_takeClaim (src carrier tag offerer cost : Nat) : Keeps s (takeClaim src carrier tag offerer cost s) := by
  unfold takeClaim
  split
  · split
    · exact keeps_closeEntry s _
    · exact keeps_closeEntry s _
    · exact keeps_closeWithdrawn s _
    · dsimp only
      split
      · split
        · exact (keeps_closeWithdrawn _ _).after (keeps_requestYield s _)
        · exact keeps_closeWithdrawn s _
      · exact keeps_closeEntry s _
  · exact .refl s

theorem queueRoom_of_claimSlot {e : OfferEntry} {a : SlotAddr} (h : s.claimSlot e = some a) : s.queueRoom = true := by
  unfold State.claimSlot at h
  split at h
  · rename_i hm
    simp only [State.mayAddStore, Bool.and_eq_true] at hm
    exact hm.1.1.1.2
  · cases h

theorem keeps_claimAttempt (e : OfferEntry) : Keeps s (claimAttempt e s) := by
  unfold claimAttempt
  split
  · exact keeps_closeEntry s _
  · rename_i h
    exact (keeps_updateOffer _ _ _).after ((keeps_sendOwned _ _ _).after
      ((keeps_requestChange _ _ _ _ _ _).after (keeps_addJob s (queueRoom_of_claimSlot s h) rfl)))

theorem keeps_judge (c : Config) (e : OfferEntry) : Keeps s (judge c e s) := by
  unfold judge
  split
  · exact keeps_claimAttempt s e
  · exact keeps_closeEntry s _

theorem keeps_windowEnds (c : Config) (e : OfferEntry) : Keeps s (windowEnds c e s) := by
  unfold windowEnds
  split
  · exact keeps_closeEntry s _
  · split
    · exact (keeps_withdraw _ _).after (keeps_updateOffer s _ _)
    · exact keeps_closeWithdrawn s _
  · exact keeps_judge s c e
  · exact .refl s

theorem keeps_windowEnd (carrier : Nat) : Keeps s (windowEnd carrier s) := by
  unfold windowEnd
  split
  · split
    · exact keeps_windowEnds s _ _
    · exact .refl s
  · exact .refl s

/-! ## Crane events -/

theorem inRange_counted {up : Bool} {x : Axis} (h : x.count ≤ 65535) : (x.counted up).1 ≤ 65535 := by
  unfold Axis.counted
  split
  · split
    · dsimp only; omega
    · split <;> simp
  · split
    · dsimp only; omega
    · split <;> simp

theorem walkDown_le (c : AxisConfig) (d step : Nat) : walkDown c d step ≤ step := by
  induction step with
  | zero => exact Nat.le_refl _
  | succ n ih =>
    unfold walkDown
    split
    · omega
    · omega

theorem inRange_slow (c : AxisConfig) {x : Axis} (h : x.InRange) : (x.slow c).InRange := by
  unfold Axis.slow
  split
  · dsimp only
    split
    · exact h
    · exact ⟨h.1, (walkDown_le _ _ _).trans h.2⟩
  · exact h

theorem inRange_restall (c : AxisConfig) (clock : Nat) {x : Axis} (h : x.InRange) : (x.restall c clock).InRange := by
  unfold Axis.restall
  split <;> exact h

theorem inRange_stopIn (window clock : Nat) {x : Axis} (h : x.InRange) : (x.stopIn window clock).InRange := by
  unfold Axis.stopIn
  split
  · split <;> exact h
  · exact h

theorem inRange_newPeriod (clock : Nat) {x : Axis} (h : x.InRange) : (x.newPeriod clock).InRange := by
  unfold Axis.newPeriod
  split <;> exact h

theorem keeps_creepOn (a : AxisName) {f : Axis → Axis} (hf : ∀ x : Axis, x.InRange → (f x).InRange) : Keeps s (creepOn a f s) := by
  unfold creepOn
  split
  · exact .refl s
  split
  · exact (keeps_settle _).after (keeps_driveHeld s a)
  split
  · exact (keeps_settle _).after (keeps_driveFault s)
  · exact keeps_onAxis s fun h => hf _ ⟨h.1, Nat.zero_le _⟩

theorem keeps_reverse (a : AxisName) : Keeps s (reverse a s) := by
  unfold reverse
  split
  · exact (keeps_settle _).after (keeps_axisFault s _ _)
  · exact keeps_creepOn s a fun _ h => h

theorem keeps_meter (a : AxisName) (clock : Nat) : Keeps s (s.onAxis a (Axis.meter clock)) := keeps_onAxis s fun h => h

theorem keeps_edgeChecks (a : AxisName) (rise limit : Bool) : Keeps s (edgeChecks a rise limit s) := by
  unfold edgeChecks
  split
  · exact (keeps_settle _).after (keeps_axisFault s _ _)
  split
  · split
    · exact keeps_meter s a _
    · exact .refl s
  · rename_i c _
    have slowed : Keeps s (s.onAxis a (fun x => (x.slow (Config.axis c a)).restall (Config.axis c a) s.clock)) :=
      keeps_onAxis s fun h => inRange_restall _ _ (inRange_slow _ h)
    have checked (t : State) (fast : Bool) (ht : Keeps s t) : Keeps s
        (if fast = true then settle (axisFault .overspeed a t)
        else if (t.axis a).overshot c.window = true then reverse a t
        else t.onAxis a (Axis.stopIn c.window s.clock)) := by
      split
      · exact (keeps_settle _).after ((keeps_axisFault _ _ _).after ht)
      split
      · exact (keeps_reverse _ _).after ht
      · exact (keeps_onAxis _ (inRange_stopIn _ _)).after ht
    refine checked _ _ ?_
    split
    · exact (keeps_meter _ a _).after slowed
    · exact slowed

theorem keeps_encoderLost (a : AxisName) (pa pb : Bool) : Keeps s (encoderLost a pa pb s) :=
  (keeps_settle _).after ((keeps_axisFault _ _ _).after (keeps_onAxis s fun h => h))

theorem keeps_sample (a : AxisName) (pa pb : Bool) : Keeps s (sample a pa pb s) := by
  unfold sample
  dsimp only
  split
  · exact .refl s
  split
  · exact keeps_encoderLost s _ _ _
  · exact (keeps_edgeChecks _ _ _ _).after (keeps_onAxis s fun h => ⟨inRange_counted h.1, h.2⟩)

theorem keeps_moveRests (c : Config) (a : AxisName) : Keeps s (moveRests c a s) := by
  unfold moveRests
  dsimp only
  split
  · exact (keeps_settle _).after (keeps_onAxis s fun h => h)
  · exact keeps_creepOn s a fun _ h => h

theorem keeps_homingRests (a : AxisName) : Keeps s (homingRests a s) := by
  unfold homingRests
  split
  · exact (keeps_settle _).after (keeps_homingDrive s _ _ _)
  split
  · cases a
    · exact (keeps_settle _).after (keeps_homingFront s)
    · exact (keeps_settle _).after (keeps_beginAxisHoming s _)
  · exact .refl s

theorem keeps_rest (a : AxisName) : Keeps s (rest a s) := by
  unfold rest
  split
  · exact .refl s
  split
  · split
    · exact keeps_moveRests s _ a
    · exact keeps_homingRests s a
    · exact .refl s
  · exact .refl s

theorem keeps_dutyPeriod (a : AxisName) : Keeps s (dutyPeriod a s) := by
  have begun : Keeps s (s.onAxis a (Axis.newPeriod s.clock)) := keeps_onAxis s (inRange_newPeriod _)
  unfold dutyPeriod
  dsimp only
  split
  · exact (keeps_settle _).after begun
  · exact begun

theorem keeps_stallRunsOut (a : AxisName) : Keeps s (stallRunsOut a s) := by
  unfold stallRunsOut
  split
  · exact (keeps_settle _).after (keeps_axisFault s _ _)
  · exact .refl s

theorem keeps_driveLost : Keeps s (driveLost s) := by
  unfold driveLost
  dsimp only
  split
  · exact keeps_setSensors s _
  · exact (keeps_settle _).after ((keeps_driveFault _).after (keeps_setSensors s _))

theorem keeps_forkReached : Keeps s (forkReached s) := by
  unfold forkReached
  split
  · exact .refl s
  · exact (keeps_settle _).after ((keeps_forkDone _).after (keeps_setSensors s _))

theorem keeps_forkLate : Keeps s (forkLate s) := by
  unfold forkLate
  split
  · exact (keeps_settle _).after (keeps_forkFault s _)
  · exact .refl s

theorem keeps_forkJammed : Keeps s (forkJammed s) := by
  unfold forkJammed
  dsimp only
  split
  · exact keeps_setSensors s _
  · exact (keeps_settle _).after ((keeps_forkFault _ _).after ((keeps_halt _ _ _).after (keeps_setSensors s _)))

theorem keeps_obstruction : Keeps s (obstruction s) := by
  unfold obstruction
  dsimp only
  split
  · split
    · exact (keeps_settle _).after ((keeps_beginFork _ _).after ((keeps_setPhase _ _).after ((keeps_forkDone _).after (keeps_setSensors s _))))
    · exact keeps_setSensors s _
  · exact keeps_setSensors s _

theorem keeps_loseBin : Keeps s (loseBin s) := by
  unfold loseBin
  dsimp only
  split
  · exact (keeps_settle _).after ((keeps_raise _ _).after ((keeps_endMotion _).after ((keeps_haltBoth _).after
      ((keeps_onCrane_same _ rfl rfl).after (keeps_setSensors s _)))))
  · exact keeps_setSensors s _

theorem keeps_homeEdge (a : AxisName) : Keeps s (homeEdge a s) := by
  unfold homeEdge
  dsimp only
  split
  · exact keeps_setSensors s _
  · rename_i c hc
    split
    · refine (keeps_setHoming _ _).after (Keeps.after ?_ (keeps_setSensors s (setHome a true s.sensors)))
      refine keeps_onCrane_of_home _ fun home => ?_
      have held : (s.setSensors (setHome a true s.sensors)).config = some c := by
        unfold State.cfg at hc
        split at hc
        · cases hc
        · exact hc
      obtain ⟨ht, hl⟩ := home c held
      rintro ⟨kt, kl⟩
      cases a
      · exact ⟨⟨ht, kt.2⟩, kl⟩
      · exact ⟨kt, hl, kl.2⟩
    · exact keeps_setSensors s _

theorem keeps_homeReleased (a : AxisName) : Keeps s (homeReleased a s) := by
  unfold homeReleased
  dsimp only
  split
  · exact (keeps_setHoming _ _).after ((keeps_halt _ _ _).after (keeps_setSensors s _))
  · exact keeps_setSensors s _

theorem keeps_homeLate : Keeps s (homeLate s) := by
  unfold homeLate
  split
  · exact (keeps_settle _).after ((keeps_raise _ _).after ((keeps_endMotion _).after (keeps_haltBoth s)))
  · exact .refl s

/-! ## Fire events -/

theorem keeps_shutStation : Keeps s (shutStation s) := by
  unfold shutStation
  split
  · exact .refl s
  · exact .refl s
  all_goals exact keeps_setStation s (by decide)

theorem keeps_endLoadEarly : Keeps s (endLoadEarly s) := by
  unfold endLoadEarly
  split
  · exact (keeps_beginAcquire _).after (keeps_onDir s ⟨id, id, .inl rfl⟩)
  · exact .refl s

theorem keeps_enterHalting : Keeps s (enterHalting s) :=
  (keeps_controlledStop _).after ((keeps_closeOffers _).after ((keeps_onFire _ _).after ((keeps_shutStation _).after (keeps_endLoadEarly s))))

theorem keeps_trigger : Keeps s (trigger s) := by
  unfold trigger
  split
  · exact (keeps_settle _).after (keeps_enterHalting s)
  iterate 5 exact keeps_onFire s _
  · exact (keeps_settle _).after ((keeps_enterSealing _).after (keeps_onFire s _))

theorem keeps_relay : Keeps s (relay s) := by
  unfold relay
  dsimp only
  split
  · exact (keeps_sendAlarm _ _).after (keeps_onFire s _)
  · exact keeps_onFire s _

theorem keeps_finBecomesActive : Keeps s (finBecomesActive s) := by
  unfold finBecomesActive
  split
  · exact (keeps_trigger _).after ((keeps_relay _).after (keeps_onFire s _))
  · exact .refl s

theorem keeps_alarmRepeat : Keeps s (alarmRepeat s) := by
  unfold alarmRepeat
  split
  · exact keeps_relay s
  · exact .refl s

theorem keeps_takeAlarm (c : Config) (mask cause : Nat) : Keeps s (takeAlarm c mask cause s) := by
  unfold takeAlarm
  split
  · exact keeps_trigger s
  · exact .refl s

theorem keeps_takeAllClear (c : Config) (src mask : Nat) : Keeps s (takeAllClear c src mask s) := by
  unfold takeAllClear
  split
  · exact keeps_onCounters s _
  split
  · exact (keeps_settle _).after (keeps_onFire s _)
  · exact .refl s

theorem keeps_deadlineRunsOut : Keeps s (deadlineRunsOut s) := by
  unfold deadlineRunsOut
  split
  · split
    · exact (keeps_settle _).after (keeps_forceSeal s _ _)
    · exact (keeps_settle _).after (keeps_forceSeal s _ _)
    all_goals exact .refl s
  · exact .refl s

theorem keeps_shutterRunsOut : Keeps s (shutterRunsOut s) := by
  unfold shutterRunsOut
  split
  · split
    · refine (keeps_settle _).after ?_
      have breached := (keeps_raise _ .shutter).after (keeps_onFire s fun f => { f with state := .breached, shutter := none })
      split
      · exact breached
      · exact (keeps_parked _ _).after breached
    · refine (keeps_settle _).after ?_
      have calm := (keeps_toCalm _).after (keeps_raise s .shutter)
      split
      · exact (keeps_enterFaulted _).after calm
      · exact calm
    all_goals exact .refl s
  · exact .refl s

theorem keeps_sclLost : Keeps s (sclLost s) := by
  have lost := keeps_onFire s fun f => { f with scl := false }
  unfold sclLost
  dsimp only
  split
  · exact (keeps_settle _).after ((keeps_raise _ _).after ((keeps_onFire _ _).after lost))
  · exact lost

theorem keeps_beaconRunsOut : Keeps s (beaconRunsOut s) := by
  unfold beaconRunsOut
  split
  · exact .refl s
  split
  · exact (keeps_onFaults _ _).after (keeps_sendBeacon s _ _)
  · exact .refl s

/-! ## Line events -/

theorem keeps_startHunt : Keeps s (s.onLine (LineUnit.startHunt s.clock)) := keeps_onLine s ⟨id, id⟩

theorem keeps_loopTest (readBack : List LineChar) : Keeps s (loopTest readBack s) := by
  unfold loopTest
  split
  · exact .refl s
  split
  · split
    · exact keeps_startHunt s
    · exact (keeps_settle _).after (keeps_enterHalted s)
  · exact .refl s

theorem keeps_lockLine (c : Config) (index : Nat) (matched : Bool) : Keeps s (lockLine c index matched s) := by
  have locked : Keeps s (s.onLine (LineUnit.lock s.clock index matched)) := keeps_onLine s ⟨id, id⟩
  have entered (t : State) (ht : Keeps s t) : Keeps s (settle (if t.station = .acquiring then enterHoming t else t)) := by
    refine (keeps_settle _).after ?_
    split
    · exact (keeps_enterHoming _).after ht
    · exact ht
  unfold lockLine
  refine entered _ ?_
  split
  · exact locked
  · exact (keeps_onFaults _ _).after locked

theorem keeps_timedStart (low : Nat) (ch : LineChar) (stop : Bool) : Keeps s (timedStart low ch stop s) := by
  unfold timedStart
  split
  · exact .refl s
  split
  · split
    · exact keeps_onLine s ⟨id, id⟩
    · split
      · exact keeps_onLine s ⟨id, id⟩
      · have matched (i : Nat) : Keeps s (s.onLine (LineUnit.matchAt i)) := keeps_onLine s ⟨id, id⟩
        dsimp only
        split
        · exact (keeps_lockLine _ _ _ _).after (matched _)
        · exact matched _
  · exact .refl s

theorem keeps_rearm (high : Nat) : Keeps s (rearm high s) := by
  unfold rearm
  split
  · exact keeps_onLine s ⟨id, id⟩
  · exact .refl s

theorem keeps_silentLine : Keeps s (silentLine s) := by
  unfold silentLine
  split
  · exact .refl s
  split
  · exact keeps_lockLine s _ _ _
  · exact .refl s

theorem keeps_unreadableLine : Keeps s (unreadableLine s) := by
  unfold unreadableLine
  split
  · exact .refl s
  split
  · exact (keeps_lockLine _ _ _ _).after (keeps_onCounters s _)
  · exact .refl s

theorem keeps_fallingEdge : Keeps s (fallingEdge s) := by
  unfold fallingEdge
  split
  · exact keeps_onLine s ⟨id, id⟩
  · exact keeps_onLine s ⟨id, id⟩
  · exact .refl s
  · exact .refl s

theorem keeps_discard : Keeps s (s.onLine LineUnit.discard) := keeps_onLine s ⟨id, id⟩

theorem keeps_removeEntry (order : Nat) : Keeps s (s.onLine (LineUnit.removeEntry order)) :=
  keeps_onLine s ⟨fun h => (List.length_filter_le _ _).trans h, id⟩

theorem keeps_withheldCloses (serial : Nat) : Keeps s (withheldCloses serial s) := by
  unfold withheldCloses
  split
  · exact .refl s
  split
  · exact keeps_closeEntry s _
  · exact keeps_updateOffer s _ _
  · exact .refl s

theorem keeps_dropWithdrawn (e : TxEntry) : Keeps s (dropWithdrawn e s) := by
  unfold dropWithdrawn
  dsimp only
  split
  · exact (keeps_withheldCloses _ _).after (keeps_removeEntry s _)
  · exact keeps_removeEntry s _

theorem keeps_rehunt : Keeps s (rehunt s) := by
  unfold rehunt
  dsimp only
  split
  · split
    · exact (keeps_dropWithdrawn _ _).after (keeps_startHunt s)
    · exact keeps_startHunt s
  · exact keeps_startHunt s

theorem keeps_framing : Keeps s (framing s) := by
  have counted : Keeps s ((s.onCounters (fun k => { k with framing := satInc k.framing })).onLine (fun l =>
      { (if l.receiving then l.discard else l) with tally := tallied s.clock l.tally })) := by
    refine (keeps_onLine _ ?_).after (keeps_onCounters s _)
    split
    · exact ⟨id, id⟩
    · exact ⟨id, id⟩
  unfold framing
  dsimp only
  split
  · exact (keeps_rehunt _).after counted
  · exact counted

theorem keeps_charEnds : Keeps s (charEnds s) := keeps_onLine s ⟨id, id⟩

theorem keeps_afterHeader : Keeps s (afterHeader s) := by
  unfold afterHeader
  dsimp only
  split
  · exact (keeps_discard _).after (keeps_onCounters s _)
  · exact keeps_onLine s ⟨id, id⟩

theorem keeps_afterCheck : Keeps s (afterCheck s) := by
  unfold afterCheck
  dsimp only
  split
  · exact keeps_onLine s ⟨id, id⟩
  · exact (keeps_discard _).after (keeps_onCounters s _)

theorem keeps_frameChar (data : Byte) : Keeps s (frameChar data s) := by
  have taken : Keeps s (s.onLine (fun l => { l with rxBuf := l.rxBuf ++ [data] })) := keeps_onLine s ⟨id, id⟩
  unfold frameChar
  dsimp only
  split
  · split
    · exact (keeps_afterHeader _).after taken
    · exact taken
  · split
    · exact (keeps_onLine _ ⟨id, id⟩).after taken
    · exact taken
  · split
    · exact (keeps_afterCheck _).after taken
    · exact taken
  · exact taken
  · exact taken

theorem keeps_receive (ch : LineChar) : Keeps s (receive ch s) := by
  have inFrame : Keeps s (if ch.mark then framing s else frameChar ch.data s) := by
    split
    · exact keeps_framing s
    · exact keeps_frameChar s _
  unfold receive
  split
  · split
    · exact keeps_onLine s ⟨id, id⟩
    · exact .refl s
  · split
    · exact keeps_onLine s ⟨id, id⟩
    split
    · exact .refl s
    · exact keeps_discard s
  all_goals exact inFrame

theorem keeps_gapAbort : Keeps s (gapAbort s) := by
  unfold gapAbort
  split
  · exact (keeps_discard _).after (keeps_onCounters s _)
  · exact .refl s

theorem keeps_frameComplete : Keeps s (frameComplete s) := by
  have taken : Keeps s (s.onLine (fun l => { l with rxDone := none })) := keeps_onLine s ⟨id, id⟩
  unfold frameComplete
  split
  · dsimp only
    split
    · split
      · refine Keeps.after ?_ taken
        unfold dispatchFrame
        split
        · exact keeps_takeAlarm _ _ _ _
        · exact keeps_takeAllClear _ _ _ _
        · exact keeps_enqueue _ _
      · exact taken
    · exact (keeps_onCounters _ _).after taken
  · exact .refl s

theorem keeps_takeStats (src clear : Nat) : Keeps s (takeStats src clear s) := by
  unfold takeStats
  refine (keeps_send _ _ _).after ?_
  split
  · exact (keeps_onFront _ id).after (keeps_onCounters s _)
  · exact .refl s

theorem keeps_startAttempt : Keeps s (startAttempt s) := by
  rcases startAttempt_cases s with h | ⟨c, e, _, _, h⟩ <;> rw [h]
  · exact .refl s
  · exact keeps_onLine s ⟨fun hl => (List.length_map _).trans_le hl, id⟩

theorem keeps_bidWentOut (c : Config) (serial : Nat) : Keeps s (bidWentOut c serial s) := by
  unfold bidWentOut
  split
  · exact .refl s
  split
  · dsimp only
    split
    · exact (keeps_judge _ _ _).after (keeps_updateOffer s _ _)
    · exact keeps_updateOffer s _ _
  · exact .refl s

theorem keeps_reportSent (c : Config) (e : TxEntry) : Keeps s (reportSent c e s) := by
  unfold reportSent
  split
  · exact keeps_onFaults s _
  split
  · exact keeps_bidWentOut s _ _
  · exact .refl s

theorem keeps_frameOut (c : Config) (a : Attempt) : Keeps s (frameOut c a s) := by
  have out : Keeps s (s.onLine (fun l => { l.removeEntry a.order with attempt := none, idleFrom := max l.idleFrom s.clock })) :=
    keeps_onLine s ⟨fun h => (List.length_filter_le _ _).trans h, id⟩
  unfold frameOut
  dsimp only
  split
  · exact (keeps_reportSent _ _ _).after out
  · exact out

theorem keeps_sent (readBack : List LineChar) : Keeps s (sent readBack s) := by
  unfold sent
  split
  · split
    · exact keeps_frameOut s _ _
    · exact .refl s
  · exact .refl s

theorem keeps_reportDropped (e : TxEntry) : Keeps s (reportDropped e s) := by
  unfold reportDropped
  split
  · exact keeps_onFaults s _
  split
  · exact keeps_updateOffer s _ _
  · exact .refl s

theorem keeps_afterCollision (e : TxEntry) : Keeps s (afterCollision e s) := by
  unfold afterCollision
  split
  · exact keeps_dropWithdrawn s e
  split
  · exact keeps_onLine s ⟨fun hl => (List.length_map _).trans_le hl, id⟩
  · exact (keeps_reportDropped _ _).after ((keeps_raise _ _).after ((keeps_countLost _).after (keeps_removeEntry s _)))

theorem keeps_collided (a : Attempt) : Keeps s (collided a s) := by
  have ended : Keeps s ((s.onCounters (fun k => { k with collision := satInc k.collision })).onLine (fun l =>
      { l with attempt := none, backoffGen := stepBackoff l.backoffGen, idleFrom := max l.idleFrom s.clock })) :=
    (keeps_onLine _ ⟨id, id⟩).after (keeps_onCounters s _)
  unfold collided
  dsimp only
  split
  · exact (keeps_afterCollision _ _).after ended
  · exact ended

theorem keeps_collide (readBack : List LineChar) : Keeps s (collide readBack s) := by
  rcases collide_cases readBack s with h | ⟨a, _, _, _, h⟩ <;> rw [h]
  · exact .refl s
  · exact keeps_collided s a

theorem keeps_readBackChar (ch : LineChar) (a : Attempt) : Keeps s (readBackChar ch a s) := by
  unfold readBackChar
  split
  · split
    · exact keeps_frameOut s _ _
    · exact keeps_collided s a
  · split
    · exact keeps_onLine s ⟨id, id⟩
    · exact keeps_collided s a
  · exact keeps_collided s a

theorem keeps_character (ch : LineChar) : Keeps s (character ch s) := by
  unfold character
  split
  · dsimp only
    split
    · exact (keeps_readBackChar _ _ _).after (keeps_charEnds s)
    · exact (keeps_receive _ _).after (keeps_charEnds s)
  · exact .refl s

theorem keeps_framingError : Keeps s (framingError s) := by
  unfold framingError
  split
  · have framed := (keeps_framing _).after (keeps_charEnds s)
    dsimp only
    split
    · exact (keeps_collided _ _).after framed
    · exact framed
  · exact .refl s

/-! ## The start, the memory port, the key -/

/-- In START no record is held, so that a configuration read there changes no whole directory; its home counts are words. -/
theorem keeps_holdConfig {s : State} {c : Config} (hs : s.station = .start) (hc : c.travel.home ≤ 65535 ∧ c.lift.home ≤ 65535) :
    Keeps s (holdConfig c s) where
  pending := rfl
  bounded k := ⟨k.jobs, k.writes, k.offers, k.general, k.received⟩
  emptyCounted := id
  recordsWhole k := ⟨.inl (k.start hs), k.start⟩
  memoryOrdered := id
  numbered k := ⟨k.room, k.counter, k.byte, k.distinct⟩
  ranged k := ⟨fun d hd => by cases hd; exact hc, k.count, k.step, k.tag⟩

theorem keeps_leaveStart : Keeps s (leaveStart s) := by
  unfold leaveStart
  split
  · exact keeps_beginLoading s
  · exact (keeps_beginAcquire _).after ((keeps_onFire _ _).after (keeps_setStation s (by decide)))

theorem readConfig_home {record : List Byte} {c : Config} (h : readConfig record = some c) :
    c.travel.home ≤ 65535 ∧ c.lift.home ≤ 65535 := by
  unfold readConfig at h
  split at h
  · rename_i hv
    obtain ⟨_, _, valid⟩ := hv
    cases h
    simp only [Config.valid, axisValid, within, Bool.and_eq_true, decide_eq_true_eq] at valid
    omega
  · cases h

theorem keeps_takeConfig (record : List Byte) : Keeps s (takeConfig record s) := by
  unfold takeConfig
  split
  · rename_i hs
    have read : Keeps s (s.setMemory (Memory.setAll 0 record s.memory)) := keeps_setMemory s Memory.wf_setAll
    dsimp only
    split
    · rename_i c hc
      refine (keeps_settle _).after ((keeps_leaveStart _).after (read.trans ?_))
      exact keeps_holdConfig hs (readConfig_home hc)
    · exact (keeps_settle _).after ((keeps_enterHalted _).after read)
  · exact .refl s

theorem keeps_readTimeout : Keeps s (readTimeout s) := by
  unfold readTimeout
  split
  · exact (keeps_settle _).after (keeps_enterHalted s)
  · exact .refl s

/-- The records of a load that has read them all are as many as the slots. -/
theorem keeps_holdRecords {s : State} {c : Config} (hs : s.station ≠ .start) (hc : s.config = some c)
    (hl : s.dir.staging.length = Config.capacity c) : Keeps s (holdRecords s) := by
  have held : Keeps s (s.onDir (fun d =>
      { d with records := markDuplicates s.dir.staging, emptyCount := countEmpty (markDuplicates s.dir.staging)
               port := .idle, staging := [] })) :=
    { pending := rfl
      bounded k := ⟨k.jobs, k.writes, k.offers, k.general, k.received⟩
      emptyCounted _ := rfl
      recordsWhole _ := ⟨.inr ⟨c, hc, (List.length_map _).trans hl⟩, fun h => absurd h hs⟩
      memoryOrdered := id
      numbered k := ⟨k.room, k.counter, k.byte, k.distinct⟩
      ranged k := ⟨k.home, k.count, k.step, k.tag⟩ }
  unfold holdRecords
  dsimp only
  have corrupt : Keeps s (if s.dir.staging.any SlotRec.madeCorrupt = true then raise .directory (s.onDir (fun d =>
      { d with records := markDuplicates s.dir.staging, emptyCount := countEmpty (markDuplicates s.dir.staging)
               port := .idle, staging := [] })) else s.onDir (fun d =>
      { d with records := markDuplicates s.dir.staging, emptyCount := countEmpty (markDuplicates s.dir.staging)
               port := .idle, staging := [] })) := by
    split
    · exact (keeps_raise _ _).after held
    · exact held
  split
  · exact (keeps_raise _ _).after corrupt
  · exact corrupt

theorem keeps_reapplyHeld : Keeps s (reapplyHeld s) := by
  unfold reapplyHeld
  split
  · exact .refl s
  · have freed (f : Crane → Crane) (ht : ∀ c, (f c).travel = c.travel) (hl : ∀ c, (f c).lift = c.lift) : Keeps s (s.onCrane f) :=
      keeps_onCrane_same s (ht _) (hl _)
    dsimp only
    split
    · exact (keeps_resultJob _ _ _ _).after (freed _ (fun _ => rfl) fun _ => rfl)
    · exact (keeps_resultJob _ _ _ _).after ((keeps_forceSlot _ _ _ _ _).after (freed _ (fun _ => rfl) fun _ => rfl))

theorem keeps_reapplyJob (j : Job) : Keeps s (reapplyJob s j) := by
  unfold reapplyJob
  split
  · exact .refl s
  split
  · split
    · split
      · split
        · exact keeps_onDir s (keepsDir_change _ _ _ _ _ _)
        · exact .refl s
      · exact .refl s
    · exact .refl s
  · split
    · exact keeps_forceSlot s _ _ _ _
    split
    · exact keeps_requestChange s _ _ _ _ _
    · exact keeps_chooseSlot s _

theorem keeps_blockDuplicates (c : Config) (l : List Job) (sa : State × Bool) : Keeps sa.1 (l.foldl (blockDuplicates c) sa).1 := by
  induction l generalizing sa with
  | nil => exact .refl _
  | cons j js ih =>
    refine (ih _).after ?_
    exact keeps_foldl (f := fun t i => t.onDir (Directory.change (slotAt c i) i (.blocked .duplicate) j.bin none))
      (fun t i => keeps_onDir t (keepsDir_change _ _ _ _ _ _)) _ _

theorem keeps_reapply : Keeps s (reapply s) := by
  unfold reapply
  split
  · exact .refl s
  · rename_i c _
    have kept (l : List Job) := (keeps_foldl keeps_reapplyJob l _).after (keeps_reapplyHeld s)
    dsimp only
    split
    · exact (keeps_raise _ _).after ((keeps_blockDuplicates c _ (_, false)).after (kept _))
    · exact (keeps_blockDuplicates c _ (_, false)).after (kept _)

theorem keeps_endLoad {s : State} {c : Config} (hs : s.station ≠ .start) (hc : s.config = some c)
    (hl : s.dir.staging.length = Config.capacity c) : Keeps s (endLoad s) := by
  have kept := (keeps_reapply _).after (keeps_holdRecords hs hc hl)
  unfold endLoad
  dsimp only
  split
  · exact (keeps_enterHoming _).after kept
  · exact (keeps_beginAcquire _).after ((keeps_setStation _ (by decide)).after kept)

theorem keeps_takeImage (bytes : List Byte) : Keeps s (takeImage bytes s) := by
  unfold takeImage
  split
  · exact .refl s
  · rename_i c hc
    split
    · rename_i h
      obtain ⟨hs, _, _⟩ := h
      have hne : s.station ≠ .halted := by rw [hs]; decide
      have read : Keeps s ((s.setMemory (Memory.setAll (imageAddress s.dir.staging.length) bytes s.memory)).onDir (fun d =>
          { d with staging := d.staging ++ [readImage bytes], portSince := s.clock })) :=
        (keeps_onDir _ ⟨id, id, .inl rfl⟩).after (keeps_setMemory s Memory.wf_setAll)
      dsimp only
      split
      · rename_i hl
        have started : s.station ≠ .start := by rw [hs]; decide
        refine (keeps_settle _).after (read.trans ?_)
        exact keeps_endLoad started ((State.cfg_of_not_halted s hne).symm.trans hc) hl
      · exact read
    · exact .refl s

theorem keeps_panelReset : Keeps s (panelReset s) := by
  have cleared := (keeps_closeOffers _).after (keeps_onFaults s fun u => { u with current := 0 })
  unfold panelReset
  dsimp only
  split
  · exact (keeps_beginLoading _).after cleared
  · exact (keeps_enterHoming _).after cleared

theorem keeps_turnKey : Keeps s (turnKey s) := by
  unfold turnKey
  split
  · dsimp only
    split
    · exact (keeps_settle _).after ((keeps_panelReset _).after (keeps_setKey s _ _ _))
    · exact keeps_setKey s _ _ _
  · exact .refl s

theorem keeps_prkChange (active : Bool) : Keeps s (prkChange active s) := by
  unfold prkChange
  split
  · split
    · exact .refl s
    · exact keeps_setKey s _ _ _
  · exact keeps_setKey s _ _ _

theorem keeps_writeDone : Keeps s (writeDone s) := by
  unfold writeDone
  split
  · exact keeps_onDir s ⟨id, id, .inl rfl⟩
  · exact .refl s

theorem keeps_endWrite : Keeps s (s.onDir Directory.endWrite) := by
  refine keeps_onDir s ⟨fun h => ?_, id, .inl rfl⟩
  rw [Directory.endWrite, List.length_drop]
  omega

theorem keeps_sendAcks (c : Config) (a : SlotAddr) (n : Nat) : ∀ t : State, Keeps t (sendAcks c a n t) := by
  induction n with
  | zero => exact .refl
  | succ n ih => exact fun t => (ih _).after (keeps_send t _ _)

theorem keeps_verified (c : Config) (e : WriteEntry) : Keeps s (verified c e s) := by
  unfold verified
  refine (keeps_sendAcks _ _ _ _).after ?_
  split
  · exact (keeps_removeJob _ _).after ((keeps_send _ _ _).after (keeps_endWrite s))
  · exact keeps_endWrite s

theorem keeps_failedAttempt (c : Config) (e : WriteEntry) : Keeps s (failedAttempt c e s) := by
  unfold failedAttempt
  split
  · exact (keeps_setMemory _ Memory.wf_dropAll).after (keeps_onDir s ⟨id, id, .inl rfl⟩)
  · have failed := (keeps_raise _ .memory).after (keeps_endWrite s)
    dsimp only
    split
    · exact (keeps_requestFail _ _ _).after failed
    · exact failed

theorem keeps_readback (bytes : List Byte) : Keeps s (readback bytes s) := by
  unfold readback
  split
  · split
    · refine (keeps_settle _).after ?_
      split
      · exact (keeps_verified _ _ _).after (keeps_setMemory s Memory.wf_setAll)
      · exact (keeps_failedAttempt _ _ _).after (keeps_setMemory s Memory.wf_setAll)
    · exact .refl s
  · exact .refl s

theorem keeps_writeLate : Keeps s (writeLate s) := by
  unfold writeLate
  split
  · split
    · exact (keeps_settle _).after (keeps_failedAttempt s _ _)
    · exact .refl s
  · exact .refl s

/-! ## The supply -/

/-- A station at its power-on values but for its pins, its memory and the commands waiting. -/
theorem keeps_powerOnValues {t : State} (pending : t.pending = s.pending) (config : t.config = none) (memory : t.memory = s.memory)
    (dir : t.dir = Directory.reset) (queue : t.queue = JobQueue.reset) (tag : t.front.reofferTag = 0)
    (travel : t.crane.travel.count = 0 ∧ t.crane.travel.step = 0) (lift : t.crane.lift.count = 0 ∧ t.crane.lift.step = 0)
    (offers : t.offers = OfferTable.reset) (line : t.line = LineUnit.reset) : Keeps s t where
  pending := pending
  bounded _ := ⟨by rw [queue]; decide, by rw [dir]; decide, by rw [offers]; decide, by rw [line]; decide, by rw [line]; decide⟩
  emptyCounted _ := by unfold EmptyCounted; rw [dir]; rfl
  recordsWhole _ := ⟨.inl (by rw [dir]; rfl), fun _ => by rw [dir]; rfl⟩
  memoryOrdered h := by unfold MemoryOrdered; rw [memory]; exact h
  numbered _ := ⟨by rw [queue]; decide, by rw [queue]; decide, by rw [queue]; decide, by rw [queue]; decide⟩
  ranged _ := ⟨fun c hc => (nomatch config.symm.trans hc), ⟨by omega, by omega⟩, ⟨by omega, by omega⟩, by omega⟩

theorem keeps_poweredOn (pins : PowerPins) : Keeps s (poweredOn pins s) :=
  keeps_powerOnValues s rfl rfl rfl rfl rfl rfl ⟨rfl, rfl⟩ ⟨rfl, rfl⟩ rfl rfl

theorem keeps_unpowered : Keeps s (unpowered s) := keeps_powerOnValues s rfl rfl rfl rfl rfl rfl ⟨rfl, rfl⟩ ⟨rfl, rfl⟩ rfl rfl

/-! ## Every command -/

/-- A command completes, with all that `Keeps` holds. -/
def Completes (i : Instr) (s : State) : Prop := ∃ t, exec i s = .next t ∧ Keeps s t

theorem completes_whenOn {i : Instr} {now : Now} {act : State → State} (he : exec i s = whenOn now s act)
    (h : ∀ t, Keeps t (act t)) : Completes i s := by
  refine ⟨_, he, ?_⟩
  split
  · exact (h _).after (keeps_arrive s now)
  · exact .refl s

theorem exec_completes (i : Instr) : Completes i s := by
  cases i with
  | powerOn pins => exact ⟨_, rfl, keeps_poweredOn s pins⟩
  | nrstActive => exact ⟨_, rfl, keeps_unpowered s⟩
  | powerOff => exact ⟨_, rfl, keeps_unpowered s⟩
  | configRead now record => exact completes_whenOn s rfl (keeps_takeConfig · record)
  | memoryReadTimeout now => exact completes_whenOn s rfl keeps_readTimeout
  | imageRecordRead now b0 b1 b2 b3 => exact completes_whenOn s rfl (keeps_takeImage · _)
  | keyTurn now => exact completes_whenOn s rfl keeps_turnKey
  | writeDoneReport now => exact completes_whenOn s rfl keeps_writeDone
  | readbackDone now b0 b1 b2 b3 => exact completes_whenOn s rfl (keeps_readback · _)
  | writeTimeout now => exact completes_whenOn s rfl keeps_writeLate
  | slotset now src face bay level state bin =>
    exact completes_whenOn s rfl fun t => keeps_handFrame t (keeps_takeSlotset · _ _ _ _ _ _)
  | fetch now src bin tag => exact completes_whenOn s rfl fun t => keeps_handFrame t (keeps_takeFetch · _ _ _)
  | cancel now src bin tag => exact completes_whenOn s rfl fun t => keeps_handFrame t (keeps_takeCancel · _ _ _)
  | hold now src bin tag requester outcome estimate => exact completes_whenOn s rfl fun t => keeps_handFrame t (keeps_takeHold · _ _)
  | storePromotion now job => exact completes_whenOn s rfl (keeps_promote · _)
  | encoderEdge now axis a b => exact completes_whenOn s rfl (keeps_sample · _ _ _)
  | endLimitSwitch now w =>
    exact completes_whenOn s rfl fun t => (keeps_settle _).after ((keeps_axisFault _ _ _).after (keeps_setSensors t _))
  | axisAtRest now axis => exact completes_whenOn s rfl (keeps_rest · _)
  | dutyPeriodStart now axis => exact completes_whenOn s rfl (keeps_dutyPeriod · _)
  | stallExpiry now axis => exact completes_whenOn s rfl (keeps_stallRunsOut · _)
  | drdyInactive now => exact completes_whenOn s rfl keeps_driveLost
  | forkSensorReached now => exact completes_whenOn s rfl keeps_forkReached
  | forkTimerExpiry now => exact completes_whenOn s rfl keeps_forkLate
  | fkcLost now => exact completes_whenOn s rfl keeps_forkJammed
  | fprObstruction now => exact completes_whenOn s rfl keeps_obstruction
  | binLost now => exact completes_whenOn s rfl keeps_loseBin
  | homeSwitchEdge now axis => exact completes_whenOn s rfl (keeps_homeEdge · _)
  | homeSwitchReleased now axis => exact completes_whenOn s rfl (keeps_homeReleased · _)
  | homeTimerExpiry now => exact completes_whenOn s rfl keeps_homeLate
  | carrierPassage now chm cld => exact completes_whenOn s rfl (keeps_passage · _ _)
  | loopStoppedTimeout now => exact completes_whenOn s rfl keeps_loopStops
  | intakeOccupancyChange now occupied => exact completes_whenOn s rfl (keeps_intakeChange · _)
  | dispatchOccupancyChange now occupied => exact completes_whenOn s rfl (keeps_dispatchChange · _)
  | pusherPulseEnd now => exact completes_whenOn s rfl keeps_pulseEnd
  | pusherLimitExpiry now => exact completes_whenOn s rfl keeps_limitEnd
  | loaded now src carrier bin destination tag =>
    exact completes_whenOn s rfl fun t => keeps_handFrame t fun u => keeps_onFront u id
  | emptied now src carrier bin => exact completes_whenOn s rfl fun t => keeps_handFrame t fun u => keeps_onFront u id
  | offer now src carrier bin tag =>
    exact completes_whenOn s rfl fun t => keeps_handFrame t fun u => (keeps_onFront _ id).after (keeps_takeOffer u _ _ _ _)
  | bid now src carrier tag offerer cost => exact completes_whenOn s rfl fun t => keeps_handFrame t (keeps_takeBid · _ _ _ _ _)
  | claim now src carrier tag offerer cost => exact completes_whenOn s rfl fun t => keeps_handFrame t (keeps_takeClaim · _ _ _ _ _)
  | bidWindowEnd now carrier => exact completes_whenOn s rfl (keeps_windowEnd · _)
  | finActive now => exact completes_whenOn s rfl keeps_finBecomesActive
  | finInactive now => exact completes_whenOn s rfl fun t => keeps_onFire t _
  | finSettled now => exact completes_whenOn s rfl keeps_settle
  | alarmRepeatTimer now => exact completes_whenOn s rfl keeps_alarmRepeat
  | alarm now src zoneMask cause => exact completes_whenOn s rfl fun t => keeps_handFire t fun c u => keeps_takeAlarm u c _ _
  | allclear now src zoneMask => exact completes_whenOn s rfl fun t => keeps_handFire t fun c u => keeps_takeAllClear u c _ _
  | deadlineTimerExpiry now => exact completes_whenOn s rfl keeps_deadlineRunsOut
  | shutterTimerExpiry now => exact completes_whenOn s rfl keeps_shutterRunsOut
  | sclActive now => exact completes_whenOn s rfl fun t => (keeps_settle _).after (keeps_onFire t _)
  | sclInactive now => exact completes_whenOn s rfl keeps_sclLost
  | sopActive now => exact completes_whenOn s rfl fun t => (keeps_settle _).after (keeps_setSensors t _)
  | beaconTimerExpiry now => exact completes_whenOn s rfl keeps_beaconRunsOut
  | loopTestDone now readBack => exact completes_whenOn s rfl (keeps_loopTest · _)
  | huntStartTimed now low char stop => exact completes_whenOn s rfl (keeps_timedStart · _ _ _)
  | silentLineFallback now => exact completes_whenOn s rfl keeps_silentLine
  | unreadableLineFallback now => exact completes_whenOn s rfl keeps_unreadableLine
  | framingError now => exact completes_whenOn s rfl keeps_framingError
  | frameGapAbort now => exact completes_whenOn s rfl keeps_gapAbort
  | frameReceived now => exact completes_whenOn s rfl keeps_frameComplete
  | stats now src clear => exact completes_whenOn s rfl fun t => keeps_handFrame t (keeps_takeStats · _ _)
  | txAttemptStart now => exact completes_whenOn s rfl keeps_startAttempt
  | frameSent now => exact completes_whenOn s rfl (keeps_sent · _)
  | collision now => exact completes_whenOn s rfl (keeps_collide · _)
  | bothPhasesChanged now axis => exact completes_whenOn s rfl fun t => keeps_encoderLost t _ _ _
  | finReadActive now => exact completes_whenOn s rfl fun t => keeps_onFire t _
  | prkInputChange now active => exact completes_whenOn s rfl (keeps_prkChange · _)
  | lrxFallingEdge now => exact completes_whenOn s rfl keeps_fallingEdge
  | characterReceived now char => exact completes_whenOn s rfl (keeps_character · _)
  | huntRearm now => exact completes_whenOn s rfl (keeps_rearm · _)

/-- Settles O2: `whenOn` and the supply's commands answer a next state, and no operation touches the commands waiting. -/
theorem commandsCompleteAndKeepQueue : Obligations.CommandsCompleteAndKeepQueue := fun c s =>
  let ⟨t, he, hk⟩ := exec_completes s c
  ⟨t, he, hk.pending⟩

/-- What the commands keep, whatever the commands waiting, the step keeps. -/
theorem step_keeps {P : State → Prop} (hq : ∀ s q, P s → P (s.setPending q)) (hk : ∀ s t, Keeps s t → P s → P t)
    {s t : State} (hs : P s) (h : step s = .next t) : P t := by
  unfold step at h
  split at h
  · cases h
    exact hs
  · rename_i c rest _
    obtain ⟨u, he, hu⟩ := exec_completes (s.setPending rest) c
    rw [he] at h
    cases h
    exact hk _ _ hu (hq s rest hs)

/-- Settles O57, by `Keeps` over every command. -/
theorem everyStepKeepsRoom : Obligations.EveryStepKeepsRoom := fun _ _ =>
  step_keeps (fun _ _ k => ⟨k.jobs, k.writes, k.offers, k.general, k.received⟩) fun _ _ k => k.bounded

/-- Settles O58, by `Keeps` over every command. -/
theorem everyStepCountsEmpty : Obligations.EveryStepCountsEmpty :=
  ⟨fun _ _ => step_keeps (fun _ _ => id) fun _ _ k => k.emptyCounted,
    fun _ _ => step_keeps (fun _ _ k => ⟨k.all, k.start⟩) fun _ _ k => k.recordsWhole,
    fun _ _ => step_keeps (fun _ _ => id) fun _ _ k => k.memoryOrdered⟩

/-- Settles O59: by `Keeps` over every command, and the next number free among nine. -/
theorem everyStepKeepsRanges : Obligations.EveryStepKeepsRanges :=
  ⟨fun _ _ => step_keeps (fun _ _ k => ⟨k.room, k.counter, k.byte, k.distinct⟩) fun _ _ k => k.numbered,
    fun _ k => nextNumber_free k.room k.counter,
    fun _ _ => step_keeps (fun _ _ k => ⟨k.home, k.count, k.step, k.tag⟩) fun _ _ k => k.ranged⟩

end Sys2Proof.Machine
end

section
/-! SUPPORT. A station whose consequences can only be writes: the write list filled and the port taken up, nothing else. -/

namespace Sys2Proof.Machine

set_option Elab.async false

open Sys2Proof

/-! ## Nothing follows but writes -/

/-- `AtRest` without what it says of the directory: no consequence is due but an owed or unbegun write. -/
structure OnlyWrites (s : State) : Prop where
  held : s.crane.held = none
  step : s.crane.step = none
  mode : s.crane.mode ≠ .step ∧ s.crane.mode ≠ .stopping
  front : s.crane.homing ≠ some .front
  clearing : s.crane.clearing = none
  halting : s.fire.state = .halting → s.crane.mode ≠ .stopped
  scl : s.fire.state = .sealing ∨ s.fire.state = .breached → s.fire.scl = false
  reopening : s.fire.state = .sealed ∨ s.fire.state = .breached → s.fire.allClear = false ∨ s.finSettledNow = false
  sop : s.fire.state = .reopening → s.sensors.sop = false
  record : s.inService = true → s.faults.suspension = none
  active : s.inService = true → ∀ j ∈ s.queue.jobs, j.stage ≠ .toPick ∧ j.stage ≠ .toPlace
  eligible : s.inService = true → s.activeJob = none → ∀ j ∈ s.queue.jobs, s.eligible j = false

theorem AtRest.onlyWrites {s : State} (h : AtRest s) : OnlyWrites s :=
  ⟨h.held, h.step, h.mode, h.front, h.clearing, h.halting, h.scl, h.reopening, h.sop, h.record, h.active, h.eligible⟩

theorem OnlyWrites.atRest {s : State} (h : OnlyWrites s) (owed : s.dir.firstOwed = none)
    (writes : s.dir.writeList = [] ∨ s.dir.port ≠ .idle) : AtRest s :=
  ⟨h.held, owed, writes, h.step, h.mode, h.front, h.clearing, h.halting, h.scl, h.reopening, h.sop, h.record, h.active, h.eligible⟩

/-- Writes leave it so. -/
theorem OnlyWrites.withDir {s : State} (h : OnlyWrites s) (d : Directory) (m : List Host.Cell) :
    OnlyWrites { s with dir := d, memory := m } :=
  ⟨h.held, h.step, h.mode, h.front, h.clearing, h.halting, h.scl, h.reopening, h.sop, h.record, h.active, h.eligible⟩

/-- Out of service, in CALM, with the crane neither in a step nor stopping nor homing to the front, only writes can follow. -/
theorem OnlyWrites.of_idle_station {s : State} (held : s.crane.held = none) (step : s.crane.step = none)
    (mode : s.crane.mode ≠ .step ∧ s.crane.mode ≠ .stopping) (front : s.crane.homing ≠ some .front)
    (clearing : s.crane.clearing = none) (calm : s.fire.state = .calm) (station : s.station ≠ .run) : OnlyWrites s := by
  have out : s.inService = true → False := by simp [State.inService, station]
  exact ⟨held, step, mode, front, clearing, by simp [calm], by simp [calm], by simp [calm], by simp [calm],
    fun h => (out h).elim, fun h => (out h).elim, fun h => (out h).elim⟩

theorem OnlyWrites.progress_eq {s : State} (h : OnlyWrites s) : progress s = (fillOwed s <|> beginWrite s) := by
  let r := h.withDir { s.dir with records := [], writeList := [] } s.memory
  have rest : AtRest { s with dir := { s.dir with records := [], writeList := [] }, memory := s.memory } := r.atRest rfl (.inl rfl)
  have h6 : haltingReport s = none := by
    unfold haltingReport
    exact if_neg fun ⟨hf, hm⟩ => h.halting hf hm
  have h8 : homedAtFront s = none := by
    unfold homedAtFront
    exact if_neg fun ⟨hf, _⟩ => h.front hf
  have h9 : sealedByScl s = none := by
    unfold sealedByScl
    dsimp only
    split
    · rename_i hf; rw [if_neg (by simp [h.scl (.inl hf)])]
    · rename_i hf; rw [if_neg (by simp [h.scl (.inr hf)])]
    all_goals rfl
  have h10 : reopen s = none := by
    have shut (hf : s.fire.state = .sealed ∨ s.fire.state = .breached) : ¬ (s.fire.allClear && s.finSettledNow) = true := by
      rcases h.reopening hf with hc | hc <;> simp [hc]
    unfold reopen
    split
    · rename_i hf; rw [if_neg (shut (.inl hf))]
    · rename_i hf; rw [if_neg (shut (.inr hf))]
    all_goals rfl
  have h11 : opened s = none := by
    unfold opened
    exact if_neg fun ⟨hf, hs⟩ => by simp [h.sop hf] at hs
  unfold progress
  simp [finishHeld_none h.held, stepProgress_none h.step, craneRests_none h.mode, h6, clearProgress_none h.clearing, h8, h9, h10, h11,
    serveGive_none h.record, nextStep_none h.active, selection_none h.eligible]

/-- The records as two directories hold them differ in their write-owed marks at most, and not at all where none is set. -/
structure SameSlots (d e : Directory) : Prop where
  slots : e.records.map (fun r => (r.state, r.bin)) = d.records.map (fun r => (r.state, r.bin))
  unowed : d.firstOwed = none → e.records = d.records

theorem SameSlots.refl (d : Directory) : SameSlots d d := ⟨rfl, fun _ => rfl⟩

theorem SameSlots.trans {a b c : Directory} (h : SameSlots a b) (k : SameSlots b c) : SameSlots a c := by
  refine ⟨k.slots.trans h.slots, fun ha => ?_⟩
  have hb := h.unowed ha
  exact (k.unowed (by rw [Directory.firstOwed, hb]; exact ha)).trans hb

theorem map_setAt_same {α β : Type} {f : α → β} {i : Nat} {x y : α} {l : List α} (h : getAt i l = some y) (hf : f x = f y) :
    (setAt i x l).map f = l.map f := by
  induction l generalizing i with
  | nil => simp
  | cons z zs ih =>
    cases i with
    | zero => cases h; simp [hf]
    | succ k => simp [ih h]

theorem sameSlots_put {i : Nat} {r old : SlotRec} {d : Directory} (h : getAt i d.records = some old) (hs : r.state = old.state)
    (hb : r.bin = old.bin) : (Directory.put i r d).records.map (fun r => (r.state, r.bin)) = d.records.map (fun r => (r.state, r.bin)) := by
  rcases put_cases i r d with ⟨_, hp⟩ | ⟨_, _, hp⟩ <;> rw [hp]
  exact map_setAt_same h (by rw [hs, hb])

theorem fillOwed_sameSlots {s t : State} (h : fillOwed s = some t) :
    ∃ d, t = { s with dir := d } ∧ SameSlots s.dir d := by
  unfold fillOwed at h
  split at h
  · rename_i c i _ owed
    split at h
    · split at h
      · rename_i r hr
        cases h
        refine ⟨_, rfl, ?_, fun hn => absurd (owed.symm.trans hn) (by simp)⟩
        unfold Directory.oweWrite
        split
        · rw [addWrite_records]
          exact sameSlots_put hr rfl rfl
        · exact sameSlots_put hr rfl rfl
      · cases h
    · cases h
  · cases h

theorem beginWrite_sameSlots {s t : State} (h : beginWrite s = some t) :
    ∃ d m, t = { s with dir := d, memory := m } ∧ SameSlots s.dir d := by
  unfold beginWrite at h
  split at h
  · split at h
    · cases h
      exact ⟨_, _, rfl, rfl, fun _ => rfl⟩
    · cases h
  · cases h

/-- Where only writes can follow, the consequences change the directory and the memory alone, and of the records their marks. -/
theorem OnlyWrites.settle_eq {s : State} (h : OnlyWrites s) :
    ∃ d m, settle s = { s with dir := d, memory := m } ∧ SameSlots s.dir d := by
  refine settle_keeps (P := fun t => ∃ d m, t = { s with dir := d, memory := m } ∧ SameSlots s.dir d) ?_
    ⟨s.dir, s.memory, rfl, .refl _⟩
  rintro _ u hu ⟨d, m, rfl, hd⟩
  rw [(h.withDir d m).progress_eq] at hu
  rcases orElse_cases hu with hu | hu
  · obtain ⟨e, rfl, he⟩ := fillOwed_sameSlots hu
    exact ⟨e, m, rfl, hd.trans he⟩
  · obtain ⟨e, m', rfl, he⟩ := beginWrite_sameSlots hu
    exact ⟨e, m', rfl, hd.trans he⟩

/-! ## The crane stopped -/

/-- `k` is the crane `c` stopped at once (R65): still, out of any step, homing or clearing, its held step and its counts kept. -/
structure StopsCrane (c k : Crane) : Prop where
  mode : k.mode = .stopped
  travel : k.travel.Quiet
  lift : k.lift.Quiet
  step : k.step = none
  homing : k.homing = none
  clearing : k.clearing = none
  held : k.held = c.held
  counts : k.travel.count = c.travel.count ∧ k.lift.count = c.lift.count
  homed : k.travel.homed = c.travel.homed ∧ k.lift.homed = c.lift.homed

/-- A stopped crane is still and in no step, and homing and clearing moves are in progress in their modes alone (R54, R58). -/
structure StillWhenStopped (c : Crane) : Prop where
  still : c.mode = .stopped → c.travel.Quiet ∧ c.lift.Quiet ∧ c.step = none
  homing : c.homing.isSome = true → c.mode = .homing
  clearing : c.clearing.isSome = true → c.mode = .clearing

theorem CraneHeld.stillWhenStopped {s : State} (h : CraneHeld s) : StillWhenStopped s.crane := ⟨h.still, h.homing, h.clearing⟩

theorem StillWhenStopped.homing_none {c : Crane} (h : StillWhenStopped c) (hm : c.mode ≠ .homing) : c.homing = none := by
  cases hh : c.homing with
  | none => rfl
  | some p => exact absurd (h.homing (by rw [hh]; rfl)) hm

theorem StillWhenStopped.clearing_none {c : Crane} (h : StillWhenStopped c) (hm : c.mode ≠ .clearing) : c.clearing = none := by
  cases hh : c.clearing with
  | none => rfl
  | some p => exact absurd (h.clearing (by rw [hh]; rfl)) hm

/-- The emergency stop of a crane, stopped before or not. -/
theorem emergencyStop_stopsCrane {s : State} (h : StillWhenStopped s.crane) :
    ∃ k, emergencyStop s = { s with crane := k } ∧ StopsCrane s.crane k := by
  obtain ⟨k, hk⟩ := emergencyStop_crane s
  refine ⟨k, hk, ?_⟩
  by_cases hm : s.crane.mode = .stopped
  · have again : emergencyStop s = s.onCrane Crane.answerAgain := if_pos hm
    obtain rfl : k = s.crane.answerAgain := by
      have := hk.symm.trans again
      exact congrArg State.crane this
    obtain ⟨ht, hl, hs⟩ := h.still hm
    exact ⟨hm, ht, hl, hs, h.homing_none (by rw [hm]; decide), h.clearing_none (by rw [hm]; decide), rfl, ⟨rfl, rfl⟩, ⟨rfl, rfl⟩⟩
  · have stops := emergencyStop_stops hm
    rw [hk] at stops
    obtain ⟨mode, travel, lift, _, step, homing, _, clearing, held⟩ := stops
    dsimp only at mode travel lift step homing clearing held
    exact ⟨mode, travel ▸ halt_quiet _ _, lift ▸ halt_quiet _ _, step, homing, clearing, held, by rw [travel, lift]; exact ⟨rfl, rfl⟩,
      by rw [travel, lift]; exact ⟨rfl, rfl⟩⟩

end Sys2Proof.Machine
end

section
/-! SUPPORT. The start, the load and the key (chapters 1 and 10). -/

namespace Sys2Proof.Machine

set_option Elab.async false

open Sys2Proof

/-! ## HALTED (R184) -/

/-- A station in HALTED with the crane stopped and the fire unit CALM acts by nothing. -/
theorem progress_halted {s : State} (station : s.station = .halted) (calm : s.fire.state = .calm) (mode : s.crane.mode = .stopped)
    (homing : s.crane.homing = none) : progress s = none := by
  have cfg : s.cfg = none := by simp [State.cfg, station]
  have out : s.inService = false := by simp [State.inService, station]
  have unserved : serveGive s = none := by
    unfold serveGive
    split
    · rfl
    · rw [if_neg (by simp [out])]
  unfold progress
  simp [finishHeld, fillOwed, beginWrite, stepProgress, clearProgress, cfg, craneRests_none (s := s) (by simp [mode]), haltingReport, calm,
    homedAtFront, homing, sealedByScl, reopen, opened, unserved, nextStep, out, selection]

/-- Entering HALTED in CALM: what R184 stops and keeps; nothing follows. -/
theorem halts_enterHalted {a t : State} (calm : a.fire.state = .calm) (still : CraneHeld a)
    (dir : t.dir.writeList = a.dir.writeList ∧ t.dir.records = a.dir.records) (faults : t.faults = a.faults)
    (queue : t.queue = a.queue) (front : t.front = a.front) (line : t.line.counters = a.line.counters) (fire : t.fire = a.fire)
    (config : t.config = a.config) (crane : t.crane = a.crane) : Halts a (settle (enterHalted t)) := by
  have hcalm : t.fire.state = .calm := by rw [fire]; exact calm
  obtain ⟨st, hst, stops⟩ := emergencyStop_stopsCrane (s := t.setStation .halted) (by rw [State.setStation_crane, crane]; exact still.stillWhenStopped)
  have entered : enterHalted t = { t with
      station := .halted, crane := st
      line := { t.line with
        mode := .off, rx := .awaitLead, rxBuf := [], rxDone := none, rxQueue := [], general := [], reserved := none, attempt := none }
      faults := { t.faults with beacon := none }
      dir := { t.dir with port := .idle, staging := [] }
      front := { t.front with action := none }
      queue := { t.queue with held := [] }
      offers := { t.offers with entries := [] } } := by
    unfold enterHalted
    dsimp only
    rw [hst]
    simp only [State.onLine, State.onFaults, State.onDir, State.onFront, State.onQueue, State.onOffers, State.setStation, hcalm]
  rw [entered, settle_of_none (by exact progress_halted rfl hcalm stops.mode stops.homing)]
  exact {
    station := rfl
    crane := ⟨stops.mode, stops.travel, stops.lift⟩
    outputs := by
      refine ⟨?_, ?_, ?_, ?_⟩
      · simp [State.outputs, stops.travel.duty]
      · simp [State.outputs, stops.lift.duty]
      · simp [State.outputs, pushing]
      · simp [State.outputs, pushing]
    line := ⟨rfl, rfl, rfl, rfl, rfl⟩
    counters := line
    beacon := rfl
    port := ⟨rfl, dir⟩
    front := ⟨rfl, by rw [← front], by rw [← front]⟩
    offers := rfl
    jobs := ⟨by rw [← queue], rfl⟩
    faults := ⟨by rw [← faults], by rw [← faults], by rw [← faults]⟩
    fire := fire
    config := config }

/-! ## START (R178) -/

/-- Settles O4: a valid record leads to the load, from which nothing follows yet; any other outcome enters HALTED. -/
theorem startReadsAreJudged : Obligations.StartReadsAreJudged := by
  intro now record s a ha hp calm
  refine ⟨fun c start rest hc => ?_, fun still => ⟨fun start hc => ?_, fun start late => ?_, fun loading port late => ?_⟩⟩
  · have taken : takeConfig record a = { a with
          memory := Memory.setAll 0 record a.memory
          station := .loading
          config := some c
          line := { a.line with backoffGen := BitVec.ofNat 16 c.address }
          front := { a.front with view := List.replicate c.carriers .unknown, stopTimer := some (a.clock + 5000000) }
          dir := { a.dir with records := [], emptyCount := 0, writeList := [], port := .reading, portSince := a.clock,
                              attempt := 0, staging := [] } } := by
      unfold takeConfig
      rw [if_pos start]
      simp only [hc]
      unfold leaveStart
      rw [if_pos (by exact calm)]
      refine settle_atRest (OnlyWrites.atRest (.of_idle_station rest.held rest.step rest.mode rest.front rest.clearing calm ?_) rfl (.inl rfl))
      exact fun h => nomatch h
    exact (whenOn_at ha hp).trans (congrArg _ taken)
  · refine ⟨_, whenOn_at ha hp, ?_⟩
    unfold takeConfig
    rw [if_pos start]
    simp only [hc]
    exact halts_enterHalted calm still ⟨rfl, rfl⟩ rfl rfl rfl rfl rfl rfl rfl
  · refine ⟨_, whenOn_at ha hp, ?_⟩
    have run : msec 20 ≤ a.clock := by unfold msec; omega
    have timeout : a.readLate = true := by simp [State.readLate, start, run]
    unfold readTimeout
    rw [if_pos timeout]
    exact halts_enterHalted calm still ⟨rfl, rfl⟩ rfl rfl rfl rfl rfl rfl rfl
  · refine ⟨_, whenOn_at ha hp, ?_⟩
    have run : a.dir.portSince + msec 20 ≤ a.clock := by unfold msec; omega
    have timeout : a.readLate = true := by simp [State.readLate, loading, port, State.portLate, run]
    unfold readTimeout
    rw [if_pos timeout]
    exact halts_enterHalted calm still ⟨rfl, rfl⟩ rfl rfl rfl rfl rfl rfl rfl

end Sys2Proof.Machine
end

section
/-! SUPPORT. What failing work leaves alone, and the station in FAULTED (R36, R145, R162 to R166). -/

namespace Sys2Proof.Machine

set_option Elab.async false

open Sys2Proof

/-! ## What failing work leaves alone -/

/-- `t` is `s` with jobs failed, requests held, a record formed and offers closed: no more than the directory, the job queue, the
offers, the record and the frames queued has changed, nor the crane but by the move end of a step. -/
structure FailsWork (s t : State) : Prop where
  powered : t.powered = s.powered
  clock : t.clock = s.clock
  sensors : t.sensors = s.sensors
  station : t.station = s.station
  config : t.config = s.config
  key : t.prk = s.prk ∧ t.prkArmed = s.prkArmed ∧ t.prkRun = s.prkRun
  front : t.front = s.front
  fire : t.fire = s.fire
  sets : t.faults.current = s.faults.current ∧ t.faults.accrued = s.faults.accrued
  memory : t.memory = s.memory
  pending : t.pending = s.pending
  line : ∃ g n k, t.line = { s.line with general := g, nextOrder := n, counters := k }
  counts : t.crane.travel.count = s.crane.travel.count ∧ t.crane.lift.count = s.crane.lift.count
  held : t.crane.held = s.crane.held
  crane : s.crane.mode ≠ .step → t.crane = s.crane

theorem FailsWork.refl (s : State) : FailsWork s s :=
  ⟨rfl, rfl, rfl, rfl, rfl, ⟨rfl, rfl, rfl⟩, rfl, rfl, ⟨rfl, rfl⟩, rfl, rfl, ⟨_, _, _, rfl⟩, ⟨rfl, rfl⟩, rfl, fun _ => rfl⟩

theorem FailsWork.trans {s t u : State} (h : FailsWork s t) (k : FailsWork t u) : FailsWork s u where
  powered := k.powered.trans h.powered
  clock := k.clock.trans h.clock
  sensors := k.sensors.trans h.sensors
  station := k.station.trans h.station
  config := k.config.trans h.config
  key := ⟨k.key.1.trans h.key.1, k.key.2.1.trans h.key.2.1, k.key.2.2.trans h.key.2.2⟩
  front := k.front.trans h.front
  fire := k.fire.trans h.fire
  sets := ⟨k.sets.1.trans h.sets.1, k.sets.2.trans h.sets.2⟩
  memory := k.memory.trans h.memory
  pending := k.pending.trans h.pending
  line := by
    obtain ⟨_, _, _, hl⟩ := h.line
    obtain ⟨_, _, _, kl⟩ := k.line
    exact ⟨_, _, _, by rw [kl, hl]⟩
  counts := ⟨k.counts.1.trans h.counts.1, k.counts.2.trans h.counts.2⟩
  held := k.held.trans h.held
  crane hm := by
    have hc := h.crane hm
    exact (k.crane (by rw [hc]; exact hm)).trans hc

/-- Directory, queue and offers may be anything; the record may be too. -/
theorem failsWork_of_blocks (s : State) (d : Directory) (q : JobQueue) (x : OfferTable) (r : Option Suspension) :
    FailsWork s { s with dir := d, queue := q, offers := x, faults := { s.faults with suspension := r } } :=
  ⟨rfl, rfl, rfl, rfl, rfl, ⟨rfl, rfl, rfl⟩, rfl, rfl, ⟨rfl, rfl⟩, rfl, rfl, ⟨_, _, _, rfl⟩, ⟨rfl, rfl⟩, rfl, fun _ => rfl⟩

theorem failsWork_send (body : TxBody) (dest : Dest) (s : State) : FailsWork s (send body dest s) := by
  rcases send_cases body dest s with ⟨_, h⟩ | ⟨_, h⟩ <;> rw [h] <;>
    exact ⟨rfl, rfl, rfl, rfl, rfl, ⟨rfl, rfl, rfl⟩, rfl, rfl, ⟨rfl, rfl⟩, rfl, rfl, ⟨_, _, _, rfl⟩, ⟨rfl, rfl⟩, rfl, fun _ => rfl⟩

theorem failsWork_releaseFor (j : Job) (s : State) : FailsWork s (releaseFor j s) := by
  obtain ⟨d, hd⟩ := releaseFor_onDir j s
  rw [hd]
  exact failsWork_of_blocks s d _ _ _

theorem failsWork_moveEnd (s : State) : FailsWork s (moveEnd s) := by
  unfold moveEnd
  split
  · rename_i hm
    have same (x : Axis) : (x.rampDown s.clock).count = x.count := by
      unfold Axis.rampDown
      split <;> rfl
    exact ⟨rfl, rfl, rfl, rfl, rfl, ⟨rfl, rfl, rfl⟩, rfl, rfl, ⟨rfl, rfl⟩, rfl, rfl, ⟨_, _, _, rfl⟩, ⟨same _, same _⟩, rfl,
      fun h => absurd hm h⟩
  · exact .refl s

theorem failsWork_removed (n : Nat) (s : State) : FailsWork s (closeClaimed n (removeJob n s)) :=
  failsWork_of_blocks s s.dir _ _ s.faults.suspension

theorem failsWork_failNow (n : Nat) (o : FailOutcome) (s : State) : FailsWork s (failNow n o s) := by
  unfold failNow
  split
  · exact .refl s
  · rename_i j _
    have sent := (failsWork_releaseFor j s).trans (failsWork_send (.failed j.bin j.tag o) (.station j.requester) _)
    have gone := sent.trans (failsWork_removed n _)
    dsimp only
    split
    · exact gone.trans (failsWork_moveEnd _)
    · exact gone

theorem failsWork_requestFail (n : Nat) (o : FailOutcome) (s : State) : FailsWork s (requestFail n o s) := by
  rcases requestFail_cases n o s with ⟨_, h⟩ | ⟨_, h⟩ <;> rw [h]
  · exact failsWork_of_blocks s _ _ _ _
  · exact failsWork_failNow n o s

theorem FailsWork.foldl {α : Type} {f : State → α → State} (h : ∀ t x, FailsWork t (f t x)) (l : List α) (s : State) :
    FailsWork s (l.foldl f s) := by
  induction l generalizing s with
  | nil => exact .refl s
  | cons x xs ih => exact (h s x).trans (ih _)

theorem failsWork_failWaiting (o : FailOutcome) (s : State) : FailsWork s (failWaiting o s) := by
  refine .foldl (fun t j => ?_) _ s
  split
  · exact failsWork_requestFail j.num o t
  · exact .refl t

theorem failsWork_setRecord (r : Option Suspension) (s : State) : FailsWork s (setRecord r s) := failsWork_of_blocks s _ _ _ r

theorem failsWork_disposeActive (cause : Cause) (o : FailOutcome) (s : State) : FailsWork s (disposeActive cause o s) := by
  unfold disposeActive
  split
  · exact .refl s
  · split
    · exact .refl s
    · split
      · split
        · exact failsWork_setRecord none s
        · exact .refl s
      · rename_i j _
        split
        · split
          · exact failsWork_setRecord none s
          · exact .refl s
        · split
          · exact failsWork_setRecord none s
          · split
            · split
              · exact failsWork_setRecord _ s
              · exact (failsWork_requestFail j.num o s).trans (failsWork_setRecord none _)
            · split
              · exact (failsWork_requestFail j.num o s).trans (failsWork_setRecord none _)
              · exact failsWork_setRecord _ s

theorem failsWork_closeOffers (s : State) : FailsWork s (closeOffers s) :=
  ⟨rfl, rfl, rfl, rfl, rfl, ⟨rfl, rfl, rfl⟩, rfl, rfl, ⟨rfl, rfl⟩, rfl, rfl, ⟨_, _, _, rfl⟩, ⟨rfl, rfl⟩, rfl, fun _ => rfl⟩

/-! ## Entering FAULTED (R164) -/

/-- The crane of a station that has entered FAULTED: stopped at once, and unhomed. -/
structure FaultedCrane (c k : Crane) : Prop where
  mode : k.mode = .stopped
  travel : k.travel.Quiet ∧ k.travel.brake = true ∧ k.travel.homed = false
  lift : k.lift.Quiet ∧ k.lift.brake = true ∧ k.lift.homed = false
  fork : k.fork = none ∧ k.step = none ∧ k.homing = none ∧ k.homeTimer = none
  clearing : k.clearing = none
  held : k.held = c.held
  carry : k.carry = c.carry
  counts : k.travel.count = c.travel.count ∧ k.lift.count = c.lift.count

theorem emergencyStop_carry (s : State) : (emergencyStop s).crane.carry = s.crane.carry := by
  unfold emergencyStop
  split <;> rfl

/-- The station as its crane has been stopped for FAULTED, the work not yet disposed of. -/
def faultStopped (s : State) : State := clearHomed (emergencyStop (s.setStation .faulted))

theorem faultStopped_crane {s : State} (h : s.crane.mode ≠ .stopped) :
    ∃ k, faultStopped s = { s with station := .faulted, crane := k } ∧ FaultedCrane s.crane k := by
  obtain ⟨mode, travel, lift, fork, step, homing, timer, clearing, held⟩ := emergencyStop_stops (s := s.setStation .faulted) h
  obtain ⟨k, hk⟩ := emergencyStop_crane (s.setStation .faulted)
  have carry := emergencyStop_carry (s.setStation .faulted)
  rw [hk] at mode travel lift fork step homing timer clearing held carry
  dsimp only [State.setStation_crane, State.setStation_clock] at mode travel lift fork step homing timer clearing held carry
  refine ⟨(clearHomed { s with crane := k }).crane, ?_, ?_⟩
  · unfold faultStopped
    rw [hk]
    rfl
  · simp only [clearHomed, Crane.onBoth, State.onCrane, travel, lift]
    exact ⟨mode, ⟨⟨rfl, rfl, rfl⟩, rfl, rfl⟩, ⟨⟨rfl, rfl, rfl⟩, rfl, rfl⟩, ⟨fork, step, homing, timer⟩, clearing, held, carry, rfl, rfl⟩

theorem failsWork_enterFaulted (s : State) : FailsWork (faultStopped s) (enterFaulted s) :=
  ((failsWork_disposeActive _ _ _).trans (failsWork_failWaiting _ _)).trans (failsWork_closeOffers _)

/-- The work disposed of touches the stopped crane no more. -/
theorem enterFaulted_crane {s : State} (h : s.crane.mode ≠ .stopped) : FaultedCrane s.crane (enterFaulted s).crane := by
  obtain ⟨k, hk, stopped⟩ := faultStopped_crane h
  have fails := failsWork_enterFaulted s
  rw [hk] at fails
  rw [fails.crane (by rw [stopped.mode]; exact (nomatch ·))]
  exact stopped

/-- In FAULTED, with the fire unit CALM and no step held, only writes can follow. -/
theorem onlyWrites_enterFaulted {s : State} (mode : s.crane.mode ≠ .stopped) (held : s.crane.held = none)
    (calm : s.fire.state = .calm) : OnlyWrites (enterFaulted s) := by
  obtain ⟨k, hk, _⟩ := faultStopped_crane mode
  have fails := failsWork_enterFaulted s
  rw [hk] at fails
  have stopped := enterFaulted_crane mode
  refine .of_idle_station (stopped.held.trans held) stopped.fork.2.1 ?_ ?_ stopped.clearing ?_ ?_
  · rw [stopped.mode]
    exact ⟨(nomatch ·), (nomatch ·)⟩
  · rw [stopped.fork.2.2.1]
    exact fun h => nomatch h
  · rw [fails.fire]
    exact calm
  · rw [fails.station]
    exact fun h => nomatch h

/-- Entered out of RUN or HOMING, FAULTED stops the crane and closes the offers, and keeps what R164 does not name. -/
theorem enterFaulted_settled {s : State} {f : FaultName} (mode : s.crane.mode ≠ .stopped) (held : s.crane.held = none)
    (calm : s.fire.state = .calm) (current : inSet s.faults.current f = true) (accrued : inSet s.faults.accrued f = true) :
    InFaulted f (settle (enterFaulted s)) ∧ KeptByFault s (settle (enterFaulted s)) := by
  obtain ⟨d, m, hs, _⟩ := (onlyWrites_enterFaulted mode held calm).settle_eq
  obtain ⟨k, hk, _⟩ := faultStopped_crane mode
  have fails := failsWork_enterFaulted s
  rw [hk] at fails
  have stopped := enterFaulted_crane mode
  obtain ⟨g, n, c, line⟩ := fails.line
  rw [hs]
  exact ⟨{
    station := fails.station
    current := by show inSet (enterFaulted s).faults.current f = true; rw [fails.sets.1]; exact current
    accrued := by show inSet (enterFaulted s).faults.accrued f = true; rw [fails.sets.2]; exact accrued
    mode := stopped.mode
    travel := stopped.travel
    lift := stopped.lift
    fork := stopped.fork
    offers := rfl }, {
    travel := stopped.counts.1
    lift := stopped.counts.2
    front := fails.front
    fire := fails.fire
    config := fails.config
    key := fails.key
    clock := fails.clock
    receiver := by
      show (enterFaulted s).line.mode = _ ∧ _
      rw [line]
      exact ⟨rfl, rfl, rfl, rfl, rfl, rfl, rfl⟩
    pending := fails.pending }⟩

/-- In RUN and HOMING a severe fault enters FAULTED (R162). -/
theorem raise_entered {s : State} {f : FaultName} (severe : f.severe = true) (station : s.station = .run ∨ s.station = .homing) :
    raise f s = enterFaulted (recordFault f s) := by
  rcases raise_cases f s with ⟨_, h | h⟩ | ⟨_, _, h⟩ | ⟨_, h, _⟩
  · rw [severe] at h
    cases h
  · rcases station with hs | hs
    · exact absurd hs h.1
    · exact absurd hs h.2
  · exact h
  · rw [h] at station
    rcases station with hs | hs <;> cases hs

/-- A severe fault raised in RUN or HOMING, the crane not yet stopped, enters FAULTED (R162, R164). -/
theorem raise_settled {s : State} {f : FaultName} (severe : f.severe = true) (station : s.station = .run ∨ s.station = .homing)
    (mode : s.crane.mode ≠ .stopped) (held : s.crane.held = none) (calm : s.fire.state = .calm) :
    InFaulted f (settle (raise f s)) ∧ KeptByFault s (settle (raise f s)) := by
  rw [raise_entered severe station]
  obtain ⟨inf, kept⟩ := enterFaulted_settled (s := recordFault f s) (f := f) mode held calm (inSet_or_bit _ _) (inSet_or_bit _ _)
  exact ⟨inf, ⟨kept.travel, kept.lift, kept.front, kept.fire, kept.config, kept.key, kept.clock, kept.receiver, kept.pending⟩⟩

/-- The crane after such a fault. -/
theorem raise_settled_crane {s : State} {f : FaultName} (severe : f.severe = true) (station : s.station = .run ∨ s.station = .homing)
    (mode : s.crane.mode ≠ .stopped) (held : s.crane.held = none) (calm : s.fire.state = .calm) :
    FaultedCrane s.crane (settle (raise f s)).crane := by
  rw [raise_entered severe station]
  obtain ⟨d, m, hs, _⟩ := (onlyWrites_enterFaulted (s := recordFault f s) mode held calm).settle_eq
  rw [hs]
  exact enterFaulted_crane (s := recordFault f s) mode

/-- In RUN and HOMING the fire unit is CALM. -/
theorem CraneHeld.calm {s : State} (h : CraneHeld s) (station : s.station = .run ∨ s.station = .homing) : s.fire.state = .calm := by
  by_contra hf
  rcases station with hs | hs <;> rcases h.fire hf with hx | hx | hx <;> rw [hs] at hx <;> cases hx

/-- A mild fault is put in the sets alone. -/
theorem raise_mild {f : FaultName} (s : State) (h : f.severe = false) : raise f s = recordFault f s := by
  simp [raise, h]

end Sys2Proof.Machine
end

section
/-! SUPPORT. A passage of the loop conveyor (R71 to R84): the front unit's own steps, and what the two tests can do. -/

namespace Sys2Proof.Machine

set_option Elab.async false

open Sys2Proof

/-! ## The front unit's steps (R72, R73, R77) -/

/-- CLD corrects the view and its counter alone. -/
theorem correct_keeps (carrier : Nat) (cld : Bool) (f : Front) :
    ∃ v k, correct carrier cld f = { f with view := v, corrections := k } := by
  unfold correct
  split <;> exact ⟨_, _, rfl⟩

/-- It leaves the view alone, or replaces the carrier's entry. -/
theorem correct_cases (carrier : Nat) (cld : Bool) (f : Front) :
    correct carrier cld f = f ∨ ∃ e k, correct carrier cld f = { setView carrier e f with corrections := k } := by
  unfold correct
  split
  · exact .inr ⟨_, _, rfl⟩
  · exact .inr ⟨_, _, rfl⟩
  · exact .inl rfl
  · exact .inr ⟨_, _, rfl⟩
  · exact .inr ⟨_, _, rfl⟩
  · exact .inl rfl

theorem setView_length (carrier : Nat) (e : ViewEntry) (f : Front) : (setView carrier e f).view.length = f.view.length :=
  length_setAt carrier e f.view

theorem correct_view_length (carrier : Nat) (cld : Bool) (f : Front) : (correct carrier cld f).view.length = f.view.length := by
  rcases correct_cases carrier cld f with h | ⟨e, k, h⟩ <;> rw [h]
  exact setView_length carrier e f

theorem getAt_setAt_other {α : Type} {i k : Nat} {x : α} {l : List α} (h : k ≠ i) : getAt k (setAt i x l) = getAt k l := by
  induction l generalizing i k with
  | nil => simp
  | cons y ys ih =>
    cases i with
    | zero =>
      cases k with
      | zero => exact absurd rfl h
      | succ k => simp
    | succ i =>
      cases k with
      | zero => simp
      | succ k => simpa using ih (by omega)

theorem getAt_setAt_same {α : Type} {i : Nat} {x : α} {l : List α} (h : i < l.length) : getAt i (setAt i x l) = some x := by
  induction l generalizing i with
  | nil => exact absurd h (by simp)
  | cons y ys ih =>
    cases i with
    | zero => simp
    | succ i => simpa using ih (by simpa using h)

theorem entry_setView_same {carrier : Nat} {e : ViewEntry} {f : Front} (h : carrier < f.view.length) :
    (setView carrier e f).entry carrier = e := by
  simp [Front.entry, setView, getAt_setAt_same h]

theorem entry_setView_other {carrier k : Nat} {e : ViewEntry} {f : Front} (h : k ≠ carrier) :
    (setView carrier e f).entry k = f.entry k := by
  simp [Front.entry, setView, getAt_setAt_other h]

theorem correct_entry_other {carrier k : Nat} {cld : Bool} {f : Front} (h : k ≠ carrier) :
    (correct carrier cld f).entry k = f.entry k := by
  rcases correct_cases carrier cld f with hc | ⟨e, n, hc⟩ <;> rw [hc]
  exact entry_setView_other h

/-- The period meter changes its own three items. -/
theorem measure_keeps (measures : Bool) (ms : Nat) (f : Front) :
    ∃ d p, measure measures ms f = { f with previous := some ms, discard := d, period := p } := by
  unfold measure
  dsimp only
  split
  · split <;> exact ⟨_, _, rfl⟩
  · exact ⟨_, _, rfl⟩

theorem stopEdge_keeps (clock : Nat) (f : Front) : ∃ b e d, stopEdge clock f =
    { f with stopTimer := some (clock + 5000000), stopped := b, stopEdges := e, discard := d } := by
  unfold stopEdge
  dsimp only
  split
  · split <;> exact ⟨_, _, _, rfl⟩
  · exact ⟨_, _, _, rfl⟩

/-- The index steps with its validity, the discard mark, the slips and, at a slip, the view. -/
theorem stepIndex_keeps (n : Nat) (chm : Bool) (f : Front) : ∃ i b d k v, stepIndex n chm f =
    { f with index := i, indexValid := b, discard := d, slips := k, view := v } := by
  unfold stepIndex
  split
  · split <;> exact ⟨_, _, _, _, _, rfl⟩
  · split
    · exact ⟨_, _, _, _, _, rfl⟩
    · split <;> exact ⟨_, _, _, _, _, rfl⟩

/-- Steps 1 to 3 of a passage: all but CLD's correction. -/
def metered (n clock : Nat) (chm : Bool) (f : Front) : Front :=
  measure (f.indexValid && !f.stopped) (clock / 1000) (stepIndex n chm (stopEdge clock f))

theorem passFront_keeps (n clock : Nat) (chm cld : Bool) (f : Front) :
    ∃ v k, passFront n clock chm cld f = { metered n clock chm f with view := v, corrections := k } := by
  unfold passFront
  dsimp only
  split
  · exact correct_keeps _ _ _
  · exact ⟨_, _, rfl⟩

/-- With the index valid after the step CLD corrects the entry of the carrier at the front. -/
theorem passFront_valid {n clock : Nat} {chm cld : Bool} {f : Front} (h : (metered n clock chm f).indexValid = true) :
    passFront n clock chm cld f = correct (metered n clock chm f).index cld (metered n clock chm f) := if_pos h

/-- What the meter leaves of the step: index, slips and view. -/
theorem metered_index (n clock : Nat) (chm : Bool) (f : Front) :
    (metered n clock chm f).index = (stepIndex n chm (stopEdge clock f)).index
      ∧ (metered n clock chm f).indexValid = (stepIndex n chm (stopEdge clock f)).indexValid
      ∧ (metered n clock chm f).slips = (stepIndex n chm (stopEdge clock f)).slips
      ∧ (metered n clock chm f).view = (stepIndex n chm (stopEdge clock f)).view := by
  obtain ⟨d, p, h⟩ := measure_keeps (f.indexValid && !f.stopped) (clock / 1000) (stepIndex n chm (stopEdge clock f))
  unfold metered
  rw [h]
  exact ⟨rfl, rfl, rfl, rfl⟩

/-- A passage without CHM steps a valid index and leaves the view to CLD. -/
theorem metered_unmarked {n clock : Nat} {f : Front} (valid : f.indexValid = true) :
    (metered n clock false f).index = (f.index + 1) % n ∧ (metered n clock false f).indexValid = true
      ∧ (metered n clock false f).slips = f.slips ∧ (metered n clock false f).view = f.view := by
  obtain ⟨hi, hv, hs, hw⟩ := metered_index n clock false f
  obtain ⟨b, e, d, he⟩ := stopEdge_keeps clock f
  rw [hi, hv, hs, hw, he]
  simp [stepIndex, valid]

/-- Steps 1 to 3 leave everything a passage does not track. -/
theorem metered_keeps (n clock : Nat) (chm : Bool) (f : Front) : ∃ g : Front, metered n clock chm f = { f with
    stopTimer := some (clock + 5000000), previous := some (clock / 1000), stopped := g.stopped, stopEdges := g.stopEdges
    discard := g.discard, period := g.period, index := g.index, indexValid := g.indexValid, slips := g.slips, view := g.view } := by
  obtain ⟨_, _, hm⟩ := measure_keeps (f.indexValid && !f.stopped) (clock / 1000) (stepIndex n chm (stopEdge clock f))
  obtain ⟨_, _, _, _, _, hi⟩ := stepIndex_keeps n chm (stopEdge clock f)
  obtain ⟨_, _, _, hs⟩ := stopEdge_keeps clock f
  refine ⟨metered n clock chm f, ?_⟩
  unfold metered
  rw [hm, hi, hs]

/-! ## The pull and the load test (R81, R84) -/

/-- `t` is `s` with work failed and a pusher action perhaps begun. -/
def Pushes (s t : State) : Prop := ∃ x k, FailsWork s x ∧ t = { x with front := { s.front with action := k } }

theorem pushes_of_failsWork {s t : State} (h : FailsWork s t) : Pushes s t := ⟨t, s.front.action, h, by rw [← h.front]⟩

/-- The STORE the pull test finds fails, its puller fires, or it waits. -/
theorem pullTest_cases (cld : Bool) (s : State) :
    pullTest cld s = s ∨ ∃ j, s.awaiting s.front.index = some j
      ∧ (((cld = false ∨ (s.front.entry s.front.index).otherBin j.bin = true) ∧ pullTest cld s = failNow j.num .notFound s)
        ∨ (cld = true ∧ (s.front.entry s.front.index).otherBin j.bin = false ∧ s.front.intake = false ∧ s.front.action = none
            ∧ s.inService = true ∧ pullTest cld s = fire .intake s.front.index (.store j.num j.bin) s)) := by
  unfold pullTest
  dsimp only
  split
  · exact .inl rfl
  · rename_i j hj
    split
    · rename_i hf
      exact .inr ⟨j, hj, .inl ⟨by simpa using hf, rfl⟩⟩
    · rename_i hf
      split
      · exact .inl rfl
      · rename_i hw
        simp only [Bool.or_eq_true, Bool.not_eq_eq_eq_not, Bool.not_true, not_or, Bool.not_eq_true, Bool.not_eq_false, Option.isSome_eq_false_iff,
          Option.isNone_iff_eq_none] at hf hw
        exact .inr ⟨j, hj, .inr ⟨hf.1, hf.2, hw.1.1, hw.1.2, hw.2, rfl⟩⟩

theorem loadTest_cases (cld : Bool) (s : State) :
    loadTest cld s = s ∨ (s.front.action = none ∧ s.inService = true
      ∧ loadTest cld s = fire .dispatch s.front.index (.dispatch s.front.owner) s) := by
  unfold loadTest
  dsimp only
  split
  · rename_i h
    simp only [Bool.and_eq_true, Option.isNone_iff_eq_none] at h
    exact .inr ⟨h.1.2, h.2, rfl⟩
  · exact .inl rfl

theorem pushes_tests (cld : Bool) (s : State) : Pushes s (loadTest cld (pullTest cld s)) := by
  have pulls : Pushes s (pullTest cld s) := by
    rcases pullTest_cases cld s with h | ⟨j, _, ⟨_, h⟩ | ⟨_, _, _, _, _, h⟩⟩ <;> rw [h]
    · exact pushes_of_failsWork (.refl s)
    · exact pushes_of_failsWork (failsWork_failNow _ _ s)
    · exact ⟨s, _, .refl s, rfl⟩
  obtain ⟨x, k, hx, ht⟩ := pulls
  rcases loadTest_cases cld (pullTest cld s) with h | ⟨_, _, h⟩ <;> rw [h]
  · exact ⟨x, k, hx, ht⟩
  · rw [ht]
    exact ⟨x, _, hx, rfl⟩

/-- Out of service neither test begins an action. -/
theorem tests_unserved {cld : Bool} {s : State} (idle : s.front.action = none) (out : s.inService = false) :
    (loadTest cld (pullTest cld s)).front.action = none := by
  have unserved {t : State} (h : FailsWork s t) : t.inService = false := by simpa [State.inService, h.station, h.fire] using out
  have pulls : FailsWork s (pullTest cld s) := by
    rcases pullTest_cases cld s with h | ⟨j, _, ⟨_, h⟩ | ⟨_, _, _, _, hs, h⟩⟩
    · rw [h]
      exact .refl s
    · rw [h]
      exact failsWork_failNow _ _ s
    · rw [out] at hs
      cases hs
  rcases loadTest_cases cld (pullTest cld s) with h | ⟨_, hs, _⟩
  · rw [h, pulls.front]
    exact idle
  · rw [unserved pulls] at hs
    cases hs

/-! ## One passage -/

/-- The station after steps 1 to 4 of a passage, an index slip raised. -/
def passed (c : Config) (chm cld : Bool) (s : State) : State :=
  (if s.front.slipsAt c.carriers chm then recordFault .loop s else s).onFront (passFront c.carriers s.clock chm cld)

theorem passed_front (c : Config) (chm cld : Bool) (s : State) :
    (passed c chm cld s).front = passFront c.carriers s.clock chm cld s.front := by
  unfold passed
  split <;> rfl

theorem passed_keeps (c : Config) (chm cld : Bool) (s : State) : ∃ u g r, passed c chm cld s = { s with
    front := (passed c chm cld s).front, faults := u, line := { s.line with general := g, reserved := r } } := by
  unfold passed
  split
  · exact ⟨_, _, _, rfl⟩
  · exact ⟨s.faults, s.line.general, s.line.reserved, rfl⟩

theorem passage_eq {c : Config} {chm cld : Bool} {s : State} (hc : s.cfg = some c) : passage chm cld s =
    if (passed c chm cld s).front.indexValid then loadTest cld (pullTest cld (passed c chm cld s)) else passed c chm cld s := by
  unfold passage
  rw [hc]
  rfl

theorem pushes_passage {c : Config} {chm cld : Bool} {s : State} (hc : s.cfg = some c) :
    Pushes (passed c chm cld s) (passage chm cld s) := by
  rw [passage_eq hc]
  split
  · exact pushes_tests cld _
  · exact pushes_of_failsWork (.refl _)

/-- The front unit after a passage is its own steps' but for the action. -/
theorem passage_front {c : Config} {chm cld : Bool} {s : State} (hc : s.cfg = some c) : ∃ k, (passage chm cld s).front =
    { passFront c.carriers s.clock chm cld s.front with action := k } := by
  obtain ⟨x, k, _, ht⟩ := pushes_passage (chm := chm) (cld := cld) hc
  exact ⟨k, by rw [ht, passed_front]⟩

end Sys2Proof.Machine
end

section
/-! SUPPORT. CARRIER_PASSAGE, LOOP_STOPPED_TIMEOUT, LOADED and EMPTIED: the obligations on the loop (chapter 4). -/

namespace Sys2Proof.Machine

set_option Elab.async false

open Sys2Proof

/-! ## The index (R72) -/

/-- An index slip is raised in both sets, and no test of the passage takes it out again. -/
theorem passage_slip {c : Config} {chm cld : Bool} {s : State} (hc : s.cfg = some c) (slip : s.front.slipsAt c.carriers chm = true) :
    inSet (passage chm cld s).faults.current .loop = true ∧ inSet (passage chm cld s).faults.accrued .loop = true := by
  obtain ⟨x, k, hx, ht⟩ := pushes_passage (chm := chm) (cld := cld) hc
  have sets : (passed c chm cld s).faults = (recordFault .loop s).faults := by
    unfold passed
    rw [if_pos slip]
    rfl
  rw [ht]
  show inSet x.faults.current .loop = true ∧ inSet x.faults.accrued .loop = true
  rw [hx.sets.1, hx.sets.2, sets]
  exact ⟨inSet_or_bit _ _, inSet_or_bit _ _⟩

/-- The index and the discard mark as step 2 of a passage leaves them. -/
theorem metered_discard {n clock : Nat} {chm : Bool} {f : Front} (h : f.indexValid = false) :
    (metered n clock chm f).discard = (stepIndex n chm (stopEdge clock f)).discard := by
  simp [metered, measure, h]

/-- In a view all UNKNOWN every carrier is, named in it or not. -/
theorem getAt_replicate_unknown (n i : Nat) : (getAt i (List.replicate n ViewEntry.unknown)).getD .unknown = .unknown := by
  induction n generalizing i with
  | zero => simp
  | succ n ih =>
    cases i with
    | zero => simp [List.replicate_succ]
    | succ i => simpa [List.replicate_succ] using ih i

/-- Settles O27: the index is stepped by its own step of the passage, which the corrections and the tests leave alone. -/
theorem passageStepsIndex : Obligations.PassageStepsIndex := by
  intro now chm cld c s a ha hp hc carriers
  refine ⟨_, whenOn_at ha hp, ?_⟩
  obtain ⟨x, k, hx, ht⟩ := pushes_passage (chm := chm) (cld := cld) hc
  obtain ⟨u, g, r, hpass⟩ := passed_keeps c chm cld a
  obtain ⟨v, m, hf⟩ := passFront_keeps c.carriers a.clock chm cld a.front
  obtain ⟨hi, hv, hs, hw⟩ := metered_index c.carriers a.clock chm a.front
  obtain ⟨b, e, d, he⟩ := stopEdge_keeps a.clock a.front
  obtain ⟨q, hq⟩ := metered_keeps c.carriers a.clock chm a.front
  obtain ⟨g', n', k', line⟩ := hx.line
  have front : (passage chm cld a).front = { passFront c.carriers a.clock chm cld a.front with action := k } := by rw [ht, passed_front]
  have config : (passage chm cld a).config = a.config := by rw [ht]; exact hx.config.trans (by rw [hpass])
  have clock : (passage chm cld a).clock = a.clock := by rw [ht]; exact hx.clock.trans (by rw [hpass])
  have sensors : (passage chm cld a).sensors = a.sensors := by rw [ht]; exact hx.sensors.trans (by rw [hpass])
  have receiver : (passage chm cld a).line.rxQueue = a.line.rxQueue ∧ (passage chm cld a).line.mode = a.line.mode := by
    rw [ht]
    show x.line.rxQueue = _ ∧ x.line.mode = _
    rw [line, hpass]
    exact ⟨rfl, rfl⟩
  have counts : (passage chm cld a).crane.travel.count = a.crane.travel.count ∧ (passage chm cld a).crane.lift.count = a.crane.lift.count := by
    rw [ht]
    show x.crane.travel.count = _ ∧ x.crane.lift.count = _
    rw [hx.counts.1, hx.counts.2, hpass]
    exact ⟨rfl, rfl⟩
  have tracked : (passage chm cld a).front.intake = a.front.intake ∧ (passage chm cld a).front.dispatch = a.front.dispatch := by
    rw [front, hf, hq]
    exact ⟨rfl, rfl⟩
  have index : (passage chm cld a).front.indexValid = (stepIndex c.carriers chm (stopEdge a.clock a.front)).indexValid
      ∧ (passage chm cld a).front.index = (stepIndex c.carriers chm (stopEdge a.clock a.front)).index
      ∧ (passage chm cld a).front.slips = (stepIndex c.carriers chm (stopEdge a.clock a.front)).slips := by
    rw [front, hf, ← hv, ← hi, ← hs]
    exact ⟨rfl, rfl, rfl⟩
  refine ⟨config, clock, sensors, receiver.1, receiver.2, tracked.1, tracked.2, counts.1, counts.2, ?_, ?_, ?_, ?_, ?_⟩
  · rintro invalid rfl
    rw [index.1, index.2.1, he]
    simp [stepIndex, invalid]
  · rintro invalid rfl
    have discard : (passage true cld a).front.discard = (stepIndex c.carriers true (stopEdge a.clock a.front)).discard := by
      rw [front, hf, ← metered_discard invalid]
    rw [index.1, index.2.1, discard, he]
    simp [stepIndex, invalid]
  · rintro valid rfl
    rw [index.1, index.2.1, index.2.2, he]
    simp [stepIndex, valid]
  · rintro valid rfl round
    rw [index.1, index.2.1, index.2.2, he]
    simp [stepIndex, valid, round]
  · rintro valid rfl slip
    have slips : a.front.slipsAt c.carriers true = true := by simp [Front.slipsAt, valid, slip]
    obtain ⟨current, accrued⟩ := passage_slip (cld := cld) hc slips
    have stepped : stepIndex c.carriers true (stopEdge a.clock a.front) = { stopEdge a.clock a.front with
        index := 0, slips := satInc a.front.slips, view := List.replicate c.carriers .unknown } := by
      rw [he]
      simp [stepIndex, valid, slip]
    have corrected : passFront c.carriers a.clock true cld a.front = correct 0 cld (metered c.carriers a.clock true a.front) := by
      rw [passFront_valid (by rw [hv, stepped, he]; exact valid), hi, stepped]
    have view : (metered c.carriers a.clock true a.front).view = List.replicate c.carriers .unknown := by rw [hw, stepped]
    refine ⟨?_, ?_, ?_, current, accrued, ?_, fun i pos _ => ?_⟩
    · rw [index.1, stepped, he]
      exact valid
    · rw [index.2.1, stepped]
    · rw [index.2.2, stepped]
      rfl
    · rw [front, corrected]
      show (correct 0 cld _).view.length = _
      rw [correct_view_length, view, List.length_replicate]
    · rw [front, corrected]
      show (correct 0 cld _).entry i = _
      rw [correct_entry_other (by omega), Front.entry, view]
      exact getAt_replicate_unknown _ i

/-! ## The loop period (R73) -/

/-- Settles O28: the timer, the edges of a stop and the meter are the first and third step of the passage. -/
theorem loopPeriodIsMeasured : Obligations.LoopPeriodIsMeasured := by
  intro now chm cld c p s a ha hp hc
  refine ⟨fun due timer => ?_, fun previous later limit => ⟨_, whenOn_at ha hp, ?_⟩⟩
  · refine (whenOn_at ha hp).trans (congrArg _ ?_)
    unfold loopStops
    by_cases hd : due ≤ a.clock
    · simp [hc, timer, State.due, hd, State.onFront]
    · simp [hc, timer, State.due, hd]
  · obtain ⟨k, front⟩ := passage_front (chm := chm) (cld := cld) hc
    obtain ⟨v, m, hf⟩ := passFront_keeps c.carriers a.clock chm cld a.front
    obtain ⟨q, hq⟩ := metered_keeps c.carriers a.clock chm a.front
    obtain ⟨i, b, d, l, w, hi⟩ := stepIndex_keeps c.carriers chm (stopEdge a.clock a.front)
    have interval : periodOf (a.clock / 1000 - p) = a.clock / 1000 - p := by unfold periodOf; omega
    have kept : (stepIndex c.carriers chm (stopEdge a.clock a.front)).previous = some p
        ∧ (stepIndex c.carriers chm (stopEdge a.clock a.front)).period = a.front.period
        ∧ (stepIndex c.carriers chm (stopEdge a.clock a.front)).stopped = (stopEdge a.clock a.front).stopped
        ∧ (stepIndex c.carriers chm (stopEdge a.clock a.front)).stopEdges = (stopEdge a.clock a.front).stopEdges := by
      obtain ⟨_, _, _, he⟩ := stopEdge_keeps a.clock a.front
      rw [hi, he]
      exact ⟨previous, rfl, rfl, rfl⟩
    obtain ⟨hprev, hper, hstop, hedges⟩ := kept
    have edges : (metered c.carriers a.clock chm a.front).stopped = (stopEdge a.clock a.front).stopped
        ∧ (metered c.carriers a.clock chm a.front).stopEdges = (stopEdge a.clock a.front).stopEdges := by
      obtain ⟨_, _, hm⟩ := measure_keeps (a.front.indexValid && !a.front.stopped) (a.clock / 1000) (stepIndex c.carriers chm (stopEdge a.clock a.front))
      unfold metered
      rw [hm]
      exact ⟨hstop, hedges⟩
    have running (stopped : a.front.stopped = false) : stopEdge a.clock a.front = { a.front with stopTimer := some (a.clock + msec 5000) } := by
      simp [stopEdge, stopped]
    have stepped (valid : a.front.indexValid = true) (stopped : a.front.stopped = false) :
        (stepIndex c.carriers chm (stopEdge a.clock a.front)).discard = a.front.discard := by
      rw [running stopped]
      simp only [stepIndex, valid]
      cases chm
      · rfl
      · simp only [Bool.not_true, Bool.false_eq_true, if_false]
        split <;> rfl
    rw [front, hf]
    refine ⟨?_, ?_, fun valid stopped clear => ?_, fun valid stopped marked => ?_, fun unmeasured => ?_, fun stopped first => ?_,
      fun stopped second => ?_⟩
    · rw [hq]
    · rw [hq]
    · have period : (metered c.carriers a.clock chm a.front).period = some (a.clock / 1000 - p) := by
        simp only [metered, measure, valid, stopped, Bool.not_false, Bool.and_self, hprev]
        rw [if_neg (by rw [stepped valid stopped, clear]; exact Bool.false_ne_true), interval]
      exact ⟨period, by rw [edges.1, running stopped]; exact stopped⟩
    · have metered_eq : metered c.carriers a.clock chm a.front =
          { stepIndex c.carriers chm (stopEdge a.clock a.front) with previous := some (a.clock / 1000), discard := false } := by
        simp only [metered, measure, valid, stopped, Bool.not_false, Bool.and_self, hprev]
        rw [if_pos (by rw [stepped valid stopped, marked])]
      rw [metered_eq]
      exact ⟨hper, rfl, by rw [hstop, running stopped]; exact stopped⟩
    · have none : (a.front.indexValid && !a.front.stopped) = false := by rcases unmeasured with h | h <;> simp [h]
      show (metered c.carriers a.clock chm a.front).period = _
      simp only [metered, none, measure]
      exact hper
    · show (metered c.carriers a.clock chm a.front).stopped = true ∧ (metered c.carriers a.clock chm a.front).stopEdges = 1
      rw [edges.1, edges.2]
      simp [stopEdge, stopped, first]
    · have edge : stopEdge a.clock a.front = { a.front with
          stopTimer := some (a.clock + msec 5000), stopped := false, stopEdges := 2, discard := true } := by
        simp [stopEdge, stopped, second]
      have discard : (metered c.carriers a.clock chm a.front).discard = true := by
        have off : (a.front.indexValid && !a.front.stopped) = false := by simp [stopped]
        simp only [metered, off, measure]
        rw [edge]
        simp only [stepIndex]
        split
        · split <;> rfl
        · split
          · rfl
          · split <;> rfl
      refine ⟨?_, ?_, discard⟩
      · show (metered c.carriers a.clock chm a.front).stopped = false
        rw [edges.1, edge]
      · show (metered c.carriers a.clock chm a.front).stopEdges = 2
        rw [edges.2, edge]

/-! ## The loop view (R75, R77) -/

/-- Settles O29. -/
theorem viewIsCorrected : Obligations.ViewIsCorrected := by
  intro now s a ha hp
  refine ⟨fun src carrier bin destination tag c b handed => ?_, fun src carrier bin c b handed => ?_, fun cld c i hc valid hi inView => ?_⟩
  · exact (whenOn_at ha hp).trans (congrArg _ (handFrame_handed handed _))
  · exact (whenOn_at ha hp).trans (congrArg _ (handFrame_handed handed _))
  · refine ⟨_, whenOn_at ha hp, ?_⟩
    obtain ⟨k, front⟩ := passage_front (chm := false) (cld := cld) hc
    obtain ⟨index, indexed, _, view⟩ := metered_unmarked (n := c.carriers) (clock := a.clock) valid
    obtain ⟨g, hg⟩ := metered_keeps c.carriers a.clock false a.front
    have corrections : (metered c.carriers a.clock false a.front).corrections = a.front.corrections := by rw [hg]
    have entry (j : Nat) : (metered c.carriers a.clock false a.front).entry j = a.front.entry j := by simp only [Front.entry, view]
    have inView' : i < (metered c.carriers a.clock false a.front).view.length := by rw [view]; exact inView
    have corrected : (passage false cld a).front = { correct i cld (metered c.carriers a.clock false a.front) with action := k } := by
      rw [front, passFront_valid indexed, index, ← hi]
    rw [corrected]
    generalize metered c.carriers a.clock false a.front = f at corrections entry inView'
    rw [← corrections]
    refine ⟨fun laden free => ?_, fun laden unknown => ?_, fun b d l laden known => ?_, fun b d l empty known => ?_,
      fun empty unknown => ?_, fun empty free => ?_, fun j hj => ?_⟩
    · rw [laden, show correct i true f = { setView i (.laden none none none) f with corrections := satInc f.corrections } by
        simp [correct, entry, free]]
      exact ⟨entry_setView_same inView', rfl⟩
    · rw [laden, show correct i true f = setView i (.laden none none none) f by simp [correct, entry, unknown]]
      exact ⟨entry_setView_same inView', rfl⟩
    · rw [laden, show correct i true f = f by simp [correct, entry, known]]
      exact ⟨(entry i).trans known, rfl⟩
    · rw [empty, show correct i false f = { setView i .free f with corrections := satInc f.corrections } by simp [correct, entry, known]]
      exact ⟨entry_setView_same inView', rfl⟩
    · rw [empty, show correct i false f = setView i .free f by simp [correct, entry, unknown]]
      exact ⟨entry_setView_same inView', rfl⟩
    · rw [empty, show correct i false f = f by simp [correct, entry, free]]
      exact ⟨(entry i).trans free, rfl⟩
    · rw [← entry]
      exact correct_entry_other hj

/-! ## The pushers (R78, R81, R84) -/

/-- A passage without CHM raises nothing: it is the front unit's steps alone. -/
theorem passed_unmarked (c : Config) (cld : Bool) (s : State) :
    passed c false cld s = s.onFront (passFront c.carriers s.clock false cld) := by
  unfold passed
  rw [if_neg (by simp [Front.slipsAt])]

/-- A carrier read empty is FREE. -/
theorem correct_entry_empty {i : Nat} {f : Front} (h : i < f.view.length) : (correct i false f).entry i = .free := by
  unfold correct
  split
  · contradiction
  · contradiction
  · contradiction
  · exact entry_setView_same h
  · exact entry_setView_same h
  · assumption

/-- A carrier read laden shows another bin where frames had said so. -/
theorem correct_otherBin {i bin : Nat} {f : Front} (h : i < f.view.length) :
    ((correct i true f).entry i).otherBin bin = (f.entry i).otherBin bin := by
  unfold correct
  split
  · rename_i he _
    rw [he]
    have same := entry_setView_same (e := .laden none none none) h
    exact (congrArg (ViewEntry.otherBin bin) same :)
  · rename_i he _
    rw [he]
    have same := entry_setView_same (e := .laden none none none) h
    exact (congrArg (ViewEntry.otherBin bin) same :)
  · rfl
  · contradiction
  · contradiction
  · contradiction

/-- The front unit at a passage without CHM, its index valid: the carrier `i` stands at the front, its entry corrected. -/
theorem passFront_unmarked {n clock i : Nat} {cld : Bool} {f : Front} (valid : f.indexValid = true) (hi : i = (f.index + 1) % n)
    (inView : i < f.view.length) : ∃ e, (passFront n clock false cld f).index = i ∧ (passFront n clock false cld f).indexValid = true
      ∧ (passFront n clock false cld f).intake = f.intake ∧ (passFront n clock false cld f).dispatch = f.dispatch
      ∧ (passFront n clock false cld f).owner = f.owner ∧ (passFront n clock false cld f).action = f.action
      ∧ (passFront n clock false cld f).entry i = e ∧ (cld = false → e = .free)
      ∧ (cld = true → ∀ bin, e.otherBin bin = (f.entry i).otherBin bin) := by
  obtain ⟨index, indexed, _, view⟩ := metered_unmarked (n := n) (clock := clock) valid
  obtain ⟨v, k, hf⟩ := passFront_keeps n clock false cld f
  obtain ⟨g, hg⟩ := metered_keeps n clock false f
  have inView' : i < (metered n clock false f).view.length := by rw [view]; exact inView
  have entry : (metered n clock false f).entry i = f.entry i := by simp only [Front.entry, view]
  refine ⟨_, ?_, ?_, ?_, ?_, ?_, ?_, rfl, ?_, ?_⟩
  · rw [hf, hi]
    exact index
  · rw [hf]
    exact indexed
  · rw [hf, hg]
  · rw [hf, hg]
  · rw [hf, hg]
  · rw [hf, hg]
  all_goals rw [passFront_valid indexed, index, ← hi]
  · rintro rfl
    exact correct_entry_empty inView'
  · rintro rfl bin
    rw [correct_otherBin inView', entry]

/-- What a failed job's number leaves in the queue, and its FAILED among the frames. -/
theorem failNow_gone {n : Nat} {o : FailOutcome} {s : State} {j : Job} (h : s.job n = some j) (room : s.line.general.length < 8) :
    (failNow n o s).queue = { s.queue with jobs := s.queue.jobs.filter (fun k => k.num != n) }
      ∧ (failNow n o s).line = (Queued (.failed j.bin j.tag o) (.station j.requester) s).line
      ∧ (failNow n o s).offers = { s.offers with entries := s.offers.entries.filter (fun e => e.job != some n) } := by
  obtain ⟨d, hd⟩ := releaseFor_onDir j s
  have ended (t : State) : (moveEnd t).queue = t.queue ∧ (moveEnd t).line = t.line ∧ (moveEnd t).offers = t.offers := by
    obtain ⟨c, hc⟩ := moveEnd_crane t
    rw [hc]
    exact ⟨rfl, rfl, rfl⟩
  unfold failNow
  simp only [h, hd]
  rw [send_queued (by exact room)]
  split
  · obtain ⟨hq, hl, ho⟩ := ended (closeClaimed n (removeJob n (Queued (.failed j.bin j.tag o) (.station j.requester) { s with dir := d })))
    rw [hq, hl, ho]
    exact ⟨rfl, rfl, rfl⟩
  · exact ⟨rfl, rfl, rfl⟩

/-- Settles O30. -/
theorem passageFiresPushers : Obligations.PassageFiresPushers := by
  intro now cld c i s a ha hp hc valid hi inView idle
  refine ⟨_, whenOn_at ha hp, ?_⟩
  obtain ⟨e, index, indexed, intake, dispatch, owner, action, entry, empty, laden⟩ := passFront_unmarked (clock := a.clock) (cld := cld) valid hi inView
  have front := passed_front c false cld a
  have eq : passage false cld a = loadTest cld (pullTest cld (passed c false cld a)) := by
    rw [passage_eq hc, front]
    exact if_pos indexed
  have powered : a.powered = true := by rw [ha]; exact hp
  rw [passed_unmarked] at eq
  rw [eq]
  generalize hb : a.onFront (passFront c.carriers a.clock false cld) = b
  have bfront : b.front = passFront c.carriers a.clock false cld a.front := by rw [← hb]; rfl
  have bindex : b.front.index = i := by rw [bfront, index]
  have bentry : b.front.entry i = e := by rw [bfront, entry]
  have bidle : b.front.action = none := by rw [bfront, action, idle]
  have bqueue : b.queue = a.queue := by rw [← hb]; rfl
  have bservice : b.inService = a.inService := by rw [← hb]; rfl
  have bawaiting : b.awaiting b.front.index = a.awaiting i := by
    unfold State.awaiting
    simp only [bindex, bqueue, Front.pulling, bidle, idle]
  have service (station : a.station = .run) (calm : a.fire.state = .calm) : b.inService = true := by
    rw [bservice]
    simp [State.inService, station, calm]
  refine ⟨fun j waits hl other empty' station calm => ?_, fun j waits job fails room => ?_, fun unawaited hl owned bin station calm => ?_, fun out => ?_⟩
  · have pull : pullTest cld b = fire .intake i (.store j.num j.bin) b := by
      unfold pullTest
      simp only [bawaiting, waits]
      rw [if_neg (by simp [hl, bindex, bentry, laden hl, other]), if_neg (by simp [bfront, intake, empty', action, idle, service station calm]), bindex]
    have load : loadTest cld (fire .intake i (.store j.num j.bin) b) = fire .intake i (.store j.num j.bin) b := by
      unfold loadTest
      dsimp only
      exact if_neg (by simp [hl])
    rw [pull, load]
    subst hb
    exact ⟨rfl, by simp [State.outputs, pushing, fire, powered], by simp [State.outputs, pushing, fire], rfl⟩
  · have pull : pullTest cld b = failNow j.num .notFound b := by
      unfold pullTest
      simp only [bawaiting, waits]
      rw [if_pos ?_]
      cases hl : cld
      · rfl
      · have other : (a.front.entry i).otherBin j.bin = true := by
          rcases fails with h | h
          · rw [hl] at h
            cases h
          · exact h
        simp [bindex, bentry, laden hl, other]
    have job' : b.job j.num = some j := by simpa [State.job, bqueue] using job
    have room' : b.line.general.length < 8 := by rw [← hb]; exact room
    obtain ⟨queue, line, _⟩ := failNow_gone (o := .notFound) job' room'
    have load : (loadTest cld (failNow j.num .notFound b)).queue = (failNow j.num .notFound b).queue
        ∧ (loadTest cld (failNow j.num .notFound b)).line = (failNow j.num .notFound b).line := by
      rcases loadTest_cases cld (failNow j.num .notFound b) with h | ⟨_, _, h⟩ <;> rw [h] <;> exact ⟨rfl, rfl⟩
    rw [pull, load.1, load.2, queue, line]
    refine ⟨fun k hk => by simpa using (List.mem_filter.mp hk).2, newEntry b.line.nextOrder (.failed j.bin j.tag .notFound) (.station j.requester) none,
      ?_, rfl, rfl⟩
    simp [Queued]
  · subst hl
    have pull : pullTest false b = b := by
      unfold pullTest
      simp only [bawaiting, unawaited]
    have load : loadTest false b = fire .dispatch i (.dispatch a.front.owner) b := by
      unfold loadTest
      dsimp only
      rw [if_pos (by simp [bfront, owner, owned, dispatch, bin, index, entry, empty, action, idle, service station calm]), bindex, bfront, owner]
    rw [pull, load]
    subst hb
    exact ⟨rfl, by simp [State.outputs, pushing, fire, powered], by simp [State.outputs, pushing, fire], rfl⟩
  · refine tests_unserved bidle ?_
    rw [bservice]
    rcases out with h | h <;> simp [State.inService, h]

end Sys2Proof.Machine
end

section
/-! SUPPORT. Occupancies and pusher actions: what confirms, ends or loses (R69, R70, R80 to R85). -/

namespace Sys2Proof.Machine

set_option Elab.async false

open Sys2Proof

/-! ## The end of an action (R80, R83) -/

/-- With no request held an action ends alone. -/
theorem endAction_eq {s : State} (h : s.queue.held = []) : endAction s = { s with front := { s.front with action := none } } := by
  obtain ⟨_, _, _, _, _, _, _, _, _, ⟨_, _, held⟩, _, _, _, _, _, _, _, _⟩ := s
  obtain rfl : held = [] := h
  rfl

/-- A confirmed action ends once its pulse has, and else waits for that. -/
theorem confirmed_eq {act : PusherAction} {s : State} (h : act.pulseEnded = true → s.queue.held = []) : confirmed act s =
    { s with front := { s.front with action := if act.pulseEnded = true then none else some { act with confirmed := true } } } := by
  unfold confirmed
  split
  · rename_i hp
    exact endAction_eq (h hp)
  · rfl

/-! ## The intake (R69, R82) -/

theorem intakeChange_same (s : State) : intakeChange s.front.intake s = s := if_pos rfl

theorem intakeChange_to {o : Bool} {s : State} (h : s.front.intake ≠ o)
    (quiet : o = false ∨ s.front.action = none ∨ (∃ act d, s.front.action = some act ∧ act.owner = .dispatch d)
      ∨ ∃ act, s.front.action = some act ∧ act.confirmed = true) :
    intakeChange o s = { s with front := { s.front with intake := o } } := by
  unfold intakeChange
  rw [if_neg h]
  simp only [State.onFront]
  cases o with
  | false => rfl
  | true =>
    rcases quiet with hq | hq | ⟨act, d, hq, ho⟩ | ⟨act, hq, hc⟩
    · cases hq
    · simp only [hq]
    · simp only [hq, ho]
    · simp only [hq, hc, if_true]
      split <;> rfl

theorem intakeChange_pulled {n bin : Nat} {act : PusherAction} {s : State} (h : s.front.intake = false) (fired : s.front.action = some act)
    (owner : act.owner = .store n bin) (open' : act.confirmed = false) :
    intakeChange true s = settle (pulled act n bin { s with front := { s.front with intake := true } }) := by
  unfold intakeChange
  rw [if_neg (by simp [h])]
  simp only [State.onFront, fired, owner, open']
  rfl

/-- Settles O31. -/
theorem pullIsConfirmed : Obligations.PullIsConfirmed := by
  intro now act s a b u ha hp
  refine ⟨(whenOn_at ha hp).trans (congrArg _ (intakeChange_same a)), fun occupied => ?_, fun empty quiet => ?_,
    fun n bin empty fired owner open' room free hb => ?_⟩
  · exact (whenOn_at ha hp).trans (congrArg _ (intakeChange_to (by simp [occupied]) (.inl rfl)))
  · refine (whenOn_at ha hp).trans (congrArg _ (intakeChange_to (by simp [empty]) (.inr ?_)))
    rcases quiet with h | ⟨o, h, ho⟩ | ⟨h, hc⟩
    · exact .inl h
    · exact .inr (.inl ⟨act, o, h, ho⟩)
    · exact .inr (.inr ⟨act, h, hc⟩)
  · have sent : send (.emptied act.carrier bin) .all ({ a with front := { a.front with intake := true } }.onFront (setView act.carrier .free)) =
        { Queued (.emptied act.carrier bin) .all a with
          front := { a.front with intake := true, view := setAt act.carrier .free a.front.view } } := send_queued (by exact room)
    refine ⟨fun j job stage settles => ?_, fun gone settles => ?_⟩
    · refine (whenOn_at ha hp).trans (congrArg _ ((intakeChange_pulled empty fired owner open').trans ?_))
      have waits : pulled act n bin { a with front := { a.front with intake := true } } = confirmed act
          { Queued (.emptied act.carrier bin) .all a with
            front := { a.front with intake := true, view := setAt act.carrier .free a.front.view }
            queue := { a.queue with jobs := a.queue.jobs.map (fun k =>
              if k.num = n then { k with stage := .waiting, pulledSince := some (a.clock / 1000) } else k) }
            offers := { a.offers with entries := a.offers.entries.filter (fun e => e.job != some n) } } := by
        unfold pulled
        simp only [sent]
        have found : (a.job n).map Job.stage = some .awaitCarrier := by rw [job]; exact congrArg _ stage
        simp only [show ∀ x : State, x.queue = a.queue → x.job n = a.job n from fun x hx => by simp [State.job, hx], Queued, found]
        rfl
      rw [waits, confirmed_eq (by exact free)]
      subst hb
      exact settles.settle_eq
    · refine (whenOn_at ha hp).trans (congrArg _ ((intakeChange_pulled empty fired owner open').trans ?_))
      have unowned : pulled act n bin { a with front := { a.front with intake := true } } = confirmed act
          { Queued (.emptied act.carrier bin) .all a with
            front := { a.front with intake := true, view := setAt act.carrier .free a.front.view } } := by
        unfold pulled
        simp only [sent]
        simp only [show ∀ x : State, x.queue = a.queue → x.job n = a.job n from fun x hx => by simp [State.job, hx], Queued, gone]
        rfl
      rw [unowned, confirmed_eq (by exact free)]
      subst hb
      exact settles.settle_eq

/-! ## The dispatch position (R69, R70, R85) -/

theorem dispatchChange_same (s : State) : dispatchChange s.front.dispatch s = s := if_pos rfl

theorem dispatchChange_occupied {s : State} (h : s.front.dispatch = false) :
    dispatchChange true s = { s with front := { s.front with dispatch := true } } := by
  unfold dispatchChange
  rw [if_neg (by simp [h])]
  rfl

theorem dispatchChange_emptied {s : State} (h : s.front.dispatch = true) :
    dispatchChange false s = settle (dispatchEmptied { s with front := { s.front with dispatch := false } }) := by
  unfold dispatchChange
  rw [if_neg (by simp [h])]
  rfl

/-- Going empty under an unconfirmed load confirms it. -/
theorem dispatchEmptied_load {c : Config} {act : PusherAction} {o : DispatchOwner} {s : State} (hc : s.cfg = some c)
    (fired : s.front.action = some act) (owner : act.owner = .dispatch o) (open' : act.confirmed = false) :
    dispatchEmptied s = loadedNow c act o s := by
  unfold dispatchEmptied
  simp only [hc, fired, owner, open']
  rfl

/-- Going empty with no load under way loses what stands there. -/
theorem dispatchEmptied_bare {c : Config} {s : State} (hc : s.cfg = some c)
    (h : s.front.action = none ∨ ∃ act n bin, s.front.action = some act ∧ act.owner = .store n bin) :
    dispatchEmptied s = if s.front.owner = .none then s else dispatchLost s := by
  unfold dispatchEmptied
  rcases h with h | ⟨act, n, bin, h, ho⟩
  · simp only [hc, h]
  · simp only [hc, h, ho]

/-- The tag a re-offer takes differs from the one it replaces. -/
theorem freshTag_eq {counter tag fresh : Nat}
    (h : fresh = (if counter = tag then (tag + 1) % 256 else counter)) :
    freshTag counter tag = (fresh, (fresh + 1) % 256) ∧ fresh ≠ tag := by
  unfold freshTag
  subst h
  split
  · rename_i he
    subst he
    exact ⟨rfl, by omega⟩
  · rename_i he
    exact ⟨rfl, he⟩

/-- A slot that is in another state refuses the change. -/
theorem requestChange_of_not {a : SlotAddr} {src st : SlotState} {bin : SlotRec → Nat} {job : Option Nat} {s : State}
    (h : s.slotIs a src = false) : requestChange a (· == src) st bin job s = s := by
  cases hr : s.slotRec a with
  | none =>
    unfold requestChange
    rw [hr]
    split
    · contradiction
    · rfl
  | some r => exact requestChange_refused hr (by simpa [State.slotIs, hr] using h)

/-- A job whose slot no longer stands for it releases nothing. -/
theorem releaseFor_unheld {j : Job} {s : State} (held : s.crane.held = none)
    (h : ∀ ad, j.slot = some ad → s.slotIs ad .outbound = false ∧ (j.kind = .store → s.slotIs ad .inbound = false)) : releaseFor j s = s := by
  unfold releaseFor
  split
  · rfl
  · rename_i ad slot
    obtain ⟨outbound, inbound⟩ := h ad slot
    rw [if_neg (by simp [Crane.heldPick, held])]
    unfold releaseSlot
    split
    · cases hk : j.kind
      · exact requestChange_of_not outbound
      · exact requestChange_of_not (inbound hk)
    · rfl

/-- A FETCH that is DISPATCHING fails without touching directory or crane. -/
theorem failNow_dispatching {n : Nat} {o : FailOutcome} {j : Job} {s : State} (job : s.job n = some j) (stage : j.stage = .dispatching)
    (room : s.line.general.length < 8) (unreleased : releaseFor j s = s) :
    failNow n o s = { Queued (.failed j.bin j.tag o) (.station j.requester) s with
      queue := { s.queue with jobs := s.queue.jobs.filter (fun k => k.num != n) }
      offers := { s.offers with entries := s.offers.entries.filter (fun e => e.job != some n) } } := by
  rw [failNow_some job (by rw [stage]; exact (nomatch ·)), unreleased, send_queued room]
  rfl

/-- Settles O32. -/
theorem loadIsConfirmed : Obligations.LoadIsConfirmed := by
  intro now c act s a u ha hp hc
  refine ⟨fun o ho => ?_, fun empty => ?_, fun occupied room => ⟨fun fired open' free => ⟨fun n j owner job settles => ?_, fun bin tag fresh owner _ hfresh => ?_⟩,
    fun idle => ⟨fun owner settles => ?_, fun bin tag owner settles => ?_, fun n j owner job stage held slot settles => ?_⟩⟩⟩
  · subst ho
    exact (whenOn_at ha hp).trans (congrArg _ (dispatchChange_same a))
  · exact (whenOn_at ha hp).trans (congrArg _ (dispatchChange_occupied empty))
  · refine (whenOn_at ha hp).trans (congrArg _ ((dispatchChange_emptied occupied).trans ?_))
    rw [dispatchEmptied_load (by exact hc) (by exact fired) owner open']
    have gone : loadedNow c act (.fetch n) { a with front := { a.front with dispatch := false } } = confirmed act
        { Queued (.loaded act.carrier j.bin j.requester j.tag) .all a with
          front := { a.front with
            dispatch := false, owner := .none
            view := setAt act.carrier (.laden (some j.bin) (some j.requester) (some c.address)) a.front.view }
          queue := { a.queue with jobs := a.queue.jobs.filter (fun k => k.num != n) } } := by
      unfold loadedNow
      simp only [show (({ a with front := { a.front with dispatch := false } } : State).onFront (fun f => { f with owner := .none })).job n = some j from job]
      rw [send_queued (by exact room)]
      rfl
    rw [gone, confirmed_eq (by exact free)]
    exact settles.settle_eq
  · obtain ⟨tags, differs⟩ := freshTag_eq hfresh
    refine ⟨differs, fun settles => ?_⟩
    refine (whenOn_at ha hp).trans (congrArg _ ((dispatchChange_emptied occupied).trans ?_))
    rw [dispatchEmptied_load (by exact hc) (by exact fired) owner open']
    have offered : loadedNow c act (.reOffer bin tag) { a with front := { a.front with dispatch := false } } = confirmed act
        { Queued (.offer act.carrier bin fresh) .all a with
          front := { a.front with
            dispatch := false, owner := .none, reofferTag := (fresh + 1) % 256
            view := setAt act.carrier (.laden (some bin) none (some c.address)) a.front.view } } := by
      unfold loadedNow
      simp only [State.onFront, tags]
      rw [send_queued (by exact room)]
      rfl
    rw [offered, confirmed_eq (by exact free)]
    exact settles.settle_eq
  all_goals
    refine (whenOn_at ha hp).trans (congrArg _ ((dispatchChange_emptied occupied).trans ?_))
    rw [dispatchEmptied_bare (c := c) (by exact hc) (by
      rcases idle with h | ⟨n, bin, h, ho⟩
      · exact .inl h
      · exact .inr ⟨act, n, bin, h, ho⟩)]
  · rw [if_pos (by exact owner)]
    exact settles.settle_eq
  · rw [if_neg (by simp [owner])]
    have dropped : dispatchLost { a with front := { a.front with dispatch := false } } =
        { a with front := { a.front with dispatch := false, owner := .none } } := by
      unfold dispatchLost
      simp only [owner]
      rfl
    rw [dropped]
    exact settles.settle_eq
  · rw [if_neg (by simp [owner])]
    have lost : dispatchLost { a with front := { a.front with dispatch := false } } =
        failNow n .notFound { a with front := { a.front with dispatch := false, owner := .none } } := by
      unfold dispatchLost
      simp only [owner]
      rfl
    rw [lost, failNow_dispatching (by exact job) stage (by exact room) (releaseFor_unheld (by exact held) (by exact slot))]
    exact settles.settle_eq

/-! ## Pulse and limit (R80) -/

/-- With the action ended no pusher output is on. -/
theorem outputs_unpushed {s : State} (h : ∀ a, s.front.action = some a → a.pulseEnded = true) : s.outputs.pin = false ∧ s.outputs.pou = false := by
  have off (p : Pusher) : pushing p s.front = false := by
    unfold pushing
    split
    · rfl
    · rename_i a ha
      simp [h a ha]
  simp [State.outputs, off]

/-- Settles O33. -/
theorem pulseAndLimitEndActions : Obligations.PulseAndLimitEndActions := by
  intro now c act s a t ha hp hc fired
  refine ⟨fun pulsing => ⟨fun early => ?_, fun due open' ht => ?_, fun due confirms free ht => ?_, fun n o u due confirms held brought settles => ?_⟩,
    fun none => ?_, fun open' due station still mode unheld free inView => ?_⟩
  · refine (whenOn_at ha hp).trans (congrArg _ ?_)
    unfold pulseEnd
    simp only [hc, fired]
    exact if_neg fun h => by have := h.2; unfold msec at this; omega
  all_goals have msec_eq (n : Nat) : msec n = 1000 * n := by unfold msec; omega
  · subst ht
    refine ⟨(whenOn_at ha hp).trans (congrArg _ ?_), outputs_unpushed ?_⟩
    · unfold pulseEnd
      simp only [hc, fired]
      rw [if_pos ⟨pulsing, by rw [msec_eq]; exact due⟩, open']
      rfl
    · rintro x hx
      cases hx
      rfl
  · subst ht
    refine ⟨(whenOn_at ha hp).trans (congrArg _ ?_), outputs_unpushed (fun x hx => nomatch hx)⟩
    unfold pulseEnd
    simp only [hc, fired]
    rw [if_pos ⟨pulsing, by rw [msec_eq]; exact due⟩, if_pos confirms, if_pos free]
    exact endAction_eq free
  · refine (whenOn_at ha hp).trans (congrArg _ ?_)
    unfold pulseEnd
    simp only [hc, fired]
    rw [if_pos ⟨pulsing, by rw [msec_eq]; exact due⟩, if_pos confirms, if_neg (by simp [held])]
    have kept : endAction a = { a with front := { a.front with action := none }, queue := { a.queue with held := [] } } := by
      have awaits : a.awaitsCarrier n = false := by
        unfold State.awaitsCarrier
        cases hj : a.job n with
        | none => rfl
        | some j => simpa using brought j hj
      unfold endAction releaseHeld
      simp only [State.onFront, State.onQueue, held, List.foldl, carryOut]
      refine if_neg fun h => ?_
      have open' : a.awaitsCarrier n = true := h
      rw [awaits] at open'
      cases open'
    rw [kept]
    exact settles.settle_eq
  · refine (whenOn_at ha hp).trans (congrArg _ ?_)
    unfold limitEnd
    simp only [hc, fired]
    refine if_neg fun ⟨h, hd⟩ => ?_
    rcases none with hn | hn
    · rw [hn] at h
      cases h
    · rw [msec_eq] at hd
      omega
  · refine ⟨_, whenOn_at ha hp, ?_⟩
    have ends : limitEnd a = settle (raise .pusher { a with front := { setView act.carrier .unknown a.front with action := none } }) := by
      unfold limitEnd
      simp only [hc, fired]
      rw [if_pos ⟨open', by rw [msec_eq]; exact due⟩, endAction_eq (by exact free)]
      rfl
    rw [ends]
    obtain ⟨faulted, kept⟩ := raise_settled (f := .pusher) (s := { a with front := { setView act.carrier .unknown a.front with action := none } })
      rfl (.inl station) mode unheld (still.calm (.inl station))
    refine ⟨faulted, by rw [kept.front], ?_, by rw [kept.front]; rfl, kept.fire⟩
    rw [kept.front]
    exact entry_setView_same inView

end Sys2Proof.Machine
end

section
/-! SUPPORT. Calls, cancels, duplicates and promotion (chapters 2 and 6). -/

namespace Sys2Proof.Machine

set_option Elab.async false

open Sys2Proof

/-! ## A slot's record and its changes -/

theorem Handed.cfg_here {c : Config} {f : RxFrame} {a b : State} (h : Handed c f a b) : b.cfg = some c := by
  rcases h.way with ⟨_, _, rfl⟩ | ⟨_, _, rfl⟩ <;> exact h.cfg

theorem Handed.powered_here {c : Config} {f : RxFrame} {a b : State} (h : Handed c f a b) : b.powered = a.powered := by
  rcases h.way with ⟨_, _, rfl⟩ | ⟨_, _, rfl⟩ <;> rfl

theorem slotRec_at {c : Config} {ad : SlotAddr} {i : Nat} {s : State} (hc : s.cfg = some c) (names : namesRecord c ad = true)
    (hi : slotIndex c ad = i) : s.slotRec ad = getAt i s.dir.records := by
  unfold State.slotRec
  simp only [hc, names, if_true, hi]

/-- A change between two states neither EMPTY, with the lasting image kept, sets the record alone. -/
theorem change_unwritten {ad : SlotAddr} {i bin : Nat} {st : SlotState} {job : Option Nat} {r : SlotRec} {d : Directory}
    (hr : getAt i d.records = some r) (lasting : SlotRec.lasting { r with state := st, bin := bin } = r.lasting) (was : r.state ≠ .empty)
    (becomes : st ≠ .empty) : Directory.change ad i st bin job d = { d with records := setAt i { r with state := st, bin := bin } d.records } := by
  unfold Directory.change
  simp only [hr]
  rw [if_pos lasting]
  simp [Directory.put, hr, was, becomes]

/-- A HELD slot reserved for a FETCH. -/
theorem reserveOutbound_eq {c : Config} {ad : SlotAddr} {i : Nat} {r : SlotRec} {s : State} (hc : s.cfg = some c)
    (names : namesRecord c ad = true) (hi : slotIndex c ad = i) (hr : getAt i s.dir.records = some r) (held : r.state = .held) :
    reserveOutbound ad s = { s with dir := { s.dir with records := setAt i { r with state := .outbound } s.dir.records } } := by
  unfold reserveOutbound requestChange
  simp only [hc, slotRec_at hc names hi, hr, held, beq_self_eq_true, if_true, hi, State.onDir]
  rw [change_unwritten hr (by simp [SlotRec.lasting, held]) (by simp [held]) (by simp)]

/-- An OUTBOUND slot released as its FETCH leaves. -/
theorem releaseFor_fetch {c : Config} {j : Job} {ad : SlotAddr} {i : Nat} {r : SlotRec} {s : State} (hc : s.cfg = some c)
    (slot : j.slot = some ad) (fetch : j.kind = .fetch) (names : namesRecord c ad = true) (hi : slotIndex c ad = i)
    (hr : getAt i s.dir.records = some r) (outbound : r.state = .outbound) (bin : r.bin = j.bin) (held : s.crane.held = none) :
    releaseFor j s = { s with dir := { s.dir with records := setAt i { r with state := .held } s.dir.records } } := by
  unfold releaseFor
  simp only [slot]
  rw [if_neg (by simp [Crane.heldPick, held])]
  unfold releaseSlot
  rw [if_pos (by simp [slotRec_at hc names hi, hr, bin])]
  simp only [fetch]
  unfold requestChange
  simp only [hc, slotRec_at hc names hi, hr, outbound, beq_self_eq_true, if_true, hi, State.onDir]
  rw [change_unwritten hr (by simp [SlotRec.lasting, outbound]) (by simp [outbound]) (by simp)]

/-- No entry of the offers names the job: closing its entry changes nothing. -/
theorem closeClaimed_unclaimed {n : Nat} {s : State} (h : ∀ e ∈ s.offers.entries, e.job ≠ some n) : closeClaimed n s = s := by
  have same : s.offers.entries.filter (fun e => e.job != some n) = s.offers.entries :=
    List.filter_eq_self.mpr fun e he => by simpa using h e he
  unfold closeClaimed State.onOffers
  simp only [same]

/-! ## FETCH (R104 to R107) -/

theorem inService_of {s : State} (station : s.station = .run) (calm : s.fire.state = .calm) : s.inService = true := by
  simp [State.inService, station, calm]

theorem not_inService_of {s : State} (h : s.station ≠ .run ∨ s.fire.state ≠ .calm) : s.inService = false := by
  rcases h with h | h <;> simp [State.inService, h]

/-- Settles O10: the answers of R104 and R105 in the order of their tests. -/
theorem callIsAnswered : Obligations.CallIsAnswered := by
  intro now src bin tag c s a b ha hp handed room
  have cfg := handed.cfg_here
  have taken : exec (.fetch now src bin tag) s = .next (takeFetch src bin tag b) :=
    (whenOn_at ha hp).trans (congrArg _ (handFrame_handed handed _))
  have answered (o : HoldOutcome) (estimate : Nat) : answer src bin tag o estimate b = Queued (.hold bin tag src o estimate) .all b :=
    send_queued room
  refine ⟨fun j job => ⟨fun kind => ?_, fun kind => ?_⟩, fun unnamed unknown => ?_, fun i unnamed found => ⟨fun held station calm full => ?_, fun out => ?_⟩⟩
  all_goals refine taken.trans (congrArg _ ?_)
  · rw [← answered]
    simp only [takeFetch, job, kind]
  · rw [← answered]
    simp only [takeFetch, job, kind]
  · simp only [takeFetch, unnamed, cfg, unknown]
  · rw [← answered]
    simp only [takeFetch, unnamed, cfg, found]
    rw [if_pos (by simp [held, inService_of station calm]), if_neg (by simp [State.queueRoom, full])]
  · rw [← answered]
    simp only [takeFetch, unnamed, cfg, found]
    refine if_neg ?_
    rcases out with h | h
    · simp [h]
    · simp [not_inService_of h]

/-- A FETCH for a HELD bin in service makes its job, reserves the slot and answers, and its consequences follow. -/
theorem takeFetch_queues {src bin tag i n : Nat} {c : Config} {j : Job} {r : SlotRec} {b : State} (cfg : b.cfg = some c)
    (room : b.line.general.length < 8) (unnamed : b.jobOfBin bin = none) (found : b.dir.lookup bin = some i)
    (names : namesRecord c (slotAt c i) = true) (hi : slotIndex c (slotAt c i) = i) (hr : getAt i b.dir.records = some r)
    (held : r.state = .held) (station : b.station = .run) (calm : b.fire.state = .calm) (few : b.queue.jobs.length < 8)
    (hn : n = b.queue.nextNumber) (hj : j = fetchJob src bin tag n (slotAt c i)) :
    takeFetch src bin tag b = settle { Queued (.hold bin tag src .queued (b.holdEstimate j)) .all b with
      queue := { b.queue with jobs := placeJob j b.queue.jobs, counter := (n + 1) % 256 }
      dir := { b.dir with records := setAt i { r with state := .outbound } b.dir.records } } := by
  have fetch : fetchJob src bin tag b.queue.nextNumber (slotAt c i) = j := by rw [hj, hn]
  simp only [takeFetch, unnamed, cfg, found]
  rw [if_pos (by simp [State.slotIs, slotRec_at cfg names hi, hr, held, inService_of station calm]), if_pos (by simp [State.queueRoom, few])]
  unfold queueCall
  simp only [fetch]
  rw [reserveOutbound_eq (s := addJob j b) (r := r) (by exact cfg) names hi (by exact hr) held]
  unfold answer
  rw [send_queued (by exact room)]
  subst hj
  rfl

/-- Settles O11. -/
theorem callIsQueued : Obligations.CallIsQueued := by
  intro now src bin tag i n c j r s a b t ha hp handed room unnamed found names hi hr held station calm few hn hj ht rest
  refine (whenOn_at ha hp).trans (congrArg _ ((handFrame_handed handed _).trans ?_))
  rw [takeFetch_queues handed.cfg_here room unnamed found names hi hr held station calm few hn hj, ← ht]
  exact settle_atRest rest

/-! ## CANCEL (R110 to R112) -/

/-- A match is a FETCH with the CANCEL's bin, tag and source. -/
theorem of_cancelMatch {src bin tag : Nat} {j : Job} {s : State} (h : s.cancelMatch src bin tag = some j) :
    j ∈ s.queue.jobs ∧ j.kind = .fetch ∧ j.bin = bin ∧ j.tag = tag ∧ j.requester = src := by
  have test := List.find?_some h
  simp only [Job.isFetch, Bool.and_eq_true, beq_iff_eq] at test
  exact ⟨List.mem_of_find?_eq_some h, test.1.1.1, test.1.1.2, test.1.2, test.2⟩

/-- A FETCH that leaves with its slot released, its offer entry none: no write, one FAILED; in TO_PICK its move ends. -/
theorem failNow_released {c : Config} {n i : Nat} {o : FailOutcome} {ad : SlotAddr} {j : Job} {r : SlotRec} {s : State} (hc : s.cfg = some c)
    (job : s.job n = some j) (slot : j.slot = some ad) (fetch : j.kind = .fetch) (names : namesRecord c ad = true)
    (hi : slotIndex c ad = i) (hr : getAt i s.dir.records = some r) (outbound : r.state = .outbound) (bin : r.bin = j.bin)
    (held : s.crane.held = none) (room : s.line.general.length < 8) (unclaimed : ∀ e ∈ s.offers.entries, e.job ≠ some n) :
    failNow n o s =
      (let t : State := { Queued (.failed j.bin j.tag o) (.station j.requester) s with
          queue := { s.queue with jobs := s.queue.jobs.filter (fun k => k.num != n) }
          dir := { s.dir with records := setAt i { r with state := .held } s.dir.records } }
       if j.stage = .toPick then moveEnd t else t) := by
  unfold failNow
  simp only [job, releaseFor_fetch hc slot fetch names hi hr outbound bin held]
  rw [send_queued (by exact room), closeClaimed_unclaimed (by exact unclaimed)]
  rfl

theorem rampDown_eq (clock : Nat) (x : Axis) : x.rampDown clock = x.movedOut := by
  unfold Axis.rampDown Axis.movedOut Axis.halt
  split
  · rename_i h
    simp [h]
  · rfl

theorem moveEnd_eq {s : State} (h : s.crane.mode = .step) : moveEnd s = { s with crane := s.crane.movedOut } := by
  unfold moveEnd
  rw [if_pos h]
  simp only [rampBoth, State.onCrane, Crane.onBoth, Crane.movedOut, rampDown_eq]

/-- With both outputs zero the move end is finished: the crane is IDLE (R66). -/
theorem progress_moveEnded {s : State} (mode : s.crane.mode = .step) (step : s.crane.step = none) (fork : s.crane.fork = none)
    (held : s.crane.held = none) (owed : s.dir.firstOwed = none) (writes : s.dir.writeList = [] ∨ s.dir.port ≠ .idle)
    (still : s.crane.still = true) : progress s = some (s.onCrane (fun k => { k with mode := .idle })) := by
  have rests : craneRests s = some (s.onCrane (fun k => { k with mode := .idle })) := by
    unfold craneRests
    rw [if_pos (by simp [still, fork, step])]
    simp only [mode]
  unfold progress
  simp [finishHeld_none held, fillOwed_none owed, beginWrite_none writes, stepProgress_none step, rests]

/-- Settles O14. -/
theorem cancelEndsWaitingCall : Obligations.CancelEndsWaitingCall := by
  intro now src bin tag c s a b ha hp handed room
  have taken : exec (.cancel now src bin tag) s = .next (takeCancel src bin tag b) :=
    (whenOn_at ha hp).trans (congrArg _ (handFrame_handed handed _))
  refine ⟨fun late => ?_, fun j i r t u found job slot names hi hr outbound rbin held unclaimed ht => ?_,
    fun axis x u hx next others mode step fork held owed writes settles => ?_⟩
  · refine taken.trans (congrArg _ ?_)
    unfold takeCancel
    split
    · rename_i j found
      obtain ⟨mem, fetch, hbin, htag, hsrc⟩ := of_cancelMatch found
      obtain ⟨waiting, toPick⟩ := late j mem fetch hbin htag hsrc
      exact if_neg (by simp [waiting, toPick])
    · rfl
  · obtain ⟨_, fetch, hbin, htag, hsrc⟩ := of_cancelMatch found
    have failed := failNow_released (o := .cancelled) handed.cfg_here job slot fetch names hi hr outbound (rbin.trans hbin.symm) held room unclaimed
    rw [hbin, htag, hsrc, ← ht] at failed
    refine ⟨fun stage settles => ?_, fun stage mode settles => ?_⟩
    all_goals
      refine taken.trans (congrArg _ ?_)
      simp only [takeCancel, found]
      rw [if_pos (by simp [stage]), failed]
    · dsimp only
      rw [if_neg (by simp [stage])]
      exact settles.settle_eq
    · have same : t.crane = b.crane := by rw [ht]; rfl
      dsimp only
      rw [if_pos stage, moveEnd_eq (by rw [same]; exact mode), same]
      exact settles.settle_eq
  · refine (whenOn_at ha hp).trans (congrArg _ ?_)
    subst hx
    unfold dutyPeriod
    dsimp only
    rw [if_pos next]
    have period : a.onAxis axis (Axis.newPeriod a.clock) = a.onAxis axis (fun _ =>
        { a.axis axis with duty := 0, nextDuty := none, brake := true, stall := none, quietSince := a.clock }) := by
      cases axis <;> simp only [State.axis, Crane.axis] at next <;>
        simp only [State.onAxis, State.onCrane, Crane.onAxis, Axis.newPeriod, State.axis, Crane.axis, next]
    rw [period]
    refine settles.settle_of_progress (progress_moveEnded ?_ ?_ ?_ ?_ (by exact owed) (by exact writes) ?_)
    all_goals cases axis
    · exact mode
    · exact mode
    · exact step
    · exact step
    · exact fork
    · exact fork
    · exact held
    · exact held
    · have lift : a.crane.lift.duty = 0 := others .lift (nomatch ·)
      simpa [State.onAxis, State.onCrane, Crane.onAxis, Crane.still] using lift
    · have travel : a.crane.travel.duty = 0 := others .travel (nomatch ·)
      simpa [State.onAxis, State.onCrane, Crane.onAxis, Crane.still] using travel

/-! ## A peer's HOLD (R8, R117) -/

theorem findPlace_spec {p : SlotRec → Bool} {i : Nat} {rs : List SlotRec} (h : findPlace p rs = some i) :
    ∃ r, getAt i rs = some r ∧ p r = true := by
  induction rs generalizing i with
  | nil => cases h
  | cons x xs ih =>
    unfold findPlace at h
    split at h
    · rename_i hp
      cases h
      exact ⟨x, by simp, hp⟩
    · obtain ⟨k, hk, rfl⟩ := Option.map_eq_some_iff.mp h
      simpa using ih hk

/-- The record a lookup finds names the bin. -/
theorem lookup_bin {d : Directory} {bin i : Nat} {r : SlotRec} (h : d.lookup bin = some i) (hr : getAt i d.records = some r) : r.bin = bin := by
  unfold Directory.lookup at h
  split at h
  · cases h
  · split at h
    · rename_i k live
      cases h
      obtain ⟨q, hq, named⟩ := findPlace_spec live
      rw [hr] at hq
      cases hq
      simp only [SlotRec.namesLive, Bool.and_eq_true, beq_iff_eq] at named
      exact named.1
    · obtain ⟨q, hq, named⟩ := findPlace_spec h
      rw [hr] at hq
      cases hq
      unfold SlotRec.namesBlocked at named
      split at named
      · simpa using named
      · cases named

/-- A HELD or OUTBOUND record blocked: `Blocks` says what becomes of the station. -/
theorem blockDuplicate_eq {c : Config} {i bin : Nat} {r : SlotRec} {b m : State} (hr : getAt i b.dir.records = some r) (rbin : r.bin = bin)
    (state : r.state = .held ∨ r.state = .outbound) (h : Blocks c i r b m) : blockDuplicate c i bin b = m := by
  obtain ⟨unlisted, owed, writes, room, rfl⟩ := h
  have was : r.state ≠ .empty := by rcases state with h | h <;> simp [h]
  have differs : SlotRec.lasting { r with state := .blocked .duplicate, bin := bin } ≠ r.lasting := by
    rcases state with h | h <;> simp [SlotRec.lasting, h]
  have change : Directory.change (slotAt c i) i (.blocked .duplicate) bin none b.dir = { b.dir with
      records := setAt i { r with state := .blocked .duplicate, owed := owed } b.dir.records, writeList := writes } := by
    unfold Directory.change
    simp only [hr]
    rw [if_neg differs]
    unfold Directory.oweWrite Directory.writeRoom
    rcases room with ⟨few, rfl, rfl⟩ | ⟨full, rfl, rfl⟩
    · rw [if_pos (by simp [few])]
      simp only [Directory.put, hr, was, if_false]
      rw [addWrite_new (by exact unlisted), ← rbin]
      simp [SlotRec.lasting]
    · rw [if_neg (by simp [unlisted]; omega)]
      simp [Directory.put, hr, was, ← rbin]
  unfold blockDuplicate
  rw [raise_mild _ rfl]
  simp only [State.onDir, change]

theorem duplicateHere_of {s : State} {bin i : Nat} {r : SlotRec} (found : s.dir.lookup bin = some i) (hr : getAt i s.dir.records = some r)
    (state : r.state = .held ∨ r.state = .outbound) : s.duplicateHere bin = true := by
  unfold State.duplicateHere
  rcases state with h | h <;> simp [found, hr, h]

/-- The mark as R117 and R121 describe it. -/
theorem markDuplicate_eq {c : Config} {bin : Nat} {b m : State} (hc : b.cfg = some c) (room : ∀ j, b.jobOfBin bin = some j → b.line.general.length < 8)
    (h : DuplicateMarked c bin b m) : markDuplicate bin b = m ∧ b.duplicateHere bin = true := by
  obtain ⟨i, r, found, hr, ⟨held, unnamed, blocks⟩ | ⟨j, x, outbound, named, job, fetch, slot, names, hi, unheld, _, unclaimed, stage, blocks, rfl⟩⟩ := h
  · refine ⟨?_, duplicateHere_of found hr (.inl held)⟩
    unfold markDuplicate
    simp only [hc, found, hr, unnamed, Option.map_some, held]
    exact blockDuplicate_eq hr (lookup_bin found hr) (.inl held) blocks
  · refine ⟨?_, duplicateHere_of found hr (.inr outbound)⟩
    have rbin := lookup_bin found hr
    have jbin : j.bin = bin := by simpa using List.find?_some named
    have blocked := blockDuplicate_eq hr rbin (.inr outbound) blocks
    obtain ⟨_, owed, writes, _, hx⟩ := blocks
    have isStore : j.isStore = false := by simp [Job.isStore, fetch]
    have inRange : i < b.dir.records.length := by
      by_contra hlen
      have absent : ∀ (l : List SlotRec) (k : Nat), l.length ≤ k → getAt k l = none := by
        intro l
        induction l with
        | nil => simp
        | cons y ys ih =>
          intro k hk
          cases k with
          | zero => simp at hk
          | succ k => simpa using ih k (by simpa using hk)
      rw [absent _ _ (by omega)] at hr
      cases hr
    have unreleased : releaseFor j x = x := by
      refine releaseFor_unheld (by rw [hx]; exact unheld) fun ad hs => ?_
      rw [slot] at hs
      cases hs
      refine ⟨?_, fun hk => absurd (hk.symm.trans fetch) (nomatch ·)⟩
      have record : x.slotRec (slotAt c i) = some { r with state := .blocked .duplicate, owed := owed } := by
        rw [slotRec_at (by rw [hx]; exact hc) names hi, hx]
        exact getAt_setAt_same inRange
      simp [State.slotIs, record]
    have job' : x.job j.num = some j := by rw [hx]; exact job
    have fails : failNow j.num .duplicate x = { Queued (.failed bin j.tag .duplicate) (.station j.requester) x with
        queue := { b.queue with jobs := b.queue.jobs.filter (fun k => k.num != j.num) }
        crane := if j.stage = .toPick then b.crane.movedOut else b.crane } := by
      unfold failNow
      simp only [job', unreleased]
      rw [send_queued (by rw [hx]; simpa [recordFault, State.onLine] using room j named), closeClaimed_unclaimed (by
        rw [hx]
        exact unclaimed), jbin]
      have queue : x.queue = b.queue := by rw [hx]; rfl
      have crane : x.crane = b.crane := by rw [hx]; rfl
      rcases stage with hs | ⟨hs, mode⟩
      · rw [if_neg (by simp [hs]), if_neg (by simp [hs]), ← crane, ← queue]
        rfl
      · rw [if_pos hs, if_pos hs, moveEnd_eq (by rw [← crane] at mode; exact mode), ← crane, ← queue]
        rfl
    unfold markDuplicate
    simp only [hc, found, hr, named, Option.map_some, outbound, isStore, blocked, fails]
    rw [if_neg Bool.false_ne_true, if_pos]
    rcases stage with hs | ⟨hs, _⟩
    · exact .inl hs
    · exact .inr hs

/-- The bin of a STORE is left unmarked (log 38). -/
theorem markDuplicate_store {bin : Nat} {j : Job} {s : State} (named : s.jobOfBin bin = some j) (store : j.kind = .store) : markDuplicate bin s = s := by
  have isStore : j.isStore = true := by simp [Job.isStore, store]
  unfold markDuplicate
  simp only [named]
  split
  · split
    · contradiction
    · rename_i k _ hk
      cases hk
      exact if_pos isStore
    · contradiction
    · rename_i k _ hk
      cases hk
      exact if_pos isStore
    · rfl
  · rfl

/-- Settles O15. -/
theorem peerHoldMarksDuplicate : Obligations.PeerHoldMarksDuplicate := by
  intro now src bin tag requester estimate o c s a b ha hp handed
  have cfg := handed.cfg_here
  have taken : exec (.hold now src bin tag requester o estimate) s = .next (takeHold bin o b) :=
    (whenOn_at ha hp).trans (congrArg _ (handFrame_handed handed _))
  have marking (hears : o = .queued ∨ o = .alreadyCalled) (here : b.duplicateHere bin = true) : takeHold bin o b = settle (markDuplicate bin b) := by
    rcases hears with rfl | rfl <;> exact if_pos here
  refine ⟨fun unmarked rest => ?_, fun hears => ⟨fun m u marked settles => ?_, fun i r j u found hr outbound named fetch picking settles => ?_⟩⟩
  · refine taken.trans (congrArg _ ?_)
    have still (h : b.duplicateHere bin = true → markDuplicate bin b = b) : takeHold bin o b = b := by
      have heard : (if b.duplicateHere bin = true then settle (markDuplicate bin b) else b) = b := by
        split
        · rename_i here
          rw [h here]
          exact settle_atRest rest
        · rfl
      cases o with
      | queued => exact heard
      | alreadyCalled => exact heard
      | _ => rfl
    rcases unmarked with rfl | rfl | rfl | unknown | ⟨i, r, found, hr, held, outbound⟩ | ⟨j, named, store⟩
    · rfl
    · rfl
    · rfl
    · exact still fun here => absurd here (by simp [State.duplicateHere, unknown])
    · exact still fun here => absurd here (by simp [State.duplicateHere, found, hr, held, outbound])
    · exact still fun _ => markDuplicate_store named store
  · refine taken.trans (congrArg _ ?_)
    have room : ∀ j, b.jobOfBin bin = some j → b.line.general.length < 8 := by
      obtain ⟨i, r, _, _, ⟨_, unnamed, _⟩ | ⟨_, _, _, _, _, _, _, _, _, _, room, _⟩⟩ := marked
      · intro j named
        rw [unnamed] at named
        cases named
      · exact fun _ _ => room
    obtain ⟨mark, here⟩ := markDuplicate_eq cfg room marked
    rw [marking hears here, mark]
    exact settles.settle_eq
  · refine taken.trans (congrArg _ ?_)
    rw [marking hears (duplicateHere_of found hr (.inr outbound))]
    have raised : markDuplicate bin b = recordFault .directory b := by
      unfold markDuplicate
      simp only [cfg, found, hr, named, Option.map_some, outbound]
      rw [if_neg (by simp [Job.isStore, fetch]), if_neg (by simp [picking]), raise_mild _ rfl]
    rw [raised]
    exact settles.settle_eq

/-! ## Promotion (R31) -/

theorem takeWhile_ahead {j : Job} {ahead behind : List Job} (h : ∀ x ∈ ahead, x.num ≠ j.num) :
    aheadOf j.num (ahead ++ j :: behind) = ahead := by
  unfold aheadOf
  rw [List.takeWhile_append_of_pos (by simpa using h)]
  simp

/-- Settles O16. -/
theorem patientStoreIsPromoted : Obligations.PatientStoreIsPromoted := by
  intro now c j ahead behind s a ha hp hc job jobs front back
  refine ⟨fun p store waiting unpromoted pulled patient => ?_, fun unready => ?_⟩
  · have due : a.promotable c j = true := by simp [State.promotable, Job.isStore, store, waiting, unpromoted, pulled, State.msNow, patient]
    have promoted : promote j.num a = onJobs (promoteIn j) a := by
      unfold promote
      simp only [hc, job]
      exact if_pos due
    have others : (ahead ++ j :: behind).filter (fun x => x.num != j.num) = ahead ++ behind := by
      rw [List.filter_append, List.filter_cons_of_neg (by simp), List.filter_eq_self.mpr (by simpa using front), List.filter_eq_self.mpr (by simpa using back)]
    refine ⟨fun unmoved => ?_, fun l1 x l2 hl fetch waits first => ?_⟩
    all_goals
      refine (whenOn_at ha hp).trans (congrArg _ (promoted.trans ?_))
      unfold onJobs State.onQueue promoteIn
      simp only [jobs, takeWhile_ahead front]
    · rw [if_neg (by simpa [Job.waitingFetch, Job.isFetch] using unmoved)]
      have same (l : List Job) (h : ∀ x ∈ l, x.num ≠ j.num) : l.map (fun x => if x.num = j.num then { j with promoted := true } else x) = l :=
        (List.map_congr_left fun x hx => if_neg (h x hx)).trans (List.map_id' l)
      rw [List.map_append, List.map_cons, same ahead front, same behind back, if_pos rfl]
    · subst hl
      rw [if_pos (by simp [Job.waitingFetch, Job.isFetch, fetch, waits]), others]
      have split : l1 ++ x :: l2 ++ behind = l1 ++ x :: (l2 ++ behind) := by simp
      rw [split, insertBefore_append_cons _ (by simp [Job.waitingFetch, Job.isFetch, fetch, waits]) (by
        intro y hy
        simpa [Job.waitingFetch, Job.isFetch] using first y hy)]
      rfl
  · refine (whenOn_at ha hp).trans (congrArg _ ?_)
    unfold promote
    simp only [hc, job]
    refine if_neg ?_
    rcases unready with h | h | h | h | ⟨p, h, hl⟩
    · simp [State.promotable, Job.isStore, h]
    · simp [State.promotable, h]
    · simp [State.promotable, h]
    · simp [State.promotable, h]
    · simp [State.promotable, h, State.msNow, Nat.not_lt.mpr hl]

end Sys2Proof.Machine
end

section
/-! SUPPORT. SLOTSET (R21, R22) and selection (R32 to R34). -/

namespace Sys2Proof.Machine

set_option Elab.async false

open Sys2Proof

/-! ## Places in slot order -/

theorem getAt_isSome {α : Type} {i : Nat} {l : List α} (h : i < l.length) : ∃ x, getAt i l = some x := by
  induction l generalizing i with
  | nil => exact absurd h (by simp)
  | cons y ys ih =>
    cases i with
    | zero => exact ⟨y, by simp⟩
    | succ i => simpa using ih (by simpa using h)

/-- A slot address that names a record has its place among the records, the directory holding any. -/
theorem slotIndex_lt {c : Config} {ad : SlotAddr} (names : namesRecord c ad = true) (faces : 0 < c.faces) : slotIndex c ad < Config.capacity c := by
  simp only [namesRecord, within, Bool.and_eq_true, Bool.or_eq_true, beq_iff_eq, decide_eq_true_eq] at names
  obtain ⟨⟨face, bay, bays⟩, level, levels⟩ := names
  have column : faceIndex ad.face * c.bays + (ad.bay - 1) + 1 ≤ c.faces * c.bays := by
    rcases face with h | h
    · rw [h]
      have := Nat.mul_le_mul_right c.bays faces
      simp only [faceIndex]
      omega
    · have : faceIndex ad.face ≤ 1 := by cases ad.face <;> simp [faceIndex]
      have := Nat.mul_le_mul_right c.bays this
      rw [h]
      omega
  have := Nat.mul_le_mul_right c.levels column
  rw [Nat.add_mul] at this
  unfold slotIndex Config.capacity
  omega

/-- A test that fails for the record put in is met by the others. -/
theorem any_setAt {p : SlotRec → Bool} {i : Nat} {r : SlotRec} {l : List SlotRec} (h : p r = false) :
    (setAt i r l).any p = true ↔ ∃ k q, k ≠ i ∧ getAt k l = some q ∧ p q = true := by
  induction l generalizing i with
  | nil => simp
  | cons y ys ih =>
    cases i with
    | zero =>
      have later : ys.any p = true ↔ ∃ k q, getAt k ys = some q ∧ p q = true := by
        clear ih
        induction ys with
        | nil => simp
        | cons z zs ih =>
          rw [List.any_cons, Bool.or_eq_true, ih]
          constructor
          · rintro (hz | ⟨k, q, hk, hq⟩)
            · exact ⟨0, z, by simp, hz⟩
            · exact ⟨k + 1, q, by simpa using hk, hq⟩
          · rintro ⟨k, q, hk, hq⟩
            cases k with
            | zero => exact .inl (by simp at hk; rwa [hk])
            | succ k => exact .inr ⟨k, q, by simpa using hk, hq⟩
      rw [setAt_zero, List.any_cons, h, Bool.false_or, later]
      constructor
      · rintro ⟨k, q, hk, hq⟩
        exact ⟨k + 1, q, by omega, by simpa using hk, hq⟩
      · rintro ⟨k, q, hne, hk, hq⟩
        obtain ⟨k, rfl⟩ : ∃ m, k = m + 1 := ⟨k - 1, by omega⟩
        exact ⟨k, q, by simpa using hk, hq⟩
    | succ i =>
      rw [setAt_succ, List.any_cons, Bool.or_eq_true, ih]
      constructor
      · rintro (hy | ⟨k, q, hne, hk, hq⟩)
        · exact ⟨0, y, by omega, by simp, hy⟩
        · exact ⟨k + 1, q, by omega, by simpa using hk, hq⟩
      · rintro ⟨k, q, hne, hk, hq⟩
        cases k with
        | zero => exact .inl (by simp at hk; rwa [hk])
        | succ k => exact .inr ⟨k, q, by omega, by simpa using hk, hq⟩

/-! ## The tests of R21 -/

theorem hasPending_iff {d : Directory} {ad : SlotAddr} : d.hasPending ad = true ↔ ∃ e ∈ d.pendingWrites, e.slot = ad := by
  simp [Directory.hasPending]

theorem slotSettable_iff {c : Config} {ad : SlotAddr} {b : State} (cfg : b.cfg = some c) (names : namesRecord c ad = true)
    (whole : b.dir.records = [] ∨ b.dir.records.length = Config.capacity c) : b.slotSettable ad = true ↔
      (∃ r, b.slotRec ad = some r ∧ r.state ≠ .outbound ∧ r.state ≠ .inbound)
        ∧ (∀ e ∈ b.dir.writeList, e.slot = ad → e.job = none)
        ∧ (b.dir.writeList.length < 4 ∨ ∃ e ∈ b.dir.pendingWrites, e.slot = ad) := by
  have listed : b.dir.writeList.any (fun e => e.slot == ad && e.job.isSome) = false ↔ ∀ e ∈ b.dir.writeList, e.slot = ad → e.job = none := by
    simp [List.any_eq_false]
  have room : b.dir.writeRoom ad = true ↔ b.dir.writeList.length < 4 ∨ ∃ e ∈ b.dir.pendingWrites, e.slot = ad := by
    rw [Directory.writeRoom, Bool.or_eq_true, hasPending_iff, decide_eq_true_eq, or_comm]
  unfold State.slotSettable
  simp only [Bool.and_eq_true, Bool.not_eq_true', listed, room]
  have holds : b.dir.holds = true ↔ ∃ r, b.slotRec ad = some r := by
    rw [slotRec_at cfg names rfl]
    constructor
    · intro h
      refine getAt_isSome ?_
      rcases whole with hw | hw
      · simp [Directory.holds, hw] at h
      · rw [hw]
        refine slotIndex_lt names ?_
        by_contra hf
        have : c.faces = 0 := by omega
        rw [Config.capacity, this, Nat.zero_mul, Nat.zero_mul] at hw
        simp [Directory.holds, List.length_eq_zero_iff.mp hw] at h
    · rintro ⟨r, hr⟩
      cases hrec : b.dir.records with
      | nil => simp [hrec] at hr
      | cons y ys => simp [Directory.holds, hrec]
  constructor
  · rintro ⟨⟨⟨⟨outbound, inbound⟩, held⟩, unlisted⟩, free⟩
    obtain ⟨r, hr⟩ := holds.mp held
    exact ⟨⟨r, hr, by simpa [State.slotIs, hr] using outbound, by simpa [State.slotIs, hr] using inbound⟩, unlisted, free⟩
  · rintro ⟨⟨r, hr, outbound, inbound⟩, unlisted, free⟩
    exact ⟨⟨⟨⟨by simpa [State.slotIs, hr] using outbound, by simpa [State.slotIs, hr] using inbound⟩, holds.mpr ⟨r, hr⟩⟩, unlisted⟩, free⟩

theorem namedElsewhere_iff {i bin : Nat} {b : State} : b.namedElsewhere i bin = true ↔
    (∃ k q, k ≠ i ∧ getAt k b.dir.records = some q ∧ q.state ≠ .empty ∧ q.bin = bin) ∨ ∃ j ∈ b.queue.jobs, j.bin = bin := by
  unfold State.namedElsewhere
  rw [Bool.or_eq_true, any_setAt (by simp)]
  have job : (b.jobOfBin bin).isSome = true ↔ ∃ j ∈ b.queue.jobs, j.bin = bin := by
    simp [State.jobOfBin, List.find?_isSome]
  rw [job]
  simp

/-- A write entered in place of the slot's pending one. -/
theorem addWrite_inPlace {ad : SlotAddr} {img : Image} {d : Directory} {under front back : List WriteEntry} {e : WriteEntry}
    (list : d.writeList = under ++ front ++ e :: back)
    (len : under.length = (if d.port = .writing ∨ d.port = .checking then 1 else 0)) (others : ∀ x ∈ front, x.slot ≠ ad) (slot : e.slot = ad) :
    d.addWrite ad img none 1 = { d with writeList := under ++ front ++ { e with image := img, acks := e.acks + 1 } :: back } := by
  have flags : d.underWrite = decide (d.port = .writing ∨ d.port = .checking) := by
    cases hp : d.port <;> simp [Directory.underWrite, hp]
  have pending : d.pendingWrites = front ++ e :: back := by
    unfold Directory.pendingWrites
    split
    · rename_i h
      have one : under.length = 1 := by rw [len, if_pos (by simpa [flags] using h)]
      rw [list, List.append_assoc, List.drop_append_of_le_length (by omega), ← one, List.drop_length, List.nil_append]
    · rename_i h
      have none : under = [] := List.length_eq_zero_iff.mp (by rw [len, if_neg (by simpa [flags] using h)])
      rw [list, none, List.nil_append]
  have writing : d.writing = under := by
    unfold Directory.writing
    split
    · rename_i h
      have one : under.length = 1 := by rw [len, if_pos (by simpa [flags] using h)]
      rw [list, List.append_assoc, List.take_append_of_le_length (by omega), ← one, List.take_length]
    · rename_i h
      exact (List.length_eq_zero_iff.mp (by rw [len, if_neg (by simpa [flags] using h)])).symm
  have replaced (f : WriteEntry → WriteEntry) : updateFirst (fun x => x.slot == ad) f (front ++ e :: back) = front ++ f e :: back := by
    clear list pending
    induction front with
    | nil => simp [updateFirst, slot]
    | cons x xs ih =>
      have hx : x.slot ≠ ad := others x (by simp)
      simp only [List.cons_append, updateFirst, beq_iff_eq, hx, if_false]
      rw [ih fun y hy => others y (by simp [hy])]
  rw [addWrite_replaces (hasPending_iff.mpr ⟨e, by rw [pending]; simp, slot⟩), pending, writing, replaced]
  simp

/-- Settles O9: the tests in R21's order, each refusal sending its SLOTACK alone. -/
theorem slotsetTestedInOrder : Obligations.SlotsetTestedInOrder := by
  intro now src face bay level state bin c s a b ha hp handed whole
  have cfg := handed.cfg_here
  have taken : exec (.slotset now src face bay level state bin) s = .next (takeSlotset src face bay level state bin b) :=
    (whenOn_at ha hp).trans (congrArg _ (handFrame_handed handed _))
  have refused (r : SlotResult) (h : b.slotsetResult c src face bay level state bin = (r, none)) :
      exec (.slotset now src face bay level state bin) s = .next (send (.slotack face bay level r) (.station c.maintenance) b) := by
    refine taken.trans (congrArg _ ?_)
    simp only [takeSlotset, cfg, h]
  refine ⟨fun source => refused _ (if_pos source), fun source range => refused _ ?_, fun f st source hf hst names fits => ?_⟩
  · unfold State.slotsetResult
    rw [if_neg (by simp [source])]
    cases hf : faceOf face with
    | none => rfl
    | some f =>
      cases hst : slotStateOf state with
      | none => rfl
      | some st =>
        refine if_pos ?_
        cases hn : namesRecord c ⟨f, bay, level⟩
        · rfl
        · cases hi : imageFits st bin
          · rfl
          · exact absurd ⟨f, st, hf, hst, hn, hi⟩ range
  · have tests : b.slotsetResult c src face bay level state bin =
        if !b.slotSettable ⟨f, bay, level⟩ then (.refusedBusy, none)
        else if bin ≠ 0 ∧ b.namedElsewhere (slotIndex c ⟨f, bay, level⟩) bin then (.refusedDuplicate, none)
        else (.accepted, some (⟨f, bay, level⟩, st)) := by
      unfold State.slotsetResult
      rw [if_neg (by simp [source])]
      simp only [hf, hst]
      rw [if_neg (by simp [names, fits])]
    have settable := slotSettable_iff cfg names whole
    refine ⟨fun busy => refused _ ?_, fun r hr outbound inbound unlisted room => ⟨fun hbin named => refused _ ?_, fun free d u hd => ?_⟩⟩
    · rw [tests, if_pos (by simpa using fun h => busy (settable.mp h))]
    · rw [tests, if_neg (by simpa using settable.mpr ⟨⟨r, hr, outbound, inbound⟩, unlisted, room⟩), if_pos ⟨hbin, namedElsewhere_iff.mpr named⟩]
    · have accepted : takeSlotset src face bay level state bin b = settle (b.onDir fun d =>
          (Directory.put (slotIndex c ⟨f, bay, level⟩) ⟨st, bin, false⟩ d).addWrite ⟨f, bay, level⟩ ⟨st, bin⟩ none 1) := by
        have result : b.slotsetResult c src face bay level state bin = (.accepted, some (⟨f, bay, level⟩, st)) := by
          rw [tests, if_neg (by simpa using settable.mpr ⟨⟨r, hr, outbound, inbound⟩, unlisted, room⟩), if_neg]
          rintro ⟨hbin, named⟩
          rcases free with h | ⟨records, jobs⟩
          · exact hbin h
          · rcases namedElsewhere_iff.mp named with ⟨i, q, hne, hq, hs, hb⟩ | ⟨j, hj, hb⟩
            · exact records i q hne hq hs hb
            · exact jobs j hj hb
        simp only [takeSlotset, cfg, result]
      have put : Directory.put (slotIndex c ⟨f, bay, level⟩) ⟨st, bin, false⟩ b.dir = d := by
        rw [slotRec_at cfg names rfl] at hr
        unfold Directory.put
        simp only [hr]
        exact hd.symm
      refine ⟨fun unpended settles => ?_, fun under front e back list len others slot settles => ?_⟩
      all_goals
        refine taken.trans (congrArg _ (accepted.trans ?_))
        unfold State.onDir
        simp only [put]
      · have new : d.hasPending ⟨f, bay, level⟩ = false := by
          rw [Bool.eq_false_iff]
          intro h
          obtain ⟨e, he, slot⟩ := hasPending_iff.mp h
          exact unpended e (by rw [hd] at he; exact he) slot
        rw [addWrite_new new, show d.writeList = b.dir.writeList by rw [hd]]
        exact settles.settle_eq
      · rw [addWrite_inPlace (by rw [hd]; exact list) (by rw [hd]; exact len) others slot]
        exact settles.settle_eq

/-! ## Moves begun (R45) -/

/-- The start step is the highest one whose threshold the distance reaches. -/
theorem startStep_three {c : AxisConfig} {d k : Nat} (hk : k ≤ 3) (reached : k = 0 ∨ stepValue c.threshold k ≤ d)
    (above : ∀ m, k < m → m ≤ 3 → d < stepValue c.threshold m) : startStep c 3 d = k := by
  have h1 := above 1
  have h2 := above 2
  have h3 := above 3
  simp only [stepValue] at h1 h2 h3
  unfold startStep
  interval_cases k <;> simp only [stepValue] at reached <;> split_ifs <;> omega

/-- An axis that can be driven takes a move as `Axis.Begins` says. -/
theorem requestMove_begins {c : Config} {ax : AxisName} {goal : Nat} {y : Axis} {s : State} (hc : s.cfg = some c) (move : (s.axis ax).move = .none)
    (homed : (s.axis ax).homed = true) (free : s.axisHeld ax = false) (centred : s.sensors.fkc = true) (ready : s.sensors.drdy = true)
    (begins : Axis.Begins (Config.axis c ax) s.clock c.window goal (s.axis ax) y) :
    requestMove ax goal 3 s = .taken (s.onAxis ax fun _ => y) := by
  unfold requestMove
  simp only [hc]
  have uncapped : (if ax = .lift ∧ (!s.sensors.fkc) = true then 0 else 3) = 3 := if_neg (by simp [centred])
  rw [if_neg (by simp [move, homed, free]), uncapped]
  rcases begins with ⟨near, rfl⟩ | ⟨far, k, hk, reached, above, rfl⟩
  · rw [if_pos near]
    cases ax <;> rfl
  · rw [if_neg (by omega), if_neg (by simp [ready])]
    have step : startStep (Config.axis c ax) 3 (dist goal (s.axis ax).count) = k := startStep_three hk reached above
    have run : msec (stepValue (Config.axis c ax).stall k) = 1000 * stepValue (Config.axis c ax).stall k := by unfold msec; omega
    have started : Axis.startMove (Config.axis c ax) s.clock goal 3 (s.axis ax) = { s.axis ax with
        move := .driving, target := some goal, cap := 3, reversals := 0, firstMark := true, step := k
        duty := stepValue (Config.axis c ax).duty k, nextDuty := none, brake := false
        stall := some (s.clock + 1000 * stepValue (Config.axis c ax).stall k)
        dir := some (if (s.axis ax).count ≤ goal then .up else .down)
        outDir := (if (s.axis ax).count ≤ goal then .up else .down) } := by
      unfold Axis.startMove Axis.drive
      simp only [step, run, toward]
    rw [← started]
    cases ax <;> rfl

/-! ## Selection (R32 to R34) -/

theorem SettlesTo.settle_of_two {s m t u : State} (h : SettlesTo t u) (hs : progress s = some m) (hm : progress m = some t) : settle s = u := by
  have : settle s = settleWith 62 t := by
    show settleWith (62 + 1 + 1) s = _
    simp [settleWith, hs, hm]
  rw [this]
  exact h.settleWith_eq (by decide)

/-- In RUN and CALM, the crane free and nothing to write or to serve, the next step or a selection follows. -/
theorem progress_free {s : State} (calm : s.fire.state = .calm) (record : s.faults.suspension = none)
    (mode : s.crane.mode = .idle ∨ s.crane.mode = .stopped) (step : s.crane.step = none) (held : s.crane.held = none)
    (clearing : s.crane.clearing = none) (homing : s.crane.homing = none) (owed : s.dir.firstOwed = none)
    (writes : s.dir.writeList = [] ∨ s.dir.port ≠ .idle) : progress s = (nextStep s <|> selection s) := by
  have rests : s.crane.mode ≠ .step ∧ s.crane.mode ≠ .stopping := by rcases mode with h | h <;> rw [h] <;> exact ⟨(nomatch ·), (nomatch ·)⟩
  unfold progress
  simp [finishHeld_none held, fillOwed_none owed, beginWrite_none writes, stepProgress_none step, craneRests_none rests, haltingReport, calm,
    clearProgress_none clearing, homedAtFront, homing, sealedByScl, reopen, opened, serveGive_none (s := s) fun _ => record]

/-- The free crane takes a move step whose moves can begin. -/
theorem giveStep_movePick {c : Config} {n : Nat} {place : Place} {x y : Axis} {s : State} (hc : s.cfg = some c)
    (mode : s.crane.mode = .idle ∨ s.crane.mode = .stopped) (step : s.crane.step = none) (held : s.crane.held = none)
    (unheld : s.outputsHeld = false) (homed : s.crane.travel.homed = true ∧ s.crane.lift.homed = true)
    (moves : s.crane.travel.move = .none ∧ s.crane.lift.move = .none) (centred : s.sensors.fkc = true) (ready : s.sensors.drdy = true)
    (travel : Axis.Begins c.travel s.clock c.window (place.travel c) s.crane.travel x)
    (lift : Axis.Begins c.lift s.clock c.window (pickHeight c place.level) s.crane.lift y) :
    giveStep n .movePick place s = .taken { s with crane := { s.crane with
      mode := .step, named := none, step := some ⟨n, .movePick, place, .moving⟩, travel := x, lift := y } } := by
  have free : s.crane.free = true := by rcases mode with h | h <;> simp [Crane.free, h, step, held]
  unfold giveStep
  simp only [hc]
  rw [if_neg (by simp [free, unheld, Crane.bothHomed, homed]), if_neg (by simp [centred])]
  simp only [moveTargets]
  unfold requestBoth
  rw [requestMove_begins (s := takeStep n .movePick place .moving s) (ax := .travel) (by exact hc) (by exact moves.1) (by exact homed.1)
    (by show (s.outputsHeld || _) = false; simp [unheld, takeStep, centred]) (by exact centred) (by exact ready) (by exact travel)]
  exact requestMove_begins (s := (takeStep n .movePick place .moving s).onAxis .travel fun _ => x) (ax := .lift) (by exact hc) (by exact moves.2)
    (by exact homed.2) (by show (s.outputsHeld || _) = false; simp [unheld]) (by exact centred) (by exact ready) (by exact lift)

theorem find?_append_cons {α : Type} {p : α → Bool} {x : α} {front back : List α} (h : ∀ y ∈ front, p y = false) (hx : p x = true) :
    (front ++ x :: back).find? p = some x := by
  rw [List.find?_append, List.find?_eq_none.mpr (by simpa using h), Option.none_or, List.find?_cons_of_pos hx]

/-- The job selected stands first, in TO_PICK, its start set. -/
theorem selectJob_eq {j : Job} {ahead behind : List Job} {s : State} (jobs : s.queue.jobs = ahead ++ j :: behind)
    (others : ∀ k ∈ ahead ++ behind, k.num ≠ j.num) : selectJob j s = { s with queue := { s.queue with
      jobs := { j with stage := .toPick, start := some ⟨s.serviceEstimate j, s.clock / 1000⟩ } :: (ahead ++ behind) } } := by
  have rest : s.queue.jobs.filter (fun k => k.num != j.num) = ahead ++ behind := by
    rw [jobs, List.filter_append, List.filter_cons_of_neg (by simp), ← List.filter_append]
    exact List.filter_eq_self.mpr (by simpa using others)
  have same (f : Job → Job) : (ahead ++ behind).map (fun k => if k.num = j.num then f k else k) = ahead ++ behind :=
    (List.map_congr_left fun k hk => if_neg (others k hk)).trans (List.map_id' _)
  unfold selectJob startJob updateJob onJobs State.onQueue
  simp only [rest, List.map_cons, same, if_true, Job.setStage]
  rfl

/-- Settles O12. -/
theorem jobIsSelected : Obligations.JobIsSelected := by
  intro now c j ahead behind x y s a u t v ha hp hca clock hc station calm record held mode step unheld clearing homing homedT homedL moveT moveL owed
    writes centred ready jobs others passed waiting fetches travel lift ht settles
  have nums : ∀ k ∈ ahead ++ behind, k.num ≠ j.num := fun k hk => (others k hk).1
  have idle : ∀ k ∈ ahead ++ behind, k.active = false := fun k hk => (others k hk).2
  have jidle : j.active = false := by simp [Job.active, waiting]
  have every (p : Job → Prop) (hj : p j) (h : ∀ k ∈ ahead ++ behind, p k) : ∀ k ∈ u.queue.jobs, p k := by
    intro k hk
    rw [jobs] at hk
    rcases List.mem_append.mp hk with hk | hk
    · exact h k (List.mem_append_left _ hk)
    · rcases List.mem_cons.mp hk with rfl | hk
      · exact hj
      · exact h k (List.mem_append_right _ hk)
  have inactive : u.activeJob = none := List.find?_eq_none.mpr fun k hk => by simp [every (fun k => k.active = false) jidle idle k hk]
  have service : u.inService = true := inService_of station calm
  have free : u.crane.free = true := by rcases mode with h | h <;> simp [Crane.free, h, step, unheld]
  have eligible : u.queue.jobs.find? u.eligible = some j := by
    rw [jobs]
    refine find?_append_cons (fun k hk => ?_) ?_
    · unfold State.eligible
      cases hs : (k.stage == Stage.waiting)
      · rfl
      · obtain ⟨kind, taken⟩ := passed k hk (by simpa using hs)
        simp only [kind, Bool.true_and]
        rcases taken with hd | ⟨q, hq, qkind, qstage⟩
        · simp [hd]
        · have : u.queue.jobs.any (fun k => k.isFetch && (k.onCrane || k.stage == .dispatching)) = true := by
            rw [List.any_eq_true]
            refine ⟨q, ?_, by simp [Job.isFetch, qkind, qstage]⟩
            rw [jobs]
            rcases List.mem_append.mp hq with h | h <;> simp [h]
          simp [this]
    · unfold State.eligible
      simp only [waiting, beq_self_eq_true, Bool.true_and]
      cases kind : j.kind with
      | store => rfl
      | fetch =>
        obtain ⟨empty, undispatched⟩ := fetches kind
        have none : u.queue.jobs.any (fun k => k.isFetch && (k.onCrane || k.stage == .dispatching)) = false := by
          rw [List.any_eq_false]
          refine every _ ?_ fun k hk => ?_
          · simp [Job.onCrane, jidle, waiting]
          · have hu := undispatched k hk
            simp only [Job.isFetch, Job.onCrane, idle k hk, Bool.false_and, Bool.false_or, Bool.and_eq_true, beq_iff_eq, not_and]
            exact hu
        simp [empty, none]
  have selects : progress u = some (selectJob j u) := by
    have nothing : nextStep u = none := by
      unfold nextStep
      simp [inactive]
    have selected : selection u = some (selectJob j u) := by
      unfold selection
      rw [if_pos (by simp [service, Crane.bothHomed, homedT, homedL, record, inactive, free]), eligible]
      rfl
    rw [progress_free calm record mode step unheld clearing homing owed writes, nothing, selected]
    rfl
  have moves : progress (selectJob j u) = some t := by
    rw [selectJob_eq jobs nums, progress_free (by exact calm) (by exact record) (by exact mode) (by exact step) (by exact unheld) (by exact clearing)
      (by exact homing) (by exact owed) (by exact writes)]
    generalize hm : ({ u with queue := { u.queue with
      jobs := { j with stage := .toPick, start := some ⟨u.serviceEstimate j, u.clock / 1000⟩ } :: (ahead ++ behind) } } : State) = m
    have active : m.activeJob = some { j with stage := .toPick, start := some ⟨u.serviceEstimate j, u.clock / 1000⟩ } := by
      rw [← hm]
      exact List.find?_cons_of_pos rfl
    have outputs : m.outputsHeld = false := by rw [← hm]; simp [State.outputsHeld, station, calm]
    have given : nextStep m = some t := by
      unfold nextStep
      rw [if_pos (by rw [← hm]; simp only [Bool.and_eq_true, Option.isNone_iff_eq_none]; exact ⟨⟨service, record⟩, free⟩), active]
      dsimp only
      rw [if_neg (by rw [← hm]; simp [JobQueue.failing, held])]
      unfold giveMove
      rw [← clock] at travel lift
      rw [giveStep_movePick (c := c) (x := x) (y := y) (by rw [← hm]; exact hc) (by rw [← hm]; exact mode) (by rw [← hm]; exact step)
        (by rw [← hm]; exact unheld) outputs (by rw [← hm]; exact ⟨homedT, homedL⟩) (by rw [← hm]; exact ⟨moveT, moveL⟩) (by rw [← hm]; exact centred)
        (by rw [← hm]; exact ready) (by rw [← hm]; exact travel) (by rw [← hm]; exact lift)]
      rw [ht, ← hm, ← clock]
      rfl
    rw [given]
    rfl
  have settled : settle u = v := settles.settle_of_two selects moves
  refine ⟨settled, fun occupied idle owner hu => ?_, fun src bin tag i n r b handed room unnamed found names hi hr rheld few hn hj hu => ?_⟩
  · refine (whenOn_at ha hp).trans (congrArg _ ((dispatchChange_emptied occupied).trans ?_))
    rw [dispatchEmptied_bare (c := c) (by exact hca) (.inl (by exact idle)), if_pos (by exact owner), ← hu]
    exact settled
  · refine (whenOn_at ha hp).trans (congrArg _ ((handFrame_handed handed _).trans ?_))
    rw [takeFetch_queues handed.cfg_here room unnamed found names hi hr rheld (by rw [hu] at station; exact station) (by rw [hu] at calm; exact calm) few
      hn hj, ← hu]
    exact settled

end Sys2Proof.Machine
end

section
/-! SUPPORT. Offers, bids and claims (chapter 7). -/

namespace Sys2Proof.Machine

set_option Elab.async false

open Sys2Proof

/-! ## The transmit queue as the offer unit uses it (R197) -/

/-- With no attempt in progress an offer entry's frames leave the queue. -/
theorem withdraw_eq {serial : Nat} {s : State} (h : s.line.attempt = none) :
    withdraw serial s = { s with line := { s.line with general := s.line.general.filter (fun z => z.offer != some serial) } } := by
  have left : s.line.general.filter (fun e => !(e.ownedBy serial && s.line.waits e)) = s.line.general.filter (fun z => z.offer != some serial) := by
    refine List.filter_congr fun e _ => ?_
    simp [TxEntry.ownedBy, LineUnit.waits, LineUnit.underAttempt, h, bne]
  have unmarked : (s.line.general.filter (fun z => z.offer != some serial)).map (fun e => if e.ownedBy serial then { e with withdrawn := true } else e) =
      s.line.general.filter (fun z => z.offer != some serial) := by
    refine (List.map_congr_left fun e he => ?_).trans (List.map_id' _)
    have other := (List.mem_filter.mp he).2
    exact if_neg (by simpa [TxEntry.ownedBy] using other)
  unfold withdraw State.onLine
  simp only [left, unmarked]

theorem attempting_none {serial : Nat} {l : LineUnit} (h : l.attempt = none) : l.attempting serial = false := by
  simp [LineUnit.attempting, LineUnit.underAttempt, h]

theorem sendOwned_room {body : TxBody} {serial : Nat} {s : State} (h : s.line.general.length < 8) :
    sendOwned body serial s = { s with line := { s.line with
      general := s.line.general ++ [newEntry s.line.nextOrder body .all (some serial)], nextOrder := s.line.nextOrder + 1 } } := by
  unfold sendOwned
  rw [if_pos (by simpa [LineUnit.room] using h)]
  rfl

/-! ## OFFER (R120 to R124) -/

/-- The tests of R122, bin test apart. -/
structure Eligible (carrier : Nat) (s : State) : Prop where
  station : s.station = .run
  calm : s.fire.state = .calm
  empty : 0 < s.dir.emptyCount
  jobs : s.queue.jobs.length < 8
  loop : s.front.pcs.isSome = true
  unclaimed : ∀ j ∈ s.queue.jobs, j.kind = .store → j.carrier ≠ some carrier

theorem storeOnCarrier_false {carrier : Nat} {s : State} (h : ∀ j ∈ s.queue.jobs, j.kind = .store → j.carrier ≠ some carrier) :
    s.storeOnCarrier carrier = false := by
  simpa [State.storeOnCarrier, Job.isStore] using h

theorem offerCost_eligible {carrier : Nat} {s : State} (h : Eligible carrier s) : s.offerCost carrier true = s.bidCost carrier := by
  unfold State.offerCost
  exact if_pos (by simp [inService_of h.station h.calm, h.empty, State.queueRoom, h.jobs, h.loop, storeOnCarrier_false h.unclaimed])

theorem offerCost_failed (carrier : Nat) (s : State) : s.offerCost carrier false = none := by
  unfold State.offerCost
  exact if_neg (by simp)

theorem offerCost_unserved {carrier : Nat} {passes : Bool} {s : State} (h : s.station ≠ .run ∨ s.fire.state ≠ .calm) :
    s.offerCost carrier passes = none := by
  unfold State.offerCost
  exact if_neg (by simp [not_inService_of h])

theorem offerCost_claimed {carrier : Nat} {passes : Bool} {s : State} (h : ∃ j ∈ s.queue.jobs, j.kind = .store ∧ j.carrier = some carrier) :
    s.offerCost carrier passes = none := by
  obtain ⟨j, hj, kind, on⟩ := h
  have claimed : s.storeOnCarrier carrier = true := by
    rw [State.storeOnCarrier, List.any_eq_true]
    exact ⟨j, hj, by simp [Job.isStore, kind, on]⟩
  unfold State.offerCost
  exact if_neg (by simp [claimed])

/-- The view as an OFFER shows it (R75). -/
def sawOffer (src carrier bin : Nat) (s : State) : State := s.onFront (setView carrier (.laden (some bin) none (some src)))

/-- An OFFER taken, its marks made: `m` is the station after them, `passes` the bin test before them. -/
theorem takeOffer_eq {src carrier bin tag : Nat} {c : Config} {b m : State} (cfg : b.cfg = some c) (marks : markDuplicate bin b = m) :
    takeOffer src carrier bin tag b =
      (let u := if m.offers.entries.any (fun e => e.carrier == carrier) || decide (m.offers.entries.length < 4) then
          openEntry c src carrier bin tag (m.offerCost carrier (b.binTest bin)) m
        else m.onCounters (fun k => { k with ignoredOffer := satInc k.ignoredOffer })
       if b.duplicateHere bin then settle u else u) := by
  unfold takeOffer
  simp only [cfg, marks]

theorem exec_offer {now : Now} {src carrier bin tag : Nat} {c : Config} {s a b : State} (ha : a = s.arrive now) (hp : s.powered = true)
    (handed : Handed c ⟨src, .offer carrier bin tag⟩ a b) :
    exec (.offer now src carrier bin tag) s = .next (sawOffer src carrier bin (takeOffer src carrier bin tag b)) :=
  (whenOn_at ha hp).trans (congrArg _ (handFrame_handed handed _))

theorem unopened {carrier : Nat} {s : State} (h : ∀ x ∈ s.offers.entries, x.carrier ≠ carrier) :
    s.offers.entries.any (fun e => e.carrier == carrier) = false := by
  simpa using h

/-- A carrier with no open entry gets one at the end, without a bid. -/
theorem openEntry_uncosted {c : Config} {src carrier bin tag : Nat} {s : State} (h : ∀ x ∈ s.offers.entries, x.carrier ≠ carrier) :
    openEntry c src carrier bin tag none s = { s with offers := {
      entries := s.offers.entries ++ [offerEntry s.offers.nextSerial carrier bin tag src (s.clock / 1000 + c.bidWindow) none .none]
      nextSerial := s.offers.nextSerial + 1 } } := by
  have none : s.offers.entries.find? (fun e => e.carrier == carrier) = none := by simpa [List.find?_eq_none] using h
  unfold openEntry placeEntry
  simp only [none, offerEntry, unopened h, State.onOffers]
  rfl

/-- With a cost and room the BID goes with it. -/
theorem openEntry_bid {c : Config} {src carrier bin tag k : Nat} {s : State} (h : ∀ x ∈ s.offers.entries, x.carrier ≠ carrier)
    (room : s.line.general.length < 8) : openEntry c src carrier bin tag (some k) s = { s with
      offers := {
        entries := s.offers.entries ++ [offerEntry s.offers.nextSerial carrier bin tag src (s.clock / 1000 + c.bidWindow) (some k) .bidPending]
        nextSerial := s.offers.nextSerial + 1 }
      line := { s.line with
        general := s.line.general ++ [newEntry s.line.nextOrder (.bid carrier tag src k) .all (some s.offers.nextSerial)]
        nextOrder := s.line.nextOrder + 1 } } := by
  have none : s.offers.entries.find? (fun e => e.carrier == carrier) = none := by simpa [List.find?_eq_none] using h
  have free : s.line.room = true := by simpa [LineUnit.room] using room
  unfold openEntry
  simp only [none, free]
  rw [sendOwned_room (by exact room)]
  unfold placeEntry
  simp only [offerEntry, unopened h, State.onOffers]
  rfl

/-- A bin neither in the directory nor named by a job passes, and is not marked. -/
theorem offer_unknown {bin : Nat} {b : State} (unknown : b.dir.lookup bin = none) :
    markDuplicate bin b = b ∧ b.duplicateHere bin = false ∧ b.binTest bin = (b.jobOfBin bin).isNone := by
  refine ⟨?_, by simp [State.duplicateHere, unknown], by simp [State.binTest, unknown]⟩
  unfold markDuplicate
  rw [unknown]
  split
  · contradiction
  · rfl

/-- Settles O38. -/
theorem offerIsBidFor : Obligations.OfferIsBidFor := by
  intro now src carrier bin tag c e s a b u ha hp handed unknown unnamed closed room hu he
  obtain ⟨unmarked, apart, passes⟩ := offer_unknown unknown
  have passed : b.binTest bin = true := by rw [passes, unnamed]; rfl
  have taken := takeOffer_eq (src := src) (carrier := carrier) (tag := tag) handed.cfg_here unmarked
  rw [apart, passed, unopened closed] at taken
  dsimp only at taken
  rw [if_neg Bool.false_ne_true, Bool.false_or] at taken
  refine ⟨fun k few station calm empty jobs loop unclaimed cost => ?_, fun few ineligible => ?_, fun full => ?_⟩
  all_goals
    refine (exec_offer ha hp handed).trans (congrArg _ ?_)
    rw [taken]
    subst hu he
  · rw [if_pos (by simpa using few), offerCost_eligible ⟨station, calm, empty, jobs, loop, unclaimed⟩, cost, openEntry_bid closed room]
    rfl
  · have uncosted : b.offerCost carrier true = none := by
      rcases ineligible with h | h | h | h | h | h | h
      · exact offerCost_unserved (.inl h)
      · exact offerCost_unserved (.inr h)
      · exact if_neg (by simp [h])
      · exact if_neg (by simp [State.queueRoom, Nat.not_lt.mpr h])
      · exact if_neg (by simp [h])
      · exact offerCost_claimed h
      · unfold State.offerCost
        rw [h]
        split <;> rfl
    rw [if_pos (by simpa using few), uncosted, openEntry_uncosted closed]
    rfl
  · rw [if_neg (by simpa using full)]
    rfl

/-- A mark leaves offers, clock and service as they stand, but for what it raises. -/
theorem DuplicateMarked.spared {c : Config} {bin : Nat} {b m : State} (h : DuplicateMarked c bin b m) :
    m.offers = b.offers ∧ m.clock = b.clock ∧ b.binTest bin = true := by
  obtain ⟨i, r, found, hr, ⟨held, unnamed, _, _, _, _, rfl⟩ | ⟨j, x, outbound, named, _, fetch, _, _, _, _, _, _, stage, ⟨_, _, _, _, hx⟩, rfl⟩⟩ := h
  · exact ⟨rfl, rfl, by simp [State.binTest, found, hr, held, unnamed]⟩
  · refine ⟨by rw [hx]; rfl, by rw [hx]; rfl, ?_⟩
    rcases stage with h | ⟨h, _⟩ <;> simp [State.binTest, found, hr, outbound, named, Job.isFetch, fetch, h]

theorem DuplicateMarked.room {c : Config} {bin : Nat} {b m : State} (h : DuplicateMarked c bin b m) :
    ∀ j, b.jobOfBin bin = some j → b.line.general.length < 8 := by
  obtain ⟨i, r, _, _, ⟨_, unnamed, _⟩ | ⟨_, _, _, _, _, _, _, _, _, _, room, _⟩⟩ := h
  · intro j named
    rw [unnamed] at named
    cases named
  · exact fun _ _ => room

theorem find?_of_append {carrier : Nat} {before behind : List OfferEntry} {old : OfferEntry} (h : ∀ x ∈ before, x.carrier ≠ carrier)
    (ho : old.carrier = carrier) : (before ++ old :: behind).find? (fun e => e.carrier == carrier) = some old :=
  find?_append_cons (by simpa using h) (by simpa using ho)

theorem updateFirst_append_cons {α : Type} {p : α → Bool} {f : α → α} {x : α} {front back : List α} (h : ∀ y ∈ front, p y = false)
    (hx : p x = true) : updateFirst p f (front ++ x :: back) = front ++ f x :: back := by
  induction front with
  | nil => simp [updateFirst, hx]
  | cons y ys ih =>
    have hy := h y (by simp)
    simp only [List.cons_append, updateFirst, hy, Bool.false_eq_true, if_false]
    rw [ih fun z hz => h z (by simp [hz])]

/-- An OFFER for the carrier of an open entry replaces it in place, its frame withdrawn. -/
theorem openEntry_replaces {c : Config} {src carrier bin tag : Nat} {cost : Option Nat} {before behind : List OfferEntry} {old : OfferEntry}
    {general : List TxEntry} {b : State} (list : b.offers.entries = before ++ old :: behind) (first : ∀ x ∈ before, x.carrier ≠ carrier)
    (ho : old.carrier = carrier) (quiet : b.line.attempt = none) (hg : general = b.line.general.filter (fun z => z.offer != some old.serial)) :
    openEntry c src carrier bin tag cost b =
      (let t (own : OwnState) : State := { b with
          offers := {
            entries := before ++ offerEntry b.offers.nextSerial carrier bin tag src (b.clock / 1000 + c.bidWindow) cost own :: behind
            nextSerial := b.offers.nextSerial + 1 }
          line := { b.line with general := general } }
       match cost with
       | some k => sendOwned (.bid carrier tag src k) b.offers.nextSerial (t (if general.length < 8 then .bidPending else .none))
       | none => t .none) := by
  have found := find?_of_append (behind := behind) first ho
  have replaced (x : OfferEntry) (hx : x.carrier = carrier) : placeEntry x { b with line := { b.line with general := general } } = { b with
      offers := { entries := before ++ x :: behind, nextSerial := b.offers.nextSerial + 1 }
      line := { b.line with general := general } } := by
    unfold placeEntry State.onOffers
    simp only [list, hx]
    rw [if_pos (by simp [ho]), updateFirst_append_cons (by simpa using first) (by simpa using ho)]
  unfold openEntry
  simp only [list, found]
  rw [withdraw_eq quiet, ← hg]
  cases cost with
  | none => exact replaced _ rfl
  | some k =>
    dsimp only
    rw [replaced _ rfl]
    simp [LineUnit.room, State.msNow, offerEntry]

/-- Settles O39. -/
theorem offerFindsDuplicate : Obligations.OfferFindsDuplicate := by
  intro now src carrier bin tag c e s a b seen ha hp handed hseen he
  have cfg := handed.cfg_here
  have saw (t : State) : sawOffer src carrier bin t = seen t := (hseen t).symm
  have taken := fun {m : State} => takeOffer_eq (src := src) (carrier := carrier) (bin := bin) (tag := tag) (m := m) cfg
  refine ⟨fun few closed => ⟨fun m u k marked station calm empty jobs loop unclaimed cost room settles => ?_,
    fun m u marked out settles => ?_, fun i r j u found hr named => ⟨fun outbound fetch picking settles => ?_, fun state store settles => ?_⟩,
    fun unheld => ?_⟩, fun before old behind general list first ho unknown unnamed quiet hg => ?_⟩
  · obtain ⟨mark, here⟩ := markDuplicate_eq cfg marked.room marked
    obtain ⟨offers, clock, passes⟩ := marked.spared
    have closed' : ∀ x ∈ m.offers.entries, x.carrier ≠ carrier := by rw [offers]; exact closed
    refine (exec_offer ha hp handed).trans (congrArg _ ?_)
    rw [taken mark, here, passes, offerCost_eligible ⟨station, calm, empty, jobs, loop, unclaimed⟩, cost, saw]
    dsimp only
    rw [if_pos rfl, if_pos (by rw [offers]; simp [few]), openEntry_bid closed' room]
    subst he
    rw [← offers, ← clock] at settles
    exact congrArg seen settles.settle_eq
  · obtain ⟨mark, here⟩ := markDuplicate_eq cfg marked.room marked
    obtain ⟨offers, clock, passes⟩ := marked.spared
    have closed' : ∀ x ∈ m.offers.entries, x.carrier ≠ carrier := by rw [offers]; exact closed
    refine (exec_offer ha hp handed).trans (congrArg _ ?_)
    rw [taken mark, here, passes, offerCost_unserved out, saw]
    dsimp only
    rw [if_pos rfl, if_pos (by rw [offers]; simp [few]), openEntry_uncosted closed']
    subst he
    rw [← offers, ← clock] at settles
    exact congrArg seen settles.settle_eq
  · have mark : markDuplicate bin b = recordFault .directory b := by
      unfold markDuplicate
      simp only [cfg, found, hr, named, Option.map_some, outbound]
      rw [if_neg (by simp [Job.isStore, fetch]), if_neg (by simp [picking]), raise_mild _ rfl]
    have fails : b.binTest bin = false := by simp [State.binTest, found, hr, outbound, named, picking]
    refine (exec_offer ha hp handed).trans (congrArg _ ?_)
    rw [taken mark, duplicateHere_of found hr (.inr outbound), fails, offerCost_failed, saw]
    dsimp only
    rw [if_pos rfl, if_pos (by simp [few]), openEntry_uncosted (by exact closed)]
    subst he
    exact congrArg seen settles.settle_eq
  · have fails : b.binTest bin = false := by
      rcases state with h | h <;> simp [State.binTest, found, hr, h, named, Job.isFetch, store]
    refine (exec_offer ha hp handed).trans (congrArg _ ?_)
    rw [taken (markDuplicate_store named store), duplicateHere_of found hr state, fails, offerCost_failed, saw]
    dsimp only
    rw [if_pos rfl, if_pos (by simp [few]), openEntry_uncosted closed]
    subst he
    exact congrArg seen settles.settle_eq
  · have unmarked : markDuplicate bin b = b ∧ b.duplicateHere bin = false ∧ b.binTest bin = false := by
      rcases unheld with ⟨i, r, found, hr, held, outbound⟩ | ⟨unknown, j, named⟩
      · refine ⟨?_, by simp [State.duplicateHere, found, hr, held, outbound], ?_⟩
        · unfold markDuplicate
          simp only [cfg, found, hr, Option.map_some]
          cases hs : r.state with
          | held => exact absurd hs held
          | outbound => exact absurd hs outbound
          | _ => rfl
        · simp only [State.binTest, found, hr, Option.map_some]
          cases hs : r.state with
          | held => exact absurd hs held
          | outbound => exact absurd hs outbound
          | _ => rfl
      · obtain ⟨mark, apart, passes⟩ := offer_unknown unknown
        exact ⟨mark, apart, by rw [passes, named]; rfl⟩
    obtain ⟨mark, apart, fails⟩ := unmarked
    refine (exec_offer ha hp handed).trans (congrArg _ ?_)
    rw [taken mark, apart, fails, offerCost_failed, saw]
    dsimp only
    rw [if_neg Bool.false_ne_true, if_pos (by simp [few]), openEntry_uncosted closed]
    subst he
    rfl
  · obtain ⟨unmarked, apart, passes⟩ := offer_unknown unknown
    have passed : b.binTest bin = true := by rw [passes, unnamed]; rfl
    have open' : b.offers.entries.any (fun e => e.carrier == carrier) = true := by rw [list]; simp [ho]
    have replaces := fun cost => openEntry_replaces (c := c) (src := src) (bin := bin) (tag := tag) (cost := cost) list first ho quiet hg
    have opened : takeOffer src carrier bin tag b = openEntry c src carrier bin tag (b.offerCost carrier true) b := by
      rw [taken unmarked, apart, passed]
      dsimp only
      rw [if_neg Bool.false_ne_true, if_pos (by rw [open']; rfl)]
    refine ⟨fun ineligible => ?_, fun k station calm empty jobs loop unclaimed cost room => ?_⟩
    all_goals refine (exec_offer ha hp handed).trans (congrArg _ ?_)
    · have uncosted : b.offerCost carrier true = none := by
        rcases ineligible with h | h
        · exact offerCost_unserved (.inl h)
        · exact offerCost_claimed h
      rw [opened, uncosted, replaces, saw]
      subst he
      rfl
    · rw [opened, offerCost_eligible ⟨station, calm, empty, jobs, loop, unclaimed⟩, cost, replaces, saw]
      dsimp only
      rw [if_pos room, sendOwned_room (by exact room)]
      subst he
      rfl

/-! ## BID and CLAIM (R126, R130) -/

/-- A pair the own one is better than does not beat it. -/
theorem beatsOwn_false {p own : BidPair} (h : own.better p = true) : p.beatsOwn own = false := by
  unfold BidPair.beatsOwn
  simp only [BidPair.better, Bool.or_eq_true, Bool.and_eq_true, decide_eq_true_eq, beq_iff_eq] at h
  rw [Bool.or_eq_false_iff]
  constructor
  · simp only [BidPair.better, Bool.or_eq_false_iff, Bool.and_eq_false_iff, decide_eq_false_iff_not, beq_eq_false_iff_ne]
    omega
  · rw [beq_eq_false_iff_ne]
    rintro rfl
    omega

theorem beatsOwn_true {p own : BidPair} (h : p.better own = true ∨ p = own) : p.beatsOwn own = true := by
  unfold BidPair.beatsOwn
  rcases h with h | h <;> simp [h]

theorem map_serial {entries : List OfferEntry} {serial : Nat} {f : OfferEntry → OfferEntry} {e x : OfferEntry} (he : serial = e.serial)
    (only : ∀ y ∈ entries, y.serial = e.serial → y = e) (hx : f e = x) :
    entries.map (fun y => if y.serial = serial then f y else y) = entries.map (fun y => if y.serial = e.serial then x else y) := by
  refine List.map_congr_left fun y hy => ?_
  rw [he]
  split
  · rename_i h
    rw [only y hy h, hx]
  · rfl

/-- An INBOUND slot released as its STORE leaves. -/
theorem releaseFor_store {c : Config} {j : Job} {ad : SlotAddr} {i : Nat} {r : SlotRec} {s : State} (hc : s.cfg = some c)
    (slot : j.slot = some ad) (store : j.kind = .store) (names : namesRecord c ad = true) (hi : slotIndex c ad = i)
    (hr : getAt i s.dir.records = some r) (inbound : r.state = .inbound) (bin : r.bin = j.bin) (held : s.crane.held = none) :
    releaseFor j s = { s with dir := { s.dir with
      records := setAt i { r with state := .empty, bin := 0 } s.dir.records, emptyCount := s.dir.emptyCount + 1 } } := by
  unfold releaseFor
  simp only [slot]
  rw [if_neg (by simp [Crane.heldPick, held])]
  unfold releaseSlot
  rw [if_pos (by simp [slotRec_at hc names hi, hr, bin])]
  simp only [store]
  unfold requestChange
  simp only [hc, slotRec_at hc names hi, hr, inbound, beq_self_eq_true, if_true, hi, State.onDir]
  unfold Directory.change
  simp only [hr]
  rw [if_pos (by simp [SlotRec.lasting, inbound])]
  simp [Directory.put, hr, inbound]

/-- Settles O40. -/
theorem bidsAndClaimsAreHeard : Obligations.BidsAndClaimsAreHeard := by
  intro now src carrier tag offerer cost c e p own x s a b ha hp hpair hown hx
  have ownPair : e.ownPair c.address = own := hown.symm
  refine ⟨fun handed => ?_, fun handed => ?_⟩
  · have taken : exec (.bid now src carrier tag offerer cost) s = .next (takeBid src carrier tag offerer cost b) :=
      (whenOn_at ha hp).trans (congrArg _ (handFrame_handed handed _))
    refine ⟨fun unmatched => ?_, fun matched only => ?_⟩
    · refine taken.trans (congrArg _ ?_)
      simp only [takeBid, handed.cfg_here, unmatched]
    · have heard : e.hear p = x := hx.symm
      have update : updateOffer e.serial (OfferEntry.hear p) b = { b with offers := { b.offers with
          entries := b.offers.entries.map (fun y => if y.serial = e.serial then x else y) } } := by
        unfold updateOffer onEntries State.onOffers
        simp only [map_serial rfl only heard]
      have split : takeBid src carrier tag offerer cost b =
          if e.own = .bidPending ∧ p.beatsOwn own = true then suppress e.serial (updateOffer e.serial (OfferEntry.hear p) b)
          else updateOffer e.serial (OfferEntry.hear p) b := by
        simp only [takeBid, handed.cfg_here, matched, ownPair, hpair]
      refine ⟨fun kept => ?_, fun pending beaten quiet => ?_⟩
      · refine taken.trans (congrArg _ (split.trans ?_))
        rw [if_neg ?_, update]
        rintro ⟨pending, beats⟩
        rcases kept with h | h
        · exact h pending
        · rw [beatsOwn_false h] at beats
          cases beats
      · refine taken.trans (congrArg _ (split.trans ?_))
        rw [if_pos ⟨pending, beatsOwn_true beaten⟩, update]
        unfold suppress
        rw [if_neg (by rw [attempting_none (by exact quiet)]; exact Bool.false_ne_true), withdraw_eq (by exact quiet)]
        have again : (b.offers.entries.map (fun y => if y.serial = e.serial then x else y)).map
            (fun y => if y.serial = e.serial then { y with own := .none } else y) =
            b.offers.entries.map (fun y => if y.serial = e.serial then { x with own := .none } else y) := by
          rw [List.map_map]
          refine List.map_congr_left fun y _ => ?_
          have serial : x.serial = e.serial := by rw [hx]
          by_cases h : y.serial = e.serial <;> simp [h, serial]
        unfold updateOffer onEntries State.onOffers
        simp only [again]
  · have taken : exec (.claim now src carrier tag offerer cost) s = .next (takeClaim src carrier tag offerer cost b) :=
      (whenOn_at ha hp).trans (congrArg _ (handFrame_handed handed _))
    refine ⟨fun unmatched => ?_, fun matched => ⟨fun closes => ?_, fun n j i r claimed ejob beaten job store stage idle slot names hi hr inbound rbin unheld quiet => ?_⟩⟩
    · refine taken.trans (congrArg _ ?_)
      simp only [takeClaim, handed.cfg_here, unmatched]
    · refine taken.trans (congrArg _ ?_)
      have closed : takeClaim src carrier tag offerer cost b = closeEntry e.serial b := by
        rcases closes with h | h | ⟨h, better⟩
        · simp only [takeClaim, handed.cfg_here, matched, h]
        · simp only [takeClaim, handed.cfg_here, matched, h]
        · simp only [takeClaim, handed.cfg_here, matched, h, ownPair, ← hpair]
          exact if_neg (by rw [beatsOwn_false better]; exact Bool.false_ne_true)
      exact closed
    · refine taken.trans (congrArg _ ?_)
      have yields : takeClaim src carrier tag offerer cost b = closeWithdrawn e.serial (requestYield n b) := by
        simp only [takeClaim, handed.cfg_here, matched, claimed, ownPair, ← hpair, ejob]
        exact if_pos (beatsOwn_true beaten)
      have yielded : requestYield n b = { b with
          dir := { b.dir with records := setAt i { r with state := .empty, bin := 0 } b.dir.records, emptyCount := b.dir.emptyCount + 1 }
          queue := { b.queue with jobs := b.queue.jobs.filter (fun k => k.num != n) }
          offers := { b.offers with entries := b.offers.entries.filter (fun y => y.job != some n) } } := by
        unfold requestYield
        rw [if_neg (by simp [Front.pulling, idle])]
        unfold yieldNow
        simp only [job]
        rw [if_pos stage, releaseFor_store handed.cfg_here slot store names hi hr inbound rbin unheld]
        rfl
      have both : (b.offers.entries.filter (fun y => y.job != some n)).filter (fun y => y.serial != e.serial) =
          b.offers.entries.filter (fun y => y.job != some n && y.serial != e.serial) := by
        rw [List.filter_filter]
        exact List.filter_congr fun y _ => Bool.and_comm _ _
      rw [yields, yielded]
      unfold closeWithdrawn
      rw [withdraw_eq (by exact quiet)]
      unfold closeEntry onEntries State.onOffers
      simp only [both]

/-! ## BID_WINDOW_END (R127, R128) -/

theorem findPlace_none {p : SlotRec → Bool} {rs : List SlotRec} : findPlace p rs = none ↔ ∀ r ∈ rs, p r = false := by
  induction rs with
  | nil => simp [findPlace]
  | cons x xs ih =>
    unfold findPlace
    cases h : p x <;> simp [h, ih]

theorem wins_of {e : OfferEntry} {c : Config} {own : BidPair} (hown : e.ownPair c.address = own)
    (h : ∀ q, e.best = some q → own.better q = true) : e.wins c.address = true := by
  unfold OfferEntry.wins
  cases hb : e.best with
  | none => rfl
  | some q => simp [hown, beatsOwn_false (h q hb)]

/-- Each test of R128 refuses a claim by itself. -/
theorem claimSlot_refused {e : OfferEntry} {s : State} (h : s.station ≠ .run ∨ s.fire.state ≠ .calm ∨ 8 ≤ s.queue.jobs.length
    ∨ (∃ j ∈ s.queue.jobs, j.bin = e.bin) ∨ (∃ j ∈ s.queue.jobs, j.kind = .store ∧ j.carrier = some e.carrier)
    ∨ (∃ q ∈ s.dir.records, q.bin = e.bin ∧ (q.state = .held ∨ q.state = .outbound ∨ q.state = .inbound)) ∨ s.nearestEmpty = none) :
    s.claimSlot e = none := by
  unfold State.claimSlot State.mayAddStore
  rcases h with h | h | h | ⟨j, hj, hb⟩ | ⟨j, hj, kind, on⟩ | ⟨q, hq, hb, hs⟩ | h
  · exact if_neg (by simp [not_inService_of (.inl h)])
  · exact if_neg (by simp [not_inService_of (.inr h)])
  · exact if_neg (by simp [State.queueRoom, Nat.not_lt.mpr h])
  · refine if_neg ?_
    have named : s.jobOfBin e.bin ≠ none := by
      intro hn
      have := List.find?_eq_none.mp hn j hj
      simp [hb] at this
    cases hj' : s.jobOfBin e.bin with
    | none => exact absurd hj' named
    | some k => simp
  · refine if_neg ?_
    have claimed : s.storeOnCarrier e.carrier = true := by
      rw [State.storeOnCarrier, List.any_eq_true]
      exact ⟨j, hj, by simp [Job.isStore, kind, on]⟩
    simp [claimed]
  · refine if_neg ?_
    have live : findPlace (SlotRec.namesLive e.bin) s.dir.records ≠ none := by
      intro hn
      have := findPlace_none.mp hn q hq
      rcases hs with hs | hs | hs <;> simp [SlotRec.namesLive, hb, hs] at this
    cases hf : findPlace (SlotRec.namesLive e.bin) s.dir.records with
    | none => exact absurd hf live
    | some k => simp
  · rw [h]
    split <;> rfl

theorem claimSlot_taken {e : OfferEntry} {s : State} (station : s.station = .run) (calm : s.fire.state = .calm) (few : s.queue.jobs.length < 8)
    (jobs : ∀ j ∈ s.queue.jobs, j.bin ≠ e.bin ∧ (j.kind = .store → j.carrier ≠ some e.carrier))
    (records : ∀ q ∈ s.dir.records, q.bin = e.bin → q.state ≠ .held ∧ q.state ≠ .outbound ∧ q.state ≠ .inbound) :
    s.claimSlot e = s.nearestEmpty := by
  have unnamed : s.jobOfBin e.bin = none := List.find?_eq_none.mpr fun j hj => by simpa using (jobs j hj).1
  have dead : findPlace (SlotRec.namesLive e.bin) s.dir.records = none := by
    refine findPlace_none.mpr fun q hq => ?_
    unfold SlotRec.namesLive
    cases hb : (q.bin == e.bin)
    · rfl
    · obtain ⟨h1, h2, h3⟩ := records q hq (by simpa using hb)
      simp [h1, h2, h3]
  unfold State.claimSlot State.mayAddStore
  exact if_pos (by simp [inService_of station calm, State.queueRoom, few, unnamed, storeOnCarrier_false fun j hj => (jobs j hj).2, dead])

/-- An EMPTY slot reserved for a STORE's bin. -/
theorem reserveInbound_eq {c : Config} {ad : SlotAddr} {i bin : Nat} {r : SlotRec} {s : State} (hc : s.cfg = some c)
    (names : namesRecord c ad = true) (hi : slotIndex c ad = i) (hr : getAt i s.dir.records = some r) (empty : r.state = .empty) (rbin : r.bin = 0) :
    reserveInbound ad bin s = { s with dir := { s.dir with
      records := setAt i { r with state := .inbound, bin := bin } s.dir.records, emptyCount := s.dir.emptyCount - 1 } } := by
  unfold reserveInbound requestChange
  simp only [hc, slotRec_at hc names hi, hr, empty, beq_self_eq_true, if_true, hi, State.onDir]
  unfold Directory.change
  simp only [hr]
  rw [if_pos (by simp [SlotRec.lasting, empty, rbin])]
  simp [Directory.put, hr, empty]

/-- Settles O41. -/
theorem windowEndClaims : Obligations.WindowEndClaims := by
  intro now carrier c e own s a ha hp hc found hown quiet
  have ownPair : e.ownPair c.address = own := hown.symm
  have ends : windowEnd carrier a = if e.windowEnd ≤ a.clock / 1000 then windowEnds c e a else a := by
    simp only [windowEnd, hc, found]
    rfl
  refine ⟨fun early => ?_, fun due => ⟨fun loses => ?_, fun pending => ?_, fun sent best refused => ?_,
    fun ad i r n sent best station calm few room jobs records nearest names hi hr empty rbin hn => ?_⟩⟩
  all_goals refine (whenOn_at ha hp).trans (congrArg _ (ends.trans ?_))
  · exact if_neg (by omega)
  · rw [if_pos due]
    unfold windowEnds
    rcases loses with h | ⟨h, q, hq, hb⟩
    · simp only [h]
      rfl
    · simp only [h]
      unfold judge
      rw [if_neg (by simp [OfferEntry.wins, hq, ownPair, beatsOwn_true hb])]
      rfl
  · rw [if_pos due]
    unfold windowEnds
    simp only [pending]
    rw [if_neg (by rw [attempting_none quiet]; exact Bool.false_ne_true)]
    unfold closeWithdrawn
    rw [withdraw_eq quiet]
    rfl
  · rw [if_pos due]
    unfold windowEnds
    simp only [sent]
    unfold judge
    rw [if_pos (wins_of ownPair best)]
    unfold claimAttempt
    rw [claimSlot_refused refused]
    rfl
  · rw [if_pos due]
    unfold windowEnds
    simp only [sent]
    unfold judge
    rw [if_pos (wins_of ownPair best)]
    unfold claimAttempt
    rw [claimSlot_taken station calm few jobs records, nearest]
    dsimp only
    rw [reserveInbound_eq (s := addJob (storeJob a.queue.nextNumber ad e) a) (r := r) (by exact hc) names hi (by exact hr) empty rbin,
      sendOwned_room (by exact room), hn]
    rfl

end Sys2Proof.Machine
end

section
/-! SUPPORT. An axis alone: edges counted, the walk down the steps, reversals, rest and duty periods (R42 to R50). -/

namespace Sys2Proof.Machine

set_option Elab.async false

open Sys2Proof

/-! ## Updates of one axis -/

theorem onAxis_congr {a : AxisName} {f g : Axis → Axis} {s : State} (h : f (s.axis a) = g (s.axis a)) : s.onAxis a f = s.onAxis a g := by
  cases a
  · exact congrArg (fun x => { s with crane := { s.crane with travel := x } }) h
  · exact congrArg (fun x => { s with crane := { s.crane with lift := x } }) h

theorem onAxis_onAxis (a : AxisName) (f g : Axis → Axis) (s : State) : (s.onAxis a f).onAxis a g = s.onAxis a (fun x => g (f x)) := by
  cases a <;> rfl

theorem onAxis_same {a : AxisName} {f : Axis → Axis} {s : State} (h : f (s.axis a) = s.axis a) : s.onAxis a f = s := by
  cases a
  · exact congrArg (fun x => { s with crane := { s.crane with travel := x } }) h
  · exact congrArg (fun x => { s with crane := { s.crane with lift := x } }) h

theorem msec_eq (n : Nat) : msec n = 1000 * n := by unfold msec; omega

/-! ## A sample of one phase (R42, R43) -/

/-- With one phase changed the edge is counted and its checks follow. -/
theorem sample_edge {a : AxisName} {pa pb : Bool} {s : State} (changed : ¬ ((s.axis a).phaseA = pa ∧ (s.axis a).phaseB = pb))
    (one : ¬ ((s.axis a).phaseA ≠ pa ∧ (s.axis a).phaseB ≠ pb)) : sample a pa pb s =
      edgeChecks a (!(s.axis a).phaseA && pa) ((s.axis a).counted (countsUp (s.axis a).phaseA (s.axis a).phaseB pa pb)).2
        (s.onAxis a (Axis.takeEdge s.clock pa pb)) := by
  unfold sample
  dsimp only
  rw [if_neg changed, if_neg one]

/-- An edge of phase B: no rise, and the axis counts up where the phases come to agree. -/
theorem sample_phaseB {a : AxisName} {pb : Bool} {s : State} (changed : pb ≠ (s.axis a).phaseB) :
    sample a (s.axis a).phaseA pb s = edgeChecks a false ((s.axis a).counted ((s.axis a).phaseA == pb)).2
      (s.onAxis a (Axis.takeEdge s.clock (s.axis a).phaseA pb)) := by
  rw [sample_edge (fun h => changed h.2.symm) (fun h => h.1 rfl)]
  have up : countsUp (s.axis a).phaseA (s.axis a).phaseB (s.axis a).phaseA pb = ((s.axis a).phaseA == pb) := by
    unfold countsUp
    rw [if_neg (by simp)]
    cases pb <;> cases (s.axis a).phaseA <;> rfl
  rw [up]
  cases (s.axis a).phaseA <;> rfl

/-- Inside its range an axis counts by one and stays in it. -/
theorem counted_inside {x : Axis} {up : Bool} (low : 0 < x.count) (high : x.count < 65535) :
    x.counted up = (if up then x.count + 1 else x.count - 1, false) := by
  unfold Axis.counted
  cases up <;> simp [low, high]

/-- A move in DRIVING or SETTLING, an edge of phase B inside the range: the checks of R46 to R49 on the new count. -/
theorem sample_phaseB_inside {a : AxisName} {pb : Bool} {n : Nat} {y : Axis} {s : State} (changed : pb ≠ (s.axis a).phaseB)
    (low : 0 < (s.axis a).count) (high : (s.axis a).count < 65535)
    (hn : n = (if (s.axis a).phaseA = pb then (s.axis a).count + 1 else (s.axis a).count - 1))
    (hy : y = { s.axis a with count := n, phaseB := pb, quietSince := s.clock }) :
    sample a (s.axis a).phaseA pb s = edgeChecks a false false (s.onAxis a fun _ => y) := by
  rw [sample_phaseB changed, counted_inside low high]
  have taken : s.onAxis a (Axis.takeEdge s.clock (s.axis a).phaseA pb) = s.onAxis a fun _ => y := by
    refine onAxis_congr ?_
    have up : countsUp (s.axis a).phaseA (s.axis a).phaseB (s.axis a).phaseA pb = ((s.axis a).phaseA == pb) := by
      unfold countsUp
      rw [if_neg (by simp)]
      cases pb <;> cases (s.axis a).phaseA <;> rfl
    rw [hy, hn]
    unfold Axis.takeEdge
    rw [up, counted_inside low high]
    simp only [beq_iff_eq]
  rw [taken]

/-- Settles O17. -/
theorem edgeIsCounted : Obligations.EdgeIsCounted := by
  intro now axis pa pb x s a ha hp hx still unpowered range
  subst hx
  refine ⟨fun hA hB => (whenOn_at ha hp).trans (congrArg _ (if_pos ⟨hA.symm, hB.symm⟩)), fun n y hy => ?_⟩
  have counted (up : Bool) (hup : countsUp (a.axis axis).phaseA (a.axis axis).phaseB pa pb = up)
      (one : ¬ ((a.axis axis).phaseA = pa ∧ (a.axis axis).phaseB = pb) ∧ ¬ ((a.axis axis).phaseA ≠ pa ∧ (a.axis axis).phaseB ≠ pb))
      (hn : (a.axis axis).counted up = (n, false)) : exec (.encoderEdge now axis pa pb) s = .next (a.onAxis axis (fun _ => y)) := by
    refine (whenOn_at ha hp).trans (congrArg _ ((sample_edge one.1 one.2).trans ?_))
    rw [hup, hn]
    have taken : a.onAxis axis (Axis.takeEdge a.clock pa pb) = a.onAxis axis fun _ =>
        { a.axis axis with count := n, phaseA := pa, phaseB := pb, quietSince := a.clock } := by
      refine onAxis_congr ?_
      unfold Axis.takeEdge
      rw [hup, hn]
    have metered : (if (!(a.axis axis).phaseA && pa) = true then (a.onAxis axis (Axis.takeEdge a.clock pa pb)).onAxis axis (Axis.meter a.clock)
        else a.onAxis axis (Axis.takeEdge a.clock pa pb)) = a.onAxis axis (fun _ => y) := by
      rw [taken, onAxis_onAxis, hy]
      split
      · rename_i rise
        refine onAxis_congr ?_
        rw [Bool.and_eq_true, Bool.not_eq_true'] at rise
        simp [Axis.meter, unpowered, rise]
      · rename_i rise
        refine onAxis_congr ?_
        rw [Bool.and_eq_true, Bool.not_eq_true'] at rise
        simp [rise]
    unfold edgeChecks
    rw [if_neg Bool.false_ne_true]
    cases hc : (a.onAxis axis (Axis.takeEdge a.clock pa pb)).cfg with
    | none => exact metered
    | some c =>
      have slow : (a.onAxis axis (Axis.takeEdge a.clock pa pb)).onAxis axis (fun x => (x.slow (Config.axis c axis)).restall (Config.axis c axis) a.clock) =
          a.onAxis axis (Axis.takeEdge a.clock pa pb) := by
        refine onAxis_same ?_
        rw [taken, State.axis_onCrane_onAxis]
        simp [Axis.slow, still, Axis.restall, unpowered]
      have clock : (a.onAxis axis (Axis.takeEdge a.clock pa pb)).clock = a.clock := by cases axis <;> rfl
      have slack : Axis.tooFast (Config.axis c axis) a.clock ((a.onAxis axis (Axis.takeEdge a.clock pa pb)).axis axis) = false := by
        rw [taken, State.axis_onCrane_onAxis]
        unfold Axis.tooFast
        split
        · rfl
        · simp [unpowered]
      have moveless : y.move = .none := by rw [hy]; exact still
      dsimp only
      rw [clock, slow, slack, metered, if_neg (by simp), State.axis_onCrane_onAxis, if_neg (by simp [Axis.overshot, moveless]), onAxis_onAxis]
      exact onAxis_congr (by simp [Axis.stopIn, moveless])
  refine ⟨fun hstep hn room => ?_, fun hstep hn room => ?_⟩
  · have one : countsUp (a.axis axis).phaseA (a.axis axis).phaseB pa pb = true
        ∧ ¬ ((a.axis axis).phaseA = pa ∧ (a.axis axis).phaseB = pb) ∧ ¬ ((a.axis axis).phaseA ≠ pa ∧ (a.axis axis).phaseB ≠ pb) := by
      revert hstep
      cases (a.axis axis).phaseA <;> cases (a.axis axis).phaseB <;> cases pa <;> cases pb <;> decide
    refine counted true one.1 one.2 ?_
    unfold Axis.counted
    rw [hn, if_pos rfl]
    split
    · rw [if_neg (by omega)]
    · rcases room with h | h
      · rw [if_neg (by simp [h]), if_pos (by omega)]
      · omega
  · have one : countsUp (a.axis axis).phaseA (a.axis axis).phaseB pa pb = false
        ∧ ¬ ((a.axis axis).phaseA = pa ∧ (a.axis axis).phaseB = pb) ∧ ¬ ((a.axis axis).phaseA ≠ pa ∧ (a.axis axis).phaseB ≠ pb) := by
      revert hstep
      cases (a.axis axis).phaseA <;> cases (a.axis axis).phaseB <;> cases pa <;> cases pb <;> decide
    refine counted false one.1 one.2 ?_
    unfold Axis.counted
    rw [hn, if_neg (by simp)]
    split
    · rw [if_neg (by omega)]
    · rcases room with h | h
      · rw [if_neg (by simp [h]), if_pos (by omega)]
      · omega

/-! ## DRIVING (R46, R47, R49) -/

/-- The walk ends at the highest step, not above the present one, whose threshold the distance reaches. -/
theorem walkDown_eq {c : AxisConfig} {d k : Nat} : ∀ {step : Nat}, k ≤ step → (k = 0 ∨ stepValue c.threshold k ≤ d) →
    (∀ m, k < m → m ≤ step → d < stepValue c.threshold m) → walkDown c d step = k
  | 0, hk, _, _ => (Nat.le_zero.mp hk).symm
  | n + 1, hk, reached, above => by
    unfold walkDown
    by_cases he : k = n + 1
    · rw [if_neg, he]
      rcases reached with h | h
      · omega
      · rw [← he]
        omega
    · rw [if_pos (above (n + 1) (by omega) le_rfl)]
      exact walkDown_eq (by omega) reached fun m hm hn => above m hm (by omega)

/-- Settles O18. -/
theorem drivingSlowsAndStops : Obligations.DrivingSlowsAndStops := by
  intro now axis pb c x target n k s a ha hp hc hx driving htarget _ low high driven _ changed hn hk reached above
  subst hx
  have walked : walkDown (Config.axis c axis) (dist target n) (a.axis axis).step = k := walkDown_eq hk reached above
  generalize hz : ({ a.axis axis with
    count := n, phaseB := pb, quietSince := a.clock, step := k
    nextDuty := if k = (a.axis axis).step then (a.axis axis).nextDuty else some (stepValue (Config.axis c axis).duty k)
    stall := some (a.clock + 1000 * stepValue (Config.axis c axis).stall k) } : Axis) = z
  have checked : sample axis (a.axis axis).phaseA pb a = a.onAxis axis fun _ => Axis.stopIn c.window a.clock z := by
    rw [sample_phaseB_inside changed low high hn rfl]
    unfold edgeChecks
    rw [if_neg Bool.false_ne_true]
    have cfg : (a.onAxis axis fun _ => { a.axis axis with count := n, phaseB := pb, quietSince := a.clock }).cfg = some c := by cases axis <;> exact hc
    have clock : (a.onAxis axis fun _ => { a.axis axis with count := n, phaseB := pb, quietSince := a.clock }).clock = a.clock := by cases axis <;> rfl
    have slowed : Axis.restall (Config.axis c axis) a.clock
        (Axis.slow (Config.axis c axis) { a.axis axis with count := n, phaseB := pb, quietSince := a.clock }) = z := by
      rw [← hz]
      unfold Axis.slow
      simp only [driving, htarget, walked]
      unfold Axis.restall
      by_cases he : k = (a.axis axis).step
      · rw [if_pos he, if_neg (by exact Nat.ne_of_gt driven), if_pos he, msec_eq, ← he]
      · rw [if_neg he, if_neg (by exact Nat.ne_of_gt driven), if_neg he, msec_eq]
    simp only [cfg, clock, onAxis_onAxis, slowed, Bool.false_and, Bool.false_eq_true, if_false]
    rw [State.axis_onCrane_onAxis, if_neg (by rw [← hz]; simp [Axis.overshot, driving])]
  refine ⟨fun out => ?_, fun creep inside => ?_⟩
  all_goals refine (whenOn_at ha hp).trans (congrArg _ (checked.trans (onAxis_congr ?_)))
  · unfold Axis.stopIn
    rw [← hz]
    simp only [driving, htarget]
    refine if_neg fun ⟨h0, hi⟩ => ?_
    rcases out with h | h <;> omega
  · unfold Axis.stopIn
    rw [← hz]
    simp only [driving, htarget]
    rw [if_pos ⟨creep, inside⟩, creep]

/-! ## Motion faults (R52) -/

/-- A severe fault raised in RUN or HOMING over a station whose crane alone has changed, its counts kept. -/
theorem faulted_over {a t : State} {f : FaultName} {k : Crane} (severe : f.severe = true) (station : a.station = .run ∨ a.station = .homing)
    (still : CraneHeld a) (ht : t = { a with crane := k, sensors := t.sensors }) (mode : k.mode ≠ .stopped) (held : k.held = none)
    (counts : k.travel.count = a.crane.travel.count ∧ k.lift.count = a.crane.lift.count) :
    InFaulted f (settle (raise f t)) ∧ KeptByFault a (settle (raise f t)) := by
  have station' : t.station = .run ∨ t.station = .homing := by rw [ht]; exact station
  have calm : t.fire.state = .calm := by rw [ht]; exact still.calm station
  obtain ⟨inf, kept⟩ := raise_settled severe station' (by rw [ht]; exact mode) (by rw [ht]; exact held) calm
  refine ⟨inf, ?_⟩
  rw [ht] at kept ⊢
  exact ⟨kept.travel.trans counts.1, kept.lift.trans counts.2, kept.front, kept.fire, kept.config, kept.key, kept.clock, kept.receiver, kept.pending⟩

/-- In RUN and HOMING no clearing move is under way. -/
theorem CraneHeld.unclearing {s : State} (h : CraneHeld s) (station : s.station = .run ∨ s.station = .homing) : s.crane.mode ≠ .clearing := by
  intro hm
  have := (h.clears hm).1
  rw [h.calm station] at this
  cases this

/-- With the crane not stopped an axis may be as it will. -/
theorem CraneHeld.onAxis {s : State} (h : CraneHeld s) {axis : AxisName} {f : Axis → Axis} (mode : s.crane.mode ≠ .stopped) :
    CraneHeld (s.onAxis axis f) := by
  cases axis <;> exact ⟨h.fire, h.stopped, fun hm => absurd hm mode, h.homing, h.homes, h.clearing, h.clears⟩

/-- The motion ended by a fault leaves a crane not stopped before unstopped, its counts and held step as they stand. -/
theorem endMotion_crane {s : State} (mode : s.crane.mode ≠ .stopped) (clearing : s.crane.mode ≠ .clearing) :
    ∃ k, endMotion s = { s with crane := k } ∧ k.mode ≠ .stopped ∧ k.held = s.crane.held
      ∧ k.travel = s.crane.travel ∧ k.lift = s.crane.lift ∧ k.carry = s.crane.carry := by
  refine ⟨_, rfl, ?_⟩
  dsimp only
  split
  · exact ⟨(nomatch ·), rfl, rfl, rfl, rfl⟩
  · contradiction
  · split
    · exact ⟨(nomatch ·), rfl, rfl, rfl, rfl⟩
    · exact ⟨mode, rfl, rfl, rfl, rfl⟩
  · split <;> exact ⟨mode, rfl, rfl, rfl, rfl⟩
  · exact ⟨mode, rfl, rfl, rfl, rfl⟩
  · exact ⟨mode, rfl, rfl, rfl, rfl⟩
  · contradiction

/-- A severe fault that ends the motion of a crane whose axes, fork or carry alone have changed. -/
theorem motion_faulted {a t : State} {f : FaultName} {k : Crane} (severe : f.severe = true) (station : a.station = .run ∨ a.station = .homing)
    (still : CraneHeld a) (ht : t = { a with crane := k, sensors := t.sensors }) (mode : a.crane.mode ≠ .stopped) (kmode : k.mode = a.crane.mode)
    (held : k.held = none) (counts : k.travel.count = a.crane.travel.count ∧ k.lift.count = a.crane.lift.count) :
    InFaulted f (settle (raise f (endMotion t))) ∧ KeptByFault a (settle (raise f (endMotion t))) := by
  have tmode : t.crane.mode = a.crane.mode := by rw [ht]; exact kmode
  obtain ⟨m, hm, mmode, mheld, travel, lift, _⟩ := endMotion_crane (s := t) (by rw [tmode]; exact mode) (by rw [tmode]; exact still.unclearing station)
  have eq : endMotion t = { a with crane := m, sensors := (endMotion t).sensors } := by
    rw [hm]
    conv_lhs => rw [ht]
  refine faulted_over severe station still eq mmode ?_ ⟨?_, ?_⟩
  · rw [mheld, ht]
    exact held
  · rw [travel, ht]
    exact counts.1
  · rw [lift, ht]
    exact counts.2

/-- ENCODER, LIMIT, STALL, OVERSPEED or POSITION raised by an axis. -/
theorem axisFault_faulted {a t : State} {f : FaultName} {axis : AxisName} {k : Crane} (severe : f.severe = true)
    (station : a.station = .run ∨ a.station = .homing) (still : CraneHeld a) (ht : t = { a with crane := k, sensors := t.sensors })
    (mode : a.crane.mode ≠ .stopped) (kmode : k.mode = a.crane.mode) (held : k.held = none)
    (counts : k.travel.count = a.crane.travel.count ∧ k.lift.count = a.crane.lift.count) :
    InFaulted f (settle (axisFault f axis t)) ∧ KeptByFault a (settle (axisFault f axis t)) := by
  unfold axisFault
  split
  · have halted : t.onAxis axis (Axis.halt t.clock) = { a with
        crane := k.onAxis axis (Axis.halt t.clock), sensors := (t.onAxis axis (Axis.halt t.clock)).sensors } := by
      rw [ht]
      rfl
    refine motion_faulted severe station still halted mode ?_ ?_ ?_
    all_goals cases axis
    · exact kmode
    · exact kmode
    · exact held
    · exact held
    · exact counts
    · exact counts
  · exact faulted_over severe station still ht (by rw [kmode]; exact mode) held counts

/-! ## SETTLING (R47, R48) -/

/-- Driven at creep toward its target. -/
theorem creepOn_driven {c : Config} {axis : AxisName} {f : Axis → Axis} {target : Nat} {s : State} (hc : s.cfg = some c)
    (htarget : (s.axis axis).target = some target) (free : s.axisHeld axis = false) (ready : s.sensors.drdy = true) :
    creepOn axis f s = s.onAxis axis fun _ => f { s.axis axis with
      move := .driving, step := 0, duty := (Config.axis c axis).duty.s0, nextDuty := none, brake := false
      outDir := (if (s.axis axis).count ≤ target then .up else .down), dir := some (if (s.axis axis).count ≤ target then .up else .down)
      stall := some (s.clock + 1000 * (Config.axis c axis).stall.s0) } := by
  unfold creepOn
  simp only [hc]
  rw [if_neg (by simp [free]), if_neg (by simp [ready])]
  refine onAxis_congr ?_
  simp only [htarget, Option.getD_some, Axis.drive, stepValue, toward, msec_eq]

/-- A drive from zero with DRDY inactive, or with the fork off centre, ends in its fault. -/
theorem creepOn_faulted {a b : State} {c : Config} {axis : AxisName} {f : Axis → Axis} {k : Crane} (hc : b.cfg = some c)
    (station : a.station = .run ∨ a.station = .homing) (still : CraneHeld a) (hb : b = { a with crane := k })
    (mode : a.crane.mode ≠ .stopped) (kmode : k.mode = a.crane.mode) (held : k.held = none)
    (counts : k.travel.count = a.crane.travel.count ∧ k.lift.count = a.crane.lift.count) :
    (b.axisHeld axis = false → b.sensors.drdy = false → InFaulted .drive (creepOn axis f b) ∧ KeptByFault a (creepOn axis f b))
    ∧ (axis = .travel → b.sensors.fkc = false → InFaulted .forkJam (creepOn axis f b) ∧ KeptByFault a (creepOn axis f b)) := by
  refine ⟨fun free unready => ?_, fun travel off => ?_⟩
  · have drive : creepOn axis f b = settle (driveFault b) := by
      unfold creepOn
      simp only [hc]
      rw [if_neg (by simp [free]), if_pos (by simp [unready])]
    rw [drive]
    unfold driveFault
    exact motion_faulted (k := k.onBoth (Axis.halt b.clock)) rfl station still (by rw [hb]; rfl) mode kmode held counts
  · have outputs : b.outputsHeld = false := by
      have calm := still.calm station
      rw [hb]
      rcases station with h | h <;> simp [State.outputsHeld, h, calm]
    have jam : creepOn axis f b = settle (forkFault .forkJam (b.onAxis axis (Axis.halt b.clock))) := by
      unfold creepOn
      simp only [hc]
      rw [if_pos (by rw [travel]; simp [State.axisHeld, off])]
      unfold driveHeld
      dsimp only
      rw [if_neg (by simp [outputs])]
    rw [jam, travel]
    unfold forkFault
    exact motion_faulted (k := { k with travel := k.travel.halt b.clock, fork := none, forkTimer := none }) rfl station still (by rw [hb]; rfl) mode kmode
      held counts

/-- Settles O19. -/
theorem reversalsEndInPosition : Obligations.ReversalsEndInPosition := by
  intro now axis pb c x y target n d past s a b ha hp hc hx settling htarget hdir undriven low high changed hn hpast hy hb
  subst hx
  have ymove : y.move = .settling := by rw [hy]; exact settling
  have ytarget : y.target = some target := by rw [hy]; exact htarget
  have ydir : y.dir = some d := by rw [hy]; exact hdir
  have ycount : y.count = n := by rw [hy]
  have yduty : y.duty = 0 := by rw [hy]; exact undriven
  have baxis : b.axis axis = y := by rw [hb, State.axis_onCrane_onAxis]
  have bcfg : b.cfg = some c := by rw [hb]; cases axis <;> exact hc
  have bclock : b.clock = a.clock := by rw [hb]; cases axis <;> rfl
  have bsensors : b.sensors = a.sensors := by rw [hb]; cases axis <;> rfl
  have beyond : y.overshot c.window = true ↔ past := by
    rw [hpast]
    unfold Axis.overshot
    rw [ymove, ytarget, ydir, ycount]
    cases d <;> simp
  have checked : sample axis (a.axis axis).phaseA pb a = if y.overshot c.window then reverse axis b else b := by
    rw [sample_phaseB_inside changed low high hn hy, ← hb]
    unfold edgeChecks
    rw [if_neg Bool.false_ne_true]
    have slowed : b.onAxis axis (fun x => (x.slow (Config.axis c axis)).restall (Config.axis c axis) b.clock) = b := by
      refine onAxis_same ?_
      rw [baxis]
      simp [Axis.slow, ymove, Axis.restall, yduty]
    have settled : b.onAxis axis (Axis.stopIn c.window b.clock) = b := by
      refine onAxis_same ?_
      rw [baxis]
      simp [Axis.stopIn, ymove]
    simp only [bcfg, slowed, settled, baxis, Bool.false_and, Bool.false_eq_true, if_false]
  have reversed (few : (a.axis axis).reversals < 2) (h : past) : sample axis (a.axis axis).phaseA pb a =
      creepOn axis (fun x => { x with reversals := x.reversals + 1, firstMark := true }) b := by
    rw [checked, if_pos (beyond.mpr h)]
    unfold reverse
    rw [baxis, if_neg (by rw [hy]; exact Nat.not_le.mpr few)]
  refine ⟨fun inside => ?_, fun h few free ready => ?_, fun h station still mode held => ⟨fun third => ?_, fun few free unready => ?_, fun few travel off => ?_⟩⟩
  · exact (whenOn_at ha hp).trans (congrArg _ (checked.trans (if_neg fun h => inside (beyond.mp h))))
  · refine (whenOn_at ha hp).trans (congrArg _ ((reversed few h).trans ?_))
    have free' : b.axisHeld axis = false := by rw [hb]; cases axis <;> exact free
    rw [creepOn_driven bcfg (by rw [baxis]; exact ytarget) free' (by rw [bsensors]; exact ready), baxis, ycount, bclock, hb, onAxis_onAxis, hy]
  all_goals
    refine ⟨_, whenOn_at ha hp, ?_⟩
    have station' : b.station = .run ∨ b.station = .homing := by rw [hb]; cases axis <;> exact station
    have held' : b.crane.held = none := by rw [hb]; cases axis <;> exact held
    have mode' : b.crane.mode ≠ .stopped := by rw [hb]; cases axis <;> exact mode
    have still' : CraneHeld b := by rw [hb]; exact still.onAxis mode
  · have third' : sample axis (a.axis axis).phaseA pb a = settle (axisFault .position axis b) := by
      rw [checked, if_pos (beyond.mpr h)]
      unfold reverse
      rw [baxis, if_pos (by rw [hy]; exact third)]
    rw [third']
    exact axisFault_faulted rfl station' still' (k := b.crane) rfl mode' rfl held' ⟨rfl, rfl⟩
  · rw [reversed few h]
    have free' : b.axisHeld axis = false := by rw [hb]; cases axis <;> exact free
    exact (creepOn_faulted bcfg station' still' (k := b.crane) rfl mode' rfl held' ⟨rfl, rfl⟩).1 free' (by rw [bsensors]; exact unready)
  · rw [reversed few h]
    exact (creepOn_faulted bcfg station' still' (k := b.crane) rfl mode' rfl held' ⟨rfl, rfl⟩).2 travel (by rw [bsensors]; exact off)

end Sys2Proof.Machine
end

section
/-! SUPPORT. Rest, duty periods, the faults the crane raises, and homing (R43, R47 to R57, R63). -/

namespace Sys2Proof.Machine

set_option Elab.async false

open Sys2Proof

/-! ## Rest and duty periods (R46, R47, R64) -/

/-- At rest for 20 ms a settling move completes or drives again; an axis with no move goes on with homing. -/
theorem rest_settling {c : Config} {axis : AxisName} {s : State} (hc : s.cfg = some c) (settling : (s.axis axis).move = .settling)
    (undriven : (s.axis axis).duty = 0) (due : (s.axis axis).quietSince + 20000 ≤ s.clock) : rest axis s = moveRests c axis s := by
  unfold rest
  simp only [hc]
  have run : (s.axis axis).quietSince + msec 20 ≤ s.clock := by rw [msec_eq]; exact due
  rw [if_pos (by simp [Axis.atRest, undriven, run]), settling]

theorem rest_idle {c : Config} {axis : AxisName} {s : State} (hc : s.cfg = some c) (idle : (s.axis axis).move = .none)
    (undriven : (s.axis axis).duty = 0) (due : (s.axis axis).quietSince + 20000 ≤ s.clock) : rest axis s = homingRests axis s := by
  unfold rest
  simp only [hc]
  have run : (s.axis axis).quietSince + msec 20 ≤ s.clock := by rw [msec_eq]; exact due
  rw [if_pos (by simp [Axis.atRest, undriven, run]), idle]

/-- Inside the window a move at rest completes. -/
theorem moveRests_inside {c : Config} {axis : AxisName} {target : Nat} {s : State} (htarget : (s.axis axis).target = some target)
    (inside : dist target (s.axis axis).count ≤ c.window) : moveRests c axis s =
      settle (s.onAxis axis fun _ => { s.axis axis with move := .none, target := none, dir := none }) := by
  unfold moveRests
  rw [if_pos (by rw [htarget]; exact inside)]
  exact congrArg settle (onAxis_congr rfl)

theorem moveRests_outside {c : Config} {axis : AxisName} {target : Nat} {s : State} (htarget : (s.axis axis).target = some target)
    (outside : c.window < dist target (s.axis axis).count) : moveRests c axis s = creepOn axis id s := by
  unfold moveRests
  exact if_neg (by rw [htarget]; exact Nat.not_le.mpr outside)

/-- Settles O20. -/
theorem restAndDutyPeriods : Obligations.RestAndDutyPeriods := by
  intro now axis c x target s a ha hp hc hx
  subst hx
  refine ⟨fun settling htarget undriven => ⟨fun early => ?_, fun due inside t ht stays => ?_, fun due outside free ready => ?_,
    fun due outside travel off station still mode held => ?_⟩, fun none => ?_, fun d driven next => ?_, fun next t ht stays => ?_⟩
  · refine (whenOn_at ha hp).trans (congrArg _ ?_)
    unfold rest
    simp only [hc]
    refine if_neg fun h => ?_
    simp only [Axis.atRest, Bool.and_eq_true, decide_eq_true_eq, msec_eq] at h
    omega
  · refine (whenOn_at ha hp).trans (congrArg _ ?_)
    rw [rest_settling hc settling undriven due, moveRests_inside htarget inside, ← ht]
    exact settle_of_none stays
  · refine (whenOn_at ha hp).trans (congrArg _ ?_)
    rw [rest_settling hc settling undriven due, moveRests_outside htarget outside, creepOn_driven hc htarget free ready]
    rfl
  · refine ⟨_, whenOn_at ha hp, ?_⟩
    rw [rest_settling hc settling undriven due, moveRests_outside htarget outside]
    exact (creepOn_faulted hc (.inl station) still (k := a.crane) rfl mode rfl held ⟨rfl, rfl⟩).2 travel off
  · refine (whenOn_at ha hp).trans (congrArg _ ?_)
    unfold dutyPeriod
    dsimp only
    rw [if_neg (by simp [none]), onAxis_same (by simp [Axis.newPeriod, none])]
  · refine (whenOn_at ha hp).trans (congrArg _ ?_)
    obtain ⟨k, rfl⟩ : ∃ k, d = k + 1 := ⟨d - 1, by omega⟩
    unfold dutyPeriod
    dsimp only
    rw [if_neg (by simp [next])]
    exact onAxis_congr (by simp [Axis.newPeriod, next])
  · refine (whenOn_at ha hp).trans (congrArg _ ?_)
    have period : a.onAxis axis (Axis.newPeriod a.clock) = t := by
      rw [ht]
      exact onAxis_congr (by simp [Axis.newPeriod, next])
    unfold dutyPeriod
    dsimp only
    rw [if_pos next, period]
    exact settle_of_none stays

/-! ## Faults of the crane -/

theorem due_of {s : State} {timer : Option Nat} {since : Nat} (h : timer = some since) (run : since ≤ s.clock) : s.due timer = true := by
  simp [State.due, h, run]

@[simp] theorem Crane.onAxis_mode (k : Crane) (ax : AxisName) (f : Axis → Axis) : (k.onAxis ax f).mode = k.mode := by cases ax <;> rfl
@[simp] theorem Crane.onAxis_held (k : Crane) (ax : AxisName) (f : Axis → Axis) : (k.onAxis ax f).held = k.held := by cases ax <;> rfl

theorem Crane.onAxis_counts {k : Crane} {ax : AxisName} {f : Axis → Axis} (h : (f (k.axis ax)).count = (k.axis ax).count) :
    (k.onAxis ax f).travel.count = k.travel.count ∧ (k.onAxis ax f).lift.count = k.lift.count := by
  cases ax
  · exact ⟨h, rfl⟩
  · exact ⟨rfl, h⟩

/-- The bin lost in a carry: the carry is over. -/
theorem carry_over {a t : State} {f : FaultName} {k : Crane} (severe : f.severe = true) (station : a.station = .run ∨ a.station = .homing)
    (still : CraneHeld a) (ht : t = { a with crane := k, sensors := t.sensors }) (mode : a.crane.mode ≠ .stopped) (kmode : k.mode = a.crane.mode)
    (held : k.held = none) (carry : k.carry = false) : (settle (raise f (endMotion t))).crane.carry = false := by
  have tmode : t.crane.mode = a.crane.mode := by rw [ht]; exact kmode
  obtain ⟨m, hm, mmode, mheld, _, _, mcarry⟩ := endMotion_crane (s := t) (by rw [tmode]; exact mode) (by rw [tmode]; exact still.unclearing station)
  have calm := still.calm station
  have faulted := raise_settled_crane (s := endMotion t) severe (by rw [hm, ht]; exact station) (by rw [hm]; exact mmode)
    (by rw [hm]; exact mheld.trans (by rw [ht]; exact held)) (by rw [hm, ht]; exact calm)
  rw [faulted.carry, hm]
  exact mcarry.trans (by rw [ht]; exact carry)

/-- A rising edge of phase A that ends too short a period: OVERSPEED (R50). -/
theorem sample_overspeed {axis : AxisName} {c : Config} {since : Nat} {s : State} (hc : s.cfg = some c) (idle : (s.axis axis).move = .none)
    (low : 0 < (s.axis axis).count) (high : (s.axis axis).count < 65535) (phase : (s.axis axis).phaseA = false)
    (rise : (s.axis axis).lastRise = some since) (driven : (s.axis axis).duty ≠ 0) (mark : (s.axis axis).firstMark = false)
    (short : s.clock - since < stepValue (Config.axis c axis).minPeriod (s.axis axis).step) (range : s.clock - since < 65536) :
    ∃ f, sample axis true (s.axis axis).phaseB s = settle (axisFault .overspeed axis (s.onAxis axis f)) := by
  rw [sample_edge (by simp [phase]) (by simp), counted_inside low high, phase]
  unfold edgeChecks
  rw [if_neg Bool.false_ne_true]
  have cfg : (s.onAxis axis (Axis.takeEdge s.clock true (s.axis axis).phaseB)).cfg = some c := by cases axis <;> exact hc
  have clock : (s.onAxis axis (Axis.takeEdge s.clock true (s.axis axis).phaseB)).clock = s.clock := by cases axis <;> rfl
  simp only [cfg, clock, onAxis_onAxis, State.axis_onCrane_onAxis, Bool.not_false, Bool.true_and, if_true]
  have slow : Axis.slow (Config.axis c axis) (Axis.takeEdge s.clock true (s.axis axis).phaseB (s.axis axis)) =
      Axis.takeEdge s.clock true (s.axis axis).phaseB (s.axis axis) := by simp [Axis.slow, Axis.takeEdge, idle]
  have fast : Axis.tooFast (Config.axis c axis) s.clock (Axis.restall (Config.axis c axis) s.clock
      (Axis.slow (Config.axis c axis) (Axis.takeEdge s.clock true (s.axis axis).phaseB (s.axis axis)))) = true := by
    rw [slow]
    have least : min (s.clock - since) 65535 = s.clock - since := by omega
    simp [Axis.tooFast, Axis.restall, Axis.takeEdge, driven, rise, mark, least, short]
  rw [fast, if_pos rfl]
  exact ⟨_, rfl⟩

/-- Settles O21. -/
theorem craneFaultsEnterFaulted : Obligations.CraneFaultsEnterFaulted := by
  intro now axis w pb c x s a ha hp station still mode held hx
  subst hx
  have both : (a.crane.onBoth (Axis.halt a.clock)).travel.count = a.crane.travel.count
      ∧ (a.crane.onBoth (Axis.halt a.clock)).lift.count = a.crane.lift.count := ⟨rfl, rfl⟩
  refine ⟨⟨_, whenOn_at ha hp, ?_⟩, ⟨_, whenOn_at (act := fun t => settle (axisFault .limit (limitAxis w) (t.setSensors (setLimit w t.sensors)))) ha hp, ?_⟩,
    fun driven => ⟨_, whenOn_at ha hp, ?_⟩, fun unextended => ⟨_, whenOn_at ha hp, ?_⟩,
    fun carries => ⟨_, whenOn_at ha hp, ?_⟩, fun since stall run driven => ⟨_, whenOn_at ha hp, ?_⟩, fun since forking timer run => ⟨_, whenOn_at ha hp, ?_⟩,
    fun since timer run => ⟨_, whenOn_at ha hp, ?_⟩, fun hc => ⟨fun homed leaves changed => ⟨_, whenOn_at ha hp, ?_⟩,
      fun since idle low high phase rise driven mark short range => ⟨_, whenOn_at ha hp, ?_⟩⟩⟩
  · exact axisFault_faulted rfl station still rfl mode (Crane.onAxis_mode _ _ _) ((Crane.onAxis_held _ _ _).trans held) (Crane.onAxis_counts rfl)
  · exact axisFault_faulted (k := a.crane) rfl station still rfl mode rfl held ⟨rfl, rfl⟩
  · have moving : (a.setSensors { a.sensors with drdy := false }).crane.still = false := by
      rcases driven with h | h <;> simp [Crane.still, h]
    unfold driveLost
    dsimp only
    rw [if_neg (by rw [moving]; exact Bool.false_ne_true)]
    exact motion_faulted rfl station still rfl mode rfl held both
  · have out : (a.setSensors { a.sensors with fkc := false }).crane.extending = false := by
      rcases unextended with h | h <;> simp [Crane.extending, h]
    unfold forkJammed
    dsimp only
    rw [if_neg (by rw [out]; exact Bool.false_ne_true)]
    exact motion_faulted rfl station still rfl mode rfl held ⟨rfl, rfl⟩
  · unfold loseBin
    dsimp only
    rw [if_pos (by exact carries)]
    refine and_assoc.mp ⟨motion_faulted rfl station still rfl mode rfl held both, ?_⟩
    exact carry_over (k := ({ a.crane with carry := false } : Crane).onBoth (Axis.halt a.clock)) rfl station still rfl mode rfl held rfl
  · unfold stallRunsOut
    rw [if_pos (by simp [due_of stall run, driven])]
    exact axisFault_faulted (k := a.crane) rfl station still rfl mode rfl held ⟨rfl, rfl⟩
  · unfold forkLate
    rw [if_pos (by simp [due_of timer run, Option.isSome_iff_ne_none.mpr forking])]
    exact motion_faulted rfl station still rfl mode rfl held ⟨rfl, rfl⟩
  · unfold homeLate
    rw [if_pos (due_of timer run)]
    exact motion_faulted rfl station still rfl mode rfl held both
  · have ends : (a.axis axis).counted ((a.axis axis).phaseA == pb) = ((a.axis axis).count, true) := by
      rcases leaves with ⟨hl, hb⟩ | ⟨hl, hb⟩ <;> simp [Axis.counted, hl, hb, homed]
    have limit : sample axis (a.axis axis).phaseA pb a =
        settle (axisFault .limit axis (a.onAxis axis (Axis.takeEdge a.clock (a.axis axis).phaseA pb))) := by
      rw [sample_phaseB changed, ends]
      rfl
    have up : countsUp (a.axis axis).phaseA (a.axis axis).phaseB (a.axis axis).phaseA pb = ((a.axis axis).phaseA == pb) := by
      unfold countsUp
      rw [if_neg (by simp)]
      cases pb <;> cases (a.axis axis).phaseA <;> rfl
    rw [limit]
    refine axisFault_faulted rfl station still rfl mode (Crane.onAxis_mode _ _ _) ((Crane.onAxis_held _ _ _).trans held) (Crane.onAxis_counts ?_)
    show ((a.axis axis).counted (countsUp (a.axis axis).phaseA (a.axis axis).phaseB (a.axis axis).phaseA pb)).1 = (a.axis axis).count
    rw [up, ends]
  · obtain ⟨f, hf⟩ := sample_overspeed hc idle low high phase rise driven mark short range
    rw [hf]
    have mode' : (a.onAxis axis f).crane.mode ≠ .stopped := by cases axis <;> exact mode
    exact (axisFault_faulted (a := a.onAxis axis f) (k := (a.onAxis axis f).crane) rfl (by cases axis <;> exact station) (still.onAxis mode) rfl mode' rfl
      (by cases axis <;> exact held) ⟨rfl, rfl⟩).1

/-! ## Homing (R56, R57, R183) -/

/-- Settles O25. -/
theorem homeSwitchIsFollowed : Obligations.HomeSwitchIsFollowed := by
  intro now axis c x s a ha hp hc hx driven
  subst hx
  have halted (y : Axis) (h : y.duty ≠ 0) : y.halt a.clock = { y with
      move := .none, target := none, dir := none, stall := none, duty := 0, nextDuty := none, brake := true, quietSince := a.clock } := by
    unfold Axis.halt
    rw [if_neg h]
  refine ⟨fun toward => ?_, fun elsewhere => ?_, fun away => ?_, fun elsewhere => ?_⟩
  all_goals refine (whenOn_at ha hp).trans (congrArg _ ?_)
  · unfold homeEdge
    simp only [show (a.setSensors (setHome axis true a.sensors)).cfg = some c from hc]
    rw [if_pos (by exact toward)]
    refine (congrArg (setHoming (.towardRest axis)) (onAxis_congr (g := fun _ => { a.axis axis with
      move := .none, target := none, dir := none, stall := none, duty := 0, nextDuty := none, brake := true
      quietSince := a.clock, count := (Config.axis c axis).home, homed := true }) ?_)).trans ?_
    · show ({ (a.axis axis).halt a.clock with count := (Config.axis c axis).home, homed := true } : Axis) = _
      rw [halted _ driven]
    · cases axis <;> rfl
  · unfold homeEdge
    simp only [show (a.setSensors (setHome axis true a.sensors)).cfg = some c from hc]
    exact if_neg elsewhere
  · unfold homeReleased
    dsimp only
    rw [if_pos (by exact away)]
    refine (congrArg (setHoming (.awayRest axis)) (onAxis_congr (g := fun _ => { a.axis axis with
      move := .none, target := none, dir := none, stall := none, duty := 0, nextDuty := none, brake := true
      quietSince := a.clock }) ?_)).trans ?_
    · exact halted _ driven
    · cases axis <;> rfl
  · exact if_neg elsewhere

/-- A homing drive at creep. -/
theorem homingDrive_driven {c : Config} {ax : AxisName} {dir : Dir} {p : HomingPhase} {s : State} (hc : s.cfg = some c)
    (free : s.axisHeld ax = false) (ready : s.sensors.drdy = true) : homingDrive ax dir p s = setHoming p (s.onAxis ax fun _ => { s.axis ax with
      move := .none, target := none, dir := none, step := 0, duty := (Config.axis c ax).duty.s0, outDir := dir, nextDuty := none
      brake := false, stall := some (s.clock + 1000 * (Config.axis c ax).stall.s0), firstMark := true }) := by
  unfold homingDrive
  simp only [hc]
  rw [if_neg (by simp [free]), if_neg (by simp [ready])]
  refine congrArg (setHoming p) (onAxis_congr ?_)
  simp only [Axis.drive, stepValue, msec_eq]

/-- A station driving in HOMING, nothing to write, waits. -/
theorem atRest_homing {s : State} {p : HomingPhase} (station : s.station = .homing) (calm : s.fire.state = .calm) (mode : s.crane.mode = .homing)
    (homing : s.crane.homing = some p) (front : p ≠ .front) (held : s.crane.held = none) (step : s.crane.step = none)
    (clearing : s.crane.clearing = none) (owed : s.dir.firstOwed = none) (writes : s.dir.writeList = [] ∨ s.dir.port ≠ .idle) : AtRest s := by
  refine (OnlyWrites.of_idle_station held step ?_ ?_ clearing calm ?_).atRest owed writes
  · rw [mode]
    exact ⟨(nomatch ·), (nomatch ·)⟩
  · rw [homing]
    exact fun h => front (Option.some.inj h)
  · rw [station]
    exact (nomatch ·)

/-- With the moves to the front done homing is complete and RUN is entered (R57, R183). -/
theorem progress_homedAtFront {s : State} (calm : s.fire.state = .calm) (mode : s.crane.mode = .homing) (homing : s.crane.homing = some .front)
    (held : s.crane.held = none) (step : s.crane.step = none) (clearing : s.crane.clearing = none) (owed : s.dir.firstOwed = none)
    (writes : s.dir.writeList = [] ∨ s.dir.port ≠ .idle) (moves : s.crane.movesDone = true) (record : s.faults.suspension = none) :
    progress s = some { s with station := .run, crane := { s.crane with mode := .idle, homing := none, homeTimer := none } } := by
  have unmarked : { s.faults with suspension := s.faults.suspension.map (fun r => { r with homed := true }) } = s.faults := by
    conv_rhs => rw [show s.faults = { s.faults with suspension := s.faults.suspension } from rfl]
    rw [record]
    rfl
  have homed : homedAtFront s = some { s with station := .run, crane := { s.crane with mode := .idle, homing := none, homeTimer := none } } := by
    unfold homedAtFront
    rw [if_pos ⟨homing, moves⟩]
    refine congrArg some ?_
    unfold enterRun serve
    simp only [State.onCrane, State.onFaults, State.setStation, record, Option.map_none]
    split
    · contradiction
    · have := unmarked
      rw [record, Option.map_none] at this
      rw [this]
  unfold progress
  simp [finishHeld_none held, fillOwed_none owed, beginWrite_none writes, stepProgress_none step,
    craneRests_none (s := s) (by rw [mode]; exact ⟨(nomatch ·), (nomatch ·)⟩), haltingReport, calm, clearProgress_none clearing, homed]

/-- Settles O26. -/
theorem homingRunsToService : Obligations.HomingRunsToService := by
  intro now axis c x y z s a t u ha hp hc hx undriven due held owed writes step clearing mode station calm ready centred
  subst hx
  have outputs : a.outputsHeld = false := by simp [State.outputsHeld, calm, station]
  have free (ax : AxisName) : a.axisHeld ax = false := by simp [State.axisHeld, outputs, centred]
  refine ⟨fun ac goal dir idle hy => ⟨fun homing hac hgoal hdir => ?_, fun homing lift hac hgoal hdir => ?_⟩,
    fun idle homing hax homedT homedL liftIdle travel lift settles => ?_, fun target settling htarget inside homing others record ht settles => ?_⟩
  · refine (whenOn_at ha hp).trans (congrArg _ ((rest_idle hc idle undriven due).trans ?_))
    subst hac hgoal hdir
    unfold homingRests
    rw [if_pos homing, homingDrive_driven hc (free ac) ready, ← hy]
    refine (settle_atRest (atRest_homing (p := .toward ac) (by cases ac <;> exact station) (by cases ac <;> exact calm) (by cases ac <;> exact mode)
      (by cases ac <;> rfl) (nomatch ·) (by cases ac <;> exact held) (by cases ac <;> exact step) (by cases ac <;> exact clearing)
      (by cases ac <;> exact owed) (by cases ac <;> exact writes))).trans ?_
    cases ac <;> rfl
  · refine (whenOn_at ha hp).trans (congrArg _ ((rest_idle hc idle undriven due).trans ?_))
    subst lift hac hgoal hdir
    unfold homingRests
    rw [if_neg (by rw [homing]; exact (nomatch ·)), if_pos homing]
    dsimp only
    unfold beginAxisHoming
    have drives (d : Dir) (p : HomingPhase) (front : p ≠ .front) (hd : (if a.sensors.ths = true then Dir.up else Dir.down) = d) :
        settle (homingDrive .travel d p a) = { a with crane := { a.crane with travel := y, homing := some p } } := by
      rw [homingDrive_driven hc (free .travel) ready]
      rw [hd] at hy
      rw [show (a.onAxis .travel fun _ => { a.axis .travel with
        move := .none, target := none, dir := none, step := 0, duty := (Config.axis c .travel).duty.s0, outDir := d, nextDuty := none
        brake := false, stall := some (a.clock + 1000 * (Config.axis c .travel).stall.s0), firstMark := true }) = a.onAxis .travel fun _ => y from by
          rw [hy]
          rfl]
      exact settle_atRest (atRest_homing (p := p) station calm mode rfl front held step clearing owed writes)
    cases switch : a.sensors.ths
    · rw [if_neg (by simp [homeSwitch, switch]), if_neg Bool.false_ne_true]
      exact drives .down (.toward .travel) (nomatch ·) (by rw [switch]; rfl)
    · rw [if_pos (by simp [homeSwitch, switch]), if_pos rfl]
      exact drives .up (.away .travel) (nomatch ·) (by rw [switch]; rfl)
  · refine (whenOn_at ha hp).trans (congrArg _ ((rest_idle hc idle undriven due).trans ?_))
    subst hax
    unfold homingRests
    rw [if_neg (by rw [homing]; exact (nomatch ·)), if_pos homing]
    have begun : homingFront a = { a with crane := { a.crane with homing := some .front, travel := y, lift := z } } := by
      unfold homingFront
      simp only [hc]
      unfold requestBoth
      rw [requestMove_begins (s := setHoming .front a) (ax := .travel) (by exact hc) (by exact idle) (by exact homedT) (by exact free .travel)
        (by exact centred) (by exact ready) (by exact travel)]
      dsimp only
      rw [requestMove_begins (s := (setHoming .front a).onAxis .travel fun _ => y) (ax := .lift) (by exact hc) (by exact liftIdle) (by exact homedL)
        (by exact free .lift) (by exact centred) (by exact ready) (by exact lift)]
      rfl
    rw [begun]
    exact settles.settle_eq
  · refine (whenOn_at ha hp).trans (congrArg _ ?_)
    rw [rest_settling hc settling undriven due, moveRests_inside htarget inside]
    have moves : (a.onAxis axis fun _ => { a.axis axis with move := .none, target := none, dir := none }).crane.movesDone = true := by
      cases axis
      · obtain ⟨hm, hd⟩ := others .lift (nomatch ·)
        have hm' : a.crane.lift.move = .none := hm
        have hd' : a.crane.lift.duty = 0 := hd
        have hx : (a.axis .travel).duty = 0 := undriven
        simp [State.onAxis, State.onCrane, Crane.onAxis, Crane.movesDone, Crane.still, hx, hm', hd']
      · obtain ⟨hm, hd⟩ := others .travel (nomatch ·)
        have hm' : a.crane.travel.move = .none := hm
        have hd' : a.crane.travel.duty = 0 := hd
        have hx : (a.axis .lift).duty = 0 := undriven
        simp [State.onAxis, State.onCrane, Crane.onAxis, Crane.movesDone, Crane.still, hx, hm', hd']
    have done := progress_homedAtFront (s := a.onAxis axis fun _ => { a.axis axis with move := .none, target := none, dir := none }) (by cases axis <;> exact calm)
      (by cases axis <;> exact mode) (by cases axis <;> exact homing) (by cases axis <;> exact held) (by cases axis <;> exact step)
      (by cases axis <;> exact clearing) (by cases axis <;> exact owed) (by cases axis <;> exact writes) moves (by cases axis <;> exact record)
    refine settles.settle_of_progress (done.trans (congrArg some ?_))
    rw [ht]
    cases axis <;> rfl

end Sys2Proof.Machine
end

section
/-! SUPPORT. The fire unit's inputs, its shutter and the BEACON timer (R140 to R143, R151 to R155, R173 to R175). -/

namespace Sys2Proof.Machine

set_option Elab.async false

open Sys2Proof

theorem not_due_of {s : State} {timer : Option Nat} {since : Nat} (h : timer = some since) (early : s.clock < since) :
    s.due timer = false := by
  simp [State.due, h, early]

/-! ## The own ALARM (R142) -/

/-- With no ALARM waiting and the reserved entry empty, an ALARM takes it. -/
theorem sendAlarm_reserved {zone : Nat} {s : State} (free : s.line.reserved = none) (alone : ∀ e ∈ s.line.general, e.isAlarm = false) :
    sendAlarm zone s = s.onLine (fun l =>
      { l with reserved := some (newEntry l.nextOrder (.alarm zone) .all none), nextOrder := l.nextOrder + 1 }) := by
  have waiting : s.line.general.any (fun e => e.isAlarm && s.line.waits e) = false :=
    List.any_eq_false.mpr fun e he => by simp [alone e he]
  unfold sendAlarm
  simp only [free]
  rw [if_neg (by simp), if_neg (by simp [waiting]), if_pos (by rfl)]

/-- An ALARM that waits in the reserved entry is replaced there. -/
theorem sendAlarm_replaces {zone : Nat} {e : TxEntry} {s : State} (held : s.line.reserved = some e) (alarm : e.isAlarm = true)
    (waiting : s.line.attempt = none) :
    sendAlarm zone s = s.onLine (fun l => { l with reserved := some (TxEntry.replacedBy (.alarm zone) 0 e) }) := by
  have waits : (e.isAlarm && s.line.waits e) = true := by simp [alarm, LineUnit.waits, LineUnit.underAttempt, waiting]
  unfold sendAlarm
  simp only [held, Option.map_some, Option.getD_some, waits, if_true]
  simp [State.onLine, held]

theorem relay_eq {c : Config} {s : State} (hc : s.cfg = some c) :
    relay s = sendAlarm c.zone (s.onFire (fun f => { f with alarmTimer := some (s.inMs 1000) })) := by
  unfold relay
  have : (s.onFire (fun f => { f with alarmTimer := some (s.inMs 1000) })).cfg = some c := hc
  simp only [this]

/-- FIN taken: due, with the own ALARM queued in the empty reserved entry, it triggers. -/
theorem finBecomesActive_due {c : Config} {s : State} (hc : s.cfg = some c) (due : s.finDue = true)
    (free : s.line.reserved = none) (alone : ∀ e ∈ s.line.general, e.isAlarm = false) :
    finBecomesActive s = trigger { s with
      fire := { s.fire with filtered := true, finLast := s.clock, alarmTimer := some (s.clock + 1000000) }
      line := { s.line with
        reserved := some (newEntry s.line.nextOrder (.alarm c.zone) .all none), nextOrder := s.line.nextOrder + 1 } } := by
  unfold finBecomesActive
  rw [if_pos due, relay_eq (c := c) (by exact hc), sendAlarm_reserved (by exact free) (by exact alone)]
  rfl

theorem finDue_of {s : State} {t0 : Nat} (fin : s.fire.fin = true) (fresh : s.fire.filtered = false) (run : s.fire.finRun = some t0)
    (passed : t0 + 100000 ≤ s.clock) : s.finDue = true := by
  simp [State.finDue, fin, fresh, run, msec_eq, passed]

/-! ## Fire frames (R143, R154) -/

theorem handFire_eq {c : Config} {f : RxFrame} {s : State} (hc : s.cfg = some c) (locked : s.line.mode = .locked)
    (ok : frameOk c.carriers f = true) (handle : Config → State → State) : handFire f handle s = handle c s := by
  unfold handFire
  simp only [hc]
  rw [if_pos ⟨locked, ok⟩]

end Sys2Proof.Machine

namespace Sys2Proof.Machine

set_option Elab.async false

open Sys2Proof

/-- Settles O42. -/
theorem finAndAllClearAreTaken : Obligations.FinAndAllClearAreTaken := by
  unfold Obligations.FinAndAllClearAreTaken
  intro now c s a ha hp hc
  refine ⟨(whenOn_at ha hp).trans ?_, whenOn_at ha hp, ?_, ?_, ?_, ?_⟩
  · have run : (a.fire.fin && a.fire.finRun.isSome) = decide (a.fire.fin = true ∧ a.fire.finRun ≠ none) := by
      cases a.fire.fin <;> cases a.fire.finRun <;> rfl
    refine congrArg _ ?_
    unfold finRead State.onFire
    simp only [run, decide_eq_true_eq]
  · intro idle
    refine (whenOn_at ha hp).trans (congrArg _ ?_)
    have : a.finDue = false := by
      rcases idle with h | h | h | ⟨t0, h, early⟩
      · simp [State.finDue, h]
      · simp [State.finDue, h]
      · simp [State.finDue, h]
      · simp [State.finDue, h, msec_eq, early]
    unfold finBecomesActive
    rw [if_neg (by simp [this])]
  · intro t0 fin fresh run passed shut free alone
    refine (whenOn_at ha hp).trans (congrArg _ ?_)
    rw [finBecomesActive_due hc (finDue_of fin fresh run passed) free alone]
    unfold trigger
    rcases shut with h | h | h <;> simp only [h] <;> rfl
  · intro t0 e timer
    refine ⟨fun early => (whenOn_at ha hp).trans (congrArg _ ?_), fun late held alarm waiting => (whenOn_at ha hp).trans (congrArg _ ?_)⟩
    · unfold alarmRepeat
      rw [if_neg (by simp [not_due_of timer early])]
    · unfold alarmRepeat
      rw [if_pos (due_of timer late), relay_eq hc, sendAlarm_replaces (by exact held) alarm (by exact waiting)]
      rfl
  · intro src mask locked ok
    refine ⟨fun other => (whenOn_at ha hp).trans (congrArg _ ?_), fun panel out => (whenOn_at ha hp).trans (congrArg _ ?_),
      fun t panel inside ht rest => (whenOn_at ha hp).trans (congrArg _ ?_)⟩
    all_goals rw [handFire_eq hc locked ok]; unfold takeAllClear
    · rw [if_pos other]; rfl
    · rw [if_neg (by simp [panel]), if_neg (by simp [inMask, out])]
    · rw [if_neg (by simp [panel]), if_pos (by exact inside)]
      subst ht
      exact settle_of_none rest

/-- Settles O50. -/
theorem beaconIsQueued : Obligations.BeaconIsQueued := by
  unfold Obligations.BeaconIsQueued
  intro now c due s a ha hp hc timer
  refine ⟨rfl, fun early => (whenOn_at ha hp).trans (congrArg _ ?_), fun late alone => ?_⟩
  · unfold beaconRunsOut
    simp only [hc]
    rw [if_neg (by simp [not_due_of timer early])]
  · have waiting : a.line.general.any (fun e => e.isBeacon && a.line.waits e) = false :=
      List.any_eq_false.mpr fun e he => by simp [alone e he]
    have again : a.faults.beacon.map (· + msec c.beaconPeriod) = some (due + 1000 * c.beaconPeriod) := by simp [timer, msec_eq]
    refine ⟨fun room => (whenOn_at ha hp).trans (congrArg _ ?_), fun full => (whenOn_at ha hp).trans (congrArg _ ?_)⟩
    · unfold beaconRunsOut sendBeacon
      simp only [hc, waiting]
      rw [if_pos (due_of timer late), if_neg (by simp), if_pos (by simpa [LineUnit.room] using room), ← again]
      rfl
    · unfold beaconRunsOut sendBeacon
      simp only [hc, waiting]
      rw [if_pos (due_of timer late), if_neg (by simp), if_neg (by simpa [LineUnit.room] using full), ← again]
      rfl

/-- A consequence after which only writes can follow. -/
theorem OnlyWrites.settle_of_progress {s t : State} (h : OnlyWrites t) (hp : progress s = some t) :
    ∃ d m, settle s = { t with dir := d, memory := m } ∧ SameSlots t.dir d := by
  have : settle s = settleWith 63 t := by
    show settleWith (63 + 1) s = _
    simp [settleWith, hp]
  rw [this]
  refine settleWith_keeps (P := fun v => ∃ d m, v = { t with dir := d, memory := m } ∧ SameSlots t.dir d) ?_ 63 ⟨t.dir, t.memory, rfl, .refl _⟩
  rintro _ u hu ⟨d, m, rfl, hd⟩
  rw [(h.withDir d m).progress_eq] at hu
  rcases orElse_cases hu with hu | hu
  · obtain ⟨e, rfl, he⟩ := fillOwed_sameSlots hu
    exact ⟨e, m, rfl, hd.trans he⟩
  · obtain ⟨e, m', rfl, he⟩ := beginWrite_sameSlots hu
    exact ⟨e, m', rfl, hd.trans he⟩

/-! ## FAULTED entered by a crane stopped before (R66, R164, R169) -/

theorem failNow_faults (n : Nat) (o : FailOutcome) (s : State) : (failNow n o s).faults = s.faults := by
  unfold failNow
  split
  · rfl
  · rename_i j _
    obtain ⟨d, hd⟩ := releaseFor_onDir j s
    have sent : (send (.failed j.bin j.tag o) (.station j.requester) (releaseFor j s)).faults = s.faults := by
      rcases send_cases (.failed j.bin j.tag o) (.station j.requester) (releaseFor j s) with ⟨_, h⟩ | ⟨_, h⟩ <;> rw [h, hd]
    dsimp only
    split
    · obtain ⟨k, hk⟩ := moveEnd_crane (closeClaimed n (removeJob n (send (.failed j.bin j.tag o) (.station j.requester) (releaseFor j s))))
      rw [hk]
      exact sent
    · exact sent

theorem requestFail_faults (n : Nat) (o : FailOutcome) (s : State) : (requestFail n o s).faults = s.faults := by
  rcases requestFail_cases n o s with ⟨_, h⟩ | ⟨_, h⟩ <;> rw [h]
  · rfl
  · exact failNow_faults n o s

theorem failWaiting_faults (o : FailOutcome) (s : State) : (failWaiting o s).faults = s.faults := by
  have each (l : List Job) (t : State) : (l.foldl (fun t j =>
      if j.waitingFetch || (j.isStore && j.stage == .awaitCarrier) then requestFail j.num o t else t) t).faults = t.faults := by
    induction l generalizing t with
    | nil => rfl
    | cons j js ih =>
      refine (ih _).trans ?_
      dsimp only
      split
      · exact requestFail_faults j.num o t
      · rfl
  exact each _ s

/-- A report that names no step leaves the job and the record as they stand (R169). -/
theorem disposeActive_unnamed {cause : Cause} {o : FailOutcome} {s : State} (h : ∀ r, s.crane.report = some r → r.step = none) :
    disposeActive cause o s = s := by
  unfold disposeActive
  cases hr : s.crane.report with
  | none => rfl
  | some r => simp only [h r hr]

/-- A crane with no step to name reports none. -/
theorem emergencyStop_unnamed {s : State} (h : s.crane.mode = .stopped ∨ s.crane.toName = none) :
    ∀ r, (emergencyStop s).crane.report = some r → r.step = none := by
  intro r hr
  unfold emergencyStop at hr
  split at hr
  · obtain ⟨x, _, rfl⟩ := Option.map_eq_some_iff.mp hr
    rfl
  · rename_i hm
    rcases h with h | h
    · exact absurd h hm
    · cases hr
      exact h

theorem enterFaulted_faults {s : State} (h : s.crane.mode = .stopped ∨ s.crane.toName = none) : (enterFaulted s).faults = s.faults := by
  have unnamed := emergencyStop_unnamed (s := s.setStation .faulted) h
  obtain ⟨k, hk⟩ := emergencyStop_crane (s.setStation .faulted)
  refine (failWaiting_faults .stationFault _).trans ?_
  rw [disposeActive_unnamed (by exact unnamed), hk]
  rfl

/-- A station gone over to FAULTED: the crane stopped, still and unhomed, no offer open, the rest of it standing. -/
structure GoneFaulted (s t : State) : Prop where
  station : t.station = .faulted
  mode : t.crane.mode = .stopped
  travel : t.crane.travel.Quiet ∧ t.crane.travel.homed = false
  lift : t.crane.lift.Quiet ∧ t.crane.lift.homed = false
  counts : t.crane.travel.count = s.crane.travel.count ∧ t.crane.lift.count = s.crane.lift.count
  offers : t.offers.entries = []
  sets : t.faults.current = s.faults.current ∧ t.faults.accrued = s.faults.accrued
  front : t.front = s.front
  fire : t.fire = s.fire
  config : t.config = s.config
  clock : t.clock = s.clock

theorem GoneFaulted.withDir {s t : State} (h : GoneFaulted s t) (d : Directory) (m : List Host.Cell) :
    GoneFaulted s { t with dir := d, memory := m } :=
  ⟨h.station, h.mode, h.travel, h.lift, h.counts, h.offers, h.sets, h.front, h.fire, h.config, h.clock⟩

/-- FAULTED entered in CALM with no step held. -/
theorem enterFaulted_gone {s : State} (still : StillWhenStopped s.crane) (held : s.crane.held = none) (calm : s.fire.state = .calm) :
    GoneFaulted s (enterFaulted s) ∧ OnlyWrites (enterFaulted s) := by
  obtain ⟨k, hk, stops⟩ := emergencyStop_stopsCrane (s := s.setStation .faulted) still
  have fails := failsWork_enterFaulted s
  have eq : faultStopped s = { s with station := .faulted, crane := k.onBoth (fun a => { a with homed := false }) } := by
    unfold faultStopped
    rw [hk]
    rfl
  have crane : (enterFaulted s).crane = k.onBoth (fun a => { a with homed := false }) := by
    rw [fails.crane (by rw [eq]; show k.mode ≠ .step; rw [stops.mode]; exact (nomatch ·)), eq]
  rw [eq] at fails
  have rest : OnlyWrites (enterFaulted s) := by
    refine .of_idle_station ?_ ?_ ?_ ?_ ?_ (by rw [fails.fire]; exact calm) (by rw [fails.station]; exact (nomatch ·))
    all_goals rw [crane]
    · exact stops.held.trans held
    · exact stops.step
    · show k.mode ≠ .step ∧ k.mode ≠ .stopping
      rw [stops.mode]
      exact ⟨(nomatch ·), (nomatch ·)⟩
    · show k.homing ≠ some .front
      rw [stops.homing]
      exact (nomatch ·)
    · exact stops.clearing
  refine ⟨⟨fails.station, ?_, ?_, ?_, ?_, rfl, fails.sets, fails.front, fails.fire, fails.config, fails.clock⟩, rest⟩
  all_goals rw [crane]
  · exact stops.mode
  · exact ⟨⟨stops.travel.duty, stops.travel.next, stops.travel.move⟩, rfl⟩
  · exact ⟨⟨stops.lift.duty, stops.lift.next, stops.lift.move⟩, rfl⟩
  · exact stops.counts

/-! ## The shutter (R151 to R153) -/

/-- A crane between its works and nothing to write: what follows is the fire unit's, the record's or the queue's to say. -/
structure Idles (s : State) : Prop where
  held : s.crane.held = none
  owed : s.dir.firstOwed = none
  writes : s.dir.writeList = [] ∨ s.dir.port ≠ .idle
  step : s.crane.step = none
  mode : s.crane.mode ≠ .step ∧ s.crane.mode ≠ .stopping
  front : s.crane.homing ≠ some .front
  clearing : s.crane.clearing = none
  halting : s.fire.state = .halting → s.crane.mode ≠ .stopped

theorem Idles.progress_eq {s : State} (h : Idles s) :
    progress s = (sealedByScl s <|> reopen s <|> opened s <|> serveGive s <|> nextStep s <|> selection s) := by
  have report : haltingReport s = none := by
    unfold haltingReport
    exact if_neg fun ⟨hf, hm⟩ => h.halting hf hm
  have homed : homedAtFront s = none := by
    unfold homedAtFront
    exact if_neg fun ⟨hf, _⟩ => h.front hf
  unfold progress
  simp [finishHeld_none h.held, fillOwed_none h.owed, beginWrite_none h.writes, stepProgress_none h.step, craneRests_none h.mode, report,
    clearProgress_none h.clearing, homed]

/-- The crane and the directory stand as in a state at rest. -/
theorem AtRest.idles {a s : State} (h : AtRest a) (crane : s.crane = a.crane) (dir : s.dir = a.dir) (calm : s.fire.state ≠ .halting) : Idles s :=
  ⟨crane ▸ h.held, dir ▸ h.owed, dir ▸ h.writes, crane ▸ h.step, crane ▸ h.mode, crane ▸ h.front, crane ▸ h.clearing, fun hh => absurd hh calm⟩

/-- SEALING begins with the shutter's limit afresh (R151). -/
theorem enterSealing_eq {c : Config} {s : State} (hc : s.cfg = some c) : enterSealing s = { s with fire := { s.fire with
    state := .sealing, parked := false, deadline := none, shutter := some (s.clock + 1000 * c.shutterLimit) } } := by
  have limit : s.shutterLimit = c.shutterLimit := by simp only [State.shutterLimit, hc]
  unfold enterSealing
  rw [limit, State.inMs, msec_eq]
  rfl

/-- SCL active in a shutdown that waits for it seals (R151, R152). -/
theorem progress_sealed {s t : State} (idles : Idles s) (h : sealedByScl s = some t) : progress s = some t := by
  rw [idles.progress_eq, h]
  rfl

/-- PARKED takes the reserved entry when that is empty (R142, R153). -/
theorem parked_eq {c : Config} {breached : Bool} {s : State} (hc : s.cfg = some c) (free : s.line.reserved = none) :
    parked breached s = { s with
      fire := { s.fire with parked := true }
      line := { s.line with
        reserved := some (newEntry s.line.nextOrder (.parked c.zone s.fire.forced breached (s.faults.suspension.map (·.kind))) .all none)
        nextOrder := s.line.nextOrder + 1 } } := by
  unfold parked sendParked
  simp only [hc, free]
  rfl

/-- What waits unreported is left as it stands. -/
theorem unreport_newEntry (f : FaultName) (order : Nat) (body : TxBody) (dest : Dest) (offer : Option Nat) :
    TxEntry.unreport f (newEntry order body dest offer) = newEntry order body dest offer := by
  simp [TxEntry.unreport, newEntry]

/-- In CALM the shutter's outputs are off. -/
theorem outputs_calm {s : State} (h : s.fire.state = .calm) : s.outputs.sho = false ∧ s.outputs.shc = false := by
  simp [State.outputs, h]

/-- Settles O46. -/
theorem shutterIsWatched : Obligations.ShutterIsWatched := by
  unfold Obligations.ShutterIsWatched
  intro now c k s a t ha hp hc hk rest
  have powered : a.powered = true := by rw [ha]; exact hp
  refine ⟨fun state unparked free still ht => ?_, fun state ht => ?_, fun due state unparked free timer late ht => ?_, fun state still ht => ?_,
    fun state => ?_⟩
  · subst hk ht
    refine ⟨(whenOn_at (act := fun t => settle (t.onFire fun f => { f with scl := true })) ha hp).trans (congrArg _ ?_),
      by simp [State.outputs, powered], by simp [State.outputs, powered]⟩
    have sealing : sealedByScl (a.onFire fun f => { f with scl := true }) = some (parked false (a.onFire fun f =>
        { f with state := .sealed, shutter := none, scl := true })) := by
      unfold sealedByScl
      simp only [State.onFire_fire, state, unparked]
      rfl
    have next := progress_sealed (still.idles (s := a.onFire fun f => { f with scl := true }) rfl rfl (by show a.fire.state ≠ _; rw [state]; exact (nomatch ·))) sealing
    refine SettlesTo.settle_of_progress ?_ next
    rw [parked_eq (by exact hc) (by exact free)]
    exact ⟨0, Nat.zero_le _, rfl, rest⟩
  · subst ht
    refine ⟨(whenOn_at ha hp).trans (congrArg _ ?_), by simp [State.outputs], by simp [State.outputs, recordFault, powered]⟩
    refine Eq.trans (if_pos (by exact state)) ?_
    rw [raise_mild _ rfl]
    exact settle_of_none rest
  · subst hk ht
    refine ⟨(whenOn_at ha hp).trans (congrArg _ ?_), by simp [State.outputs], by simp [State.outputs, recordFault, powered]⟩
    unfold shutterRunsOut
    rw [if_pos (due_of timer late)]
    simp only [state]
    rw [raise_mild _ rfl, if_neg (by simp [unparked]), parked_eq (c := c) (by exact hc) (by simp [recordFault, free])]
    refine (congrArg settle ?_).trans (settle_of_none rest)
    simp [recordFault, State.onFaults, State.onLine, unreport_newEntry]
  · subst ht
    refine ⟨(whenOn_at (act := fun t => settle (t.onFire fun f => { f with scl := true })) ha hp).trans (congrArg _ ?_),
      by simp [State.outputs, powered], by simp [State.outputs, powered]⟩
    have sealing : sealedByScl (a.onFire fun f => { f with scl := true }) = some (a.onFire fun f =>
        { f with state := .sealed, shutter := none, scl := true }) := by
      unfold sealedByScl
      simp only [State.onFire_fire, state]
      rfl
    have next := progress_sealed (still.idles (s := a.onFire fun f => { f with scl := true }) rfl rfl (by show a.fire.state ≠ _; rw [state]; exact (nomatch ·))) sealing
    exact SettlesTo.settle_of_progress ⟨0, Nat.zero_le _, rfl, rest⟩ next
  · refine ⟨(whenOn_at ha hp).trans (congrArg _ ?_), fun due station crane held timer late => ⟨_, whenOn_at ha hp, ?_⟩, fun i u =>
      ⟨fun fires settles => ?_, fun fires free alone settles => ?_⟩⟩
    · exact if_neg (by simp [state])
    · have mode : a.crane.mode = .stopped := crane.stopped (by simp [State.outputsHeld, state])
      have eq : shutterRunsOut a = settle (enterFaulted (toCalm (raise .shutter a))) := by
        unfold shutterRunsOut
        rw [if_pos (due_of timer late)]
        simp only [state]
        rw [raise_mild _ rfl, if_pos (by exact station)]
      obtain ⟨gone, writes⟩ := enterFaulted_gone (s := toCalm (raise .shutter a)) (by rw [raise_mild _ rfl]; exact crane.stillWhenStopped)
        (by rw [raise_mild _ rfl]; exact held) rfl
      have faults := enterFaulted_faults (s := toCalm (raise .shutter a)) (.inl (by rw [raise_mild _ rfl]; exact mode))
      obtain ⟨d, m, settled, _⟩ := writes.settle_eq
      rw [eq, settled]
      rw [raise_mild _ rfl] at gone faults ⊢
      replace gone := gone.withDir d m
      have fire := gone.fire
      refine ⟨gone.station, ?_, ?_, gone.mode, gone.travel.1, gone.lift.1, gone.travel.2, gone.lift.2, gone.offers, ?_, ?_, ?_, ?_, gone.front,
        gone.config, gone.clock, gone.counts.1, gone.counts.2, ?_⟩
      · rw [gone.sets.1]; exact inSet_or_bit _ _
      · rw [gone.sets.2]; exact inSet_or_bit _ _
      · rw [fire]; rfl
      · rw [fire]; rfl
      · exact (outputs_calm (by rw [fire]; rfl)).1
      · exact (outputs_calm (by rw [fire]; rfl)).2
      · show (enterFaulted _).faults.suspension = _; rw [faults]; rfl
    · obtain ⟨src, mask, cause, c', rfl, hc', locked, ok, named⟩ := fires
      obtain rfl : c' = c := Option.some.inj (hc'.symm.trans hc)
      refine (whenOn_at ha hp).trans (congrArg _ ?_)
      rw [handFire_eq hc locked ok]
      unfold takeAlarm
      rw [if_pos (by simpa [qualifies, inMask] using named)]
      unfold trigger
      simp only [state]
      rw [enterSealing_eq (c := c') (by exact hc)]
      exact settles.settle_eq
    · obtain ⟨rfl, fin, fresh, t0, run, passed⟩ := fires
      refine (whenOn_at ha hp).trans (congrArg _ ?_)
      rw [finBecomesActive_due hc (finDue_of fin fresh run passed) free alone]
      unfold trigger
      simp only [state]
      rw [enterSealing_eq (c := c) (by exact hc)]
      exact settles.settle_eq

end Sys2Proof.Machine
end

section
/-! SUPPORT. Homing begun (R55, R56), and the way out of a shutdown (R155 to R157). -/

namespace Sys2Proof.Machine

set_option Elab.async false

open Sys2Proof

/-! ## Homing begun (R55, R56) -/

/-- The lift as homing first drives it, its home switch active or not. -/
def Axis.homes (x : Axis) (ac : AxisConfig) (clock : Nat) (switch : Bool) : Axis :=
  { x.halt clock with
    homed := false, move := .none, target := none, dir := none, step := 0, duty := ac.duty.s0
    outDir := if switch then .up else .down, nextDuty := none, brake := false
    stall := some (clock + 1000 * ac.stall.s0), firstMark := true }

/-- The crane made ready for homing: still and unhomed, out of any step, the home timer running. -/
def Crane.readied (k : Crane) (c : Config) (clock : Nat) : Crane :=
  { k with
    mode := .homing, step := none, homing := none, named := none, homingStopped := false
    homeTimer := some (clock + 1000 * c.homeLimit)
    travel := { k.travel.halt clock with homed := false }, lift := { k.lift.halt clock with homed := false } }

/-- The crane as homing begins: both axes unhomed, the lift driven. -/
def Crane.homes (k : Crane) (c : Config) (clock : Nat) (switch : Bool) : Crane :=
  { k.readied c clock with
    homing := some (if switch then .away .lift else .toward .lift), lift := k.lift.homes c.lift clock switch }

theorem hasSevere_false_of {set : Word} (h : hasSevere set = false) {f : FaultName} (severe : f.severe = true) : inSet set f = false := by
  unfold hasSevere at h
  have := List.any_eq_false.mp h f (by cases f <;> decide)
  simpa [severe] using this

/-- With its checks passed homing drives the lift (R55, R56). -/
theorem startHoming_drives {c : Config} {s : State} (station : s.station = .homing) (hc : s.config = some c) (calm : s.fire.state = .calm)
    (centred : s.sensors.fkc = true) (ready : s.sensors.drdy = true) (limits : anyLimit s.sensors = false) :
    startHoming s = { s with crane := s.crane.homes c s.clock s.sensors.vhs } := by
  have hcfg : s.cfg = some c := (State.cfg_of_not_halted s (by rw [station]; exact (nomatch ·))).trans hc
  have free (t : State) (hs : t.station = .homing) (hf : t.fire.state = .calm) : t.axisHeld .lift = false := by
    simp [State.axisHeld, State.outputsHeld, hs, hf]
  unfold startHoming
  simp only [hcfg, State.inMs, msec_eq]
  rw [if_neg (by simp [centred, limits])]
  change beginAxisHoming .lift { s with crane := s.crane.readied c s.clock } = _
  unfold beginAxisHoming
  cases switch : s.sensors.vhs
  · rw [if_neg (by simp [homeSwitch, switch]),
      homingDrive_driven (c := c) (by exact hcfg) (free _ (by exact station) (by exact calm)) (by exact ready)]
    rfl
  · rw [if_pos (by simp [homeSwitch, switch]),
      homingDrive_driven (c := c) (by exact hcfg) (free _ (by exact station) (by exact calm)) (by exact ready)]
    rfl

theorem enterHoming_drives {c : Config} {s : State} (mild : hasSevere s.faults.current = false) (hc : s.config = some c)
    (calm : s.fire.state = .calm) (centred : s.sensors.fkc = true) (ready : s.sensors.drdy = true) (limits : anyLimit s.sensors = false) :
    enterHoming s = { s with station := .homing, crane := s.crane.homes c s.clock s.sensors.vhs } := by
  unfold enterHoming
  rw [if_neg (by simp [mild]), startHoming_drives (c := c) rfl (by exact hc) (by exact calm) (by exact centred) (by exact ready) (by exact limits)]
  rfl

/-- While the lift is driven in homing only writes can follow. -/
theorem onlyWrites_homes {c : Config} {clock : Nat} {switch : Bool} {k : Crane} {s : State} (station : s.station = .homing)
    (crane : s.crane = k.homes c clock switch) (calm : s.fire.state = .calm) (held : k.held = none) (clearing : k.clearing = none) :
    OnlyWrites s := by
  refine .of_idle_station ?_ ?_ ?_ ?_ ?_ calm (by rw [station]; exact (nomatch ·))
  all_goals rw [crane]
  · exact held
  · rfl
  · exact ⟨(nomatch ·), (nomatch ·)⟩
  · cases switch <;> exact (nomatch ·)
  · exact clearing

/-- With no record there is none to serve. -/
theorem serve_none {s : State} (h : s.faults.suspension = none) : serve s = s := by
  unfold serve
  rw [h]
  cases s.cfg <;> rfl

/-! ## Out of a shutdown (R155 to R157) -/

/-- REOPENING follows from FIN settled with the all-clear. -/
theorem progress_reopen {c : Config} {s : State} (idles : Idles s) (hc : s.cfg = some c) (shut : s.fire.state = .sealed ∨ s.fire.state = .breached)
    (clear : s.fire.allClear = true) (fin : s.fire.fin = false) (settled : s.fire.finLast + 1000 * c.finSettle ≤ s.clock)
    (scl : s.fire.scl = false ∨ s.fire.state = .sealed) :
    progress s = some (s.onFire fun f => { f with state := .reopening, shutter := some (s.clock + 1000 * c.shutterLimit) }) := by
  have closed : sealedByScl s = none := by
    unfold sealedByScl
    rcases shut with h | h
    · simp only [h]
    · have open' : s.fire.scl = false := by
        rcases scl with hs | hs
        · exact hs
        · rw [h] at hs; cases hs
      simp only [h, open']
      rfl
  have now : (s.fire.allClear && s.finSettledNow) = true := by simp [State.finSettledNow, hc, clear, fin, msec_eq, settled]
  have opens : reopen s = some (s.onFire fun f => { f with state := .reopening, shutter := some (s.clock + 1000 * c.shutterLimit) }) := by
    have limit : s.shutterLimit = c.shutterLimit := by simp only [State.shutterLimit, hc]
    unfold reopen
    rcases shut with h | h <;> simp only [h] <;> rw [if_pos now, State.inMs, limit, msec_eq]
  rw [idles.progress_eq, closed, opens]
  rfl

/-- The shutter open, the station resumes. -/
theorem progress_opened {s : State} (idles : Idles s) (state : s.fire.state = .reopening) (sop : s.sensors.sop = true) :
    progress s = some (resume s) := by
  have closed : sealedByScl s = none := by
    unfold sealedByScl
    simp only [state]
  have reopened : reopen s = none := by
    unfold reopen
    simp only [state]
  have opens : opened s = some (resume s) := if_pos ⟨state, sop⟩
  rw [idles.progress_eq, closed, reopened, opens]
  rfl

/-- FAULTED entered by a crane that is stopped already: the report answered again, both axes unhomed. -/
theorem enterFaulted_stopped {s : State} (mode : s.crane.mode = .stopped) :
    (enterFaulted s).crane = s.crane.answerAgain.onBoth (fun a => { a with homed := false }) ∧ (enterFaulted s).station = .faulted
      ∧ (enterFaulted s).fire = s.fire ∧ (enterFaulted s).offers.entries = [] ∧ (enterFaulted s).faults = s.faults := by
  have again : faultStopped s = { s with station := .faulted, crane := s.crane.answerAgain.onBoth (fun a => { a with homed := false }) } := by
    unfold faultStopped emergencyStop
    rw [if_pos (by exact mode)]
    rfl
  have fails := failsWork_enterFaulted s
  rw [again] at fails
  exact ⟨fails.crane (by show s.crane.mode ≠ _; rw [mode]; exact (nomatch ·)), fails.station, fails.fire, rfl, enterFaulted_faults (.inl mode)⟩

/-- Settles O48. -/
theorem reopeningResumes : Obligations.ReopeningResumes := by
  unfold Obligations.ReopeningResumes
  intro now c s a t ha hp hc
  have powered : a.powered = true := by rw [ha]; exact hp
  refine ⟨fun shut clear fin settled scl held owed writes step mode clearing homing sop ht => ?_,
    fun state station mode step held clearing homing owed writes => ?_⟩
  · subst ht
    refine ⟨(whenOn_at ha hp).trans (congrArg _ ?_), by simp [State.outputs, powered], by simp [State.outputs], by simp [State.outputs]⟩
    have idles : Idles a := by
      refine ⟨held, owed, writes, step, ?_, by rw [homing]; exact (nomatch ·), clearing, fun hh => ?_⟩
      · rw [mode]
        exact ⟨(nomatch ·), (nomatch ·)⟩
      · rcases shut with h | h <;> rw [h] at hh <;> cases hh
    refine SettlesTo.settle_of_progress (t := a.onFire fun f => { f with state := .reopening, shutter := some (a.clock + 1000 * c.shutterLimit) })
      ⟨0, Nat.zero_le _, rfl, ?_⟩ (progress_reopen idles hc shut clear fin settled scl)
    have out : (State.inService (a.onFire fun f => { f with state := .reopening, shutter := some (a.clock + 1000 * c.shutterLimit) })) = true → False := by
      simp [State.inService]
    exact progress_atRest ⟨held, owed, writes, step, idles.mode, idles.front, clearing, (nomatch ·), (nomatch ·), (nomatch ·), fun _ => sop,
      fun h => (out h).elim, fun h => (out h).elim, fun h => (out h).elim⟩
  · have config : a.config = some c := (State.cfg_of_not_halted a (by rw [station]; exact (nomatch ·))).symm.trans hc
    have idles : Idles (a.setSensors { a.sensors with sop := true }) := by
      refine ⟨held, owed, writes, step, ?_, ?_, clearing, fun hh => ?_⟩
      · show a.crane.mode ≠ _ ∧ a.crane.mode ≠ _
        rw [mode]
        exact ⟨(nomatch ·), (nomatch ·)⟩
      · show a.crane.homing ≠ _
        rw [homing]
        exact (nomatch ·)
      · cases state.symm.trans hh
    have next := progress_opened idles state rfl
    unfold resume at next
    dsimp only at next
    rw [if_pos (by exact station)] at next
    have runs {u : State} (h : settle (a.setSensors { a.sensors with sop := true }) = u) : exec (.sopActive now) s = .next u :=
      (whenOn_at (act := fun t => settle (t.setSensors { t.sensors with sop := true })) ha hp).trans (congrArg _ h)
    refine ⟨fun start => ?_, fun start severe => ?_, fun start mild unforced marked record idle => ?_, fun mild start marks centred ready limits => ?_⟩
    · rw [if_pos (by exact start)] at next
      refine ⟨_, runs (SettlesTo.settle_of_progress ⟨0, Nat.zero_le _, rfl, ?_⟩ next), rfl, rfl, rfl, rfl, rfl, rfl, rfl, rfl⟩
      exact progress_atRest ((OnlyWrites.of_idle_station (s := beginLoading (toCalm (a.setSensors { a.sensors with sop := true }))) held step
        idles.mode idles.front clearing rfl (show StationState.loading ≠ .run from (nomatch ·))).atRest rfl (.inl rfl))
    · rw [if_neg (by exact start), if_pos (by exact severe)] at next
      obtain ⟨crane, stationed, fire, offers, faults⟩ := enterFaulted_stopped (s := toCalm (a.setSensors { a.sensors with sop := true })) mode
      have only : OnlyWrites (enterFaulted (toCalm (a.setSensors { a.sensors with sop := true }))) := by
        refine .of_idle_station ?_ ?_ ?_ ?_ ?_ (by rw [fire]; rfl) (by rw [stationed]; exact (nomatch ·))
        all_goals rw [crane]
        · exact held
        · exact step
        · exact idles.mode
        · exact idles.front
        · exact clearing
      obtain ⟨d, m, settled, _⟩ := only.settle_of_progress next
      refine ⟨_, runs settled, stationed, ?_, ?_, ?_, ?_, ?_, offers, ?_, ?_⟩
      · show (enterFaulted _).fire.state = _; rw [fire]; rfl
      · show (enterFaulted _).fire.startPoint = _; rw [fire]; rfl
      · show (enterFaulted _).crane.mode = _; rw [crane]; exact mode
      · show (enterFaulted _).crane.travel.homed = _; rw [crane]; rfl
      · show (enterFaulted _).crane.lift.homed = _; rw [crane]; rfl
      · show (enterFaulted _).faults.current = _; rw [faults]; rfl
      · show (enterFaulted _).faults.suspension = _; rw [faults]; rfl
    · rw [if_neg (by show ¬ a.fire.startPoint = _; rw [start]; exact (nomatch ·)), if_neg (by simpa using mild),
        if_neg (by simp [start, unforced, marked])] at next
      refine runs (SettlesTo.settle_of_progress ?_ next)
      have served : enterRun (toCalm (a.setSensors { a.sensors with sop := true })) = { a with
          station := .run
          sensors := { a.sensors with sop := true }
          fire := { a.fire with state := .calm, allClear := false, shutter := none, deadline := none, forced := false
                                rehome := false, recordMark := false, startPoint := .none } } := by
        unfold enterRun
        exact serve_none record
      rw [served]
      refine ⟨0, Nat.zero_le _, rfl, progress_atRest ⟨held, owed, writes, step, idles.mode, idles.front, clearing, (nomatch ·), ?_, ?_, (nomatch ·),
        fun _ => record, fun _ j hj => ?_, fun _ _ j hj => ?_⟩⟩
      · rintro (h | h) <;> cases h
      · rintro (h | h) <;> cases h
      · replace hj : j ∈ a.queue.jobs := hj
        rw [idle] at hj
        cases hj
      · replace hj : j ∈ a.queue.jobs := hj
        rw [idle] at hj
        cases hj
    · rw [if_neg (by exact start), if_neg (by simpa using mild),
        if_pos (by exact marks), enterHoming_drives (c := c) (by exact mild) (by exact config) rfl (by exact centred) (by exact ready) (by exact limits)]
        at next
      refine ⟨_, runs (SettlesTo.settle_of_progress ⟨0, Nat.zero_le _, rfl, ?_⟩ next), rfl, rfl, rfl, rfl, rfl, rfl, rfl, rfl, rfl, rfl⟩
      exact progress_atRest ((onlyWrites_homes rfl rfl rfl held clearing).atRest owed writes)

end Sys2Proof.Machine
end

section
/-! SUPPORT. Two statements of the fire unit that fail where the directory holds more records than the aisle has slots: then
places share an address, every write-owed record of it fills in place (R11), and the consequences of one command (log 11) run out
before the crane's stop is carried out. No run of the station reaches such a directory (`everyStepCountsEmpty`), but neither
statement asks for one that holds the capacity's number of records. -/

namespace Sys2Proof.Machine

set_option Elab.async false

open Sys2Proof Sys2Proof.Tests

/-- An aisle of one bay, one level and one face. -/
def narrow : Config := { c0 with bays := 1, levels := 1 }

/-- A directory of eighty write-owed records where the aisle has one slot. -/
def crowdedDir : Directory := { run0.dir with records := List.replicate 80 ⟨.empty, 0, true⟩, emptyCount := 80 }

/-- FIN just over 100 ms in RUN, the crane idle and clear of the shutter plane. -/
def crowdedRun : State := { fired0 with config := some narrow, dir := crowdedDir }

/-- The same in ACQUIRING, the crane not homed. -/
def crowdedAcquiring : State := { firedOutside .acquiring (some narrow) with dir := crowdedDir }

/-- The 64 consequences of the trigger are all writes filled: the fire unit still stands in HALTING. -/
theorem crowdedRun_halting : (after (.finActive (here run0)) crowdedRun).fire.state = .halting := by decide +kernel

theorem crowdedAcquiring_halting : (after (.finActive (here run0)) crowdedAcquiring).fire.state = .halting := by decide +kernel

/-- What a command leads to is what `after` gives. -/
theorem eq_after {i : Instr} {s t : State} (h : exec i s = .next t) : t = after i s := by
  unfold after
  rw [h]

/-- Refutes O43: in `crowdedRun` the trigger leaves HALTING, where the statement asks for SEALING. -/
theorem not_triggerShutsDown : ¬ Obligations.TriggerShutsDown := by
  unfold Obligations.TriggerShutsDown
  intro h
  obtain ⟨_, triggers⟩ := h (here run0) 4 8 1 narrow crowdedRun crowdedRun rfl rfl rfl rfl rfl
  obtain ⟨seals, _⟩ := triggers (.finActive (here run0)) (.inr (fin_fires (by decide +kernel) _)) rfl
  obtain ⟨t, run, _, sealing, _⟩ := seals rfl rfl rfl rfl rfl rfl rfl rfl rfl rfl rfl rfl rfl (by decide +kernel)
  rw [eq_after run, crowdedRun_halting] at sealing
  cases sealing

/-- Refutes O44: in `crowdedAcquiring` the trigger leaves HALTING, where the statement asks for SEALING. -/
theorem not_triggersOutsideRun : ¬ Obligations.TriggersOutsideRun := by
  unfold Obligations.TriggersOutsideRun
  intro h
  have held : CraneHeld crowdedAcquiring := craneHeld_moving (by decide +kernel)
  obtain ⟨t, run, sealing, _⟩ := h (here run0) (.finActive (here run0)) crowdedAcquiring crowdedAcquiring rfl rfl
    (.inr (fin_fires (by decide +kernel) _)) rfl rfl held rfl rfl rfl rfl rfl rfl rfl rfl (.inl ⟨rfl, rfl⟩) (.inr (.inr (.inl rfl)))
  rw [eq_after run, crowdedAcquiring_halting] at sealing
  cases sealing

end Sys2Proof.Machine
end

section
/-! SUPPORT. Stops by force and by order in a shutdown (R64 to R67, R144 to R150). -/

namespace Sys2Proof.Machine

set_option Elab.async false

open Sys2Proof

/-! ## What failing work takes from the queue, and what it leaves -/

/-- `t` is `s` with jobs failed: no job comes, no queued frame goes, no HELD slot changes. -/
structure Drops (s t : State) : Prop where
  jobs : t.queue.jobs.Sublist s.queue.jobs
  frames : ∀ x ∈ s.line.general, x ∈ t.line.general
  slots : ∀ ad, s.slotIs ad .held = true → t.slotIs ad .held = true

theorem Drops.refl (s : State) : Drops s s := ⟨.refl _, fun _ h => h, fun _ h => h⟩

theorem Drops.trans {s t u : State} (h : Drops s t) (k : Drops t u) : Drops s u :=
  ⟨k.jobs.trans h.jobs, fun x hx => k.frames x (h.frames x hx), fun ad ha => k.slots ad (h.slots ad ha)⟩

theorem Drops.foldl {α : Type} {f : State → α → State} (h : ∀ t x, Drops t (f t x)) (l : List α) (s : State) : Drops s (l.foldl f s) := by
  induction l generalizing s with
  | nil => exact .refl s
  | cons x xs ih => exact (h s x).trans (ih _)

theorem failNow_jobs (n : Nat) (o : FailOutcome) (s : State) : (failNow n o s).queue.jobs = s.queue.jobs.filter (fun k => k.num != n) := by
  unfold failNow
  split
  · rename_i h
    refine (List.filter_eq_self.mpr fun k hk => ?_).symm
    simpa using List.find?_eq_none.mp h k hk
  · rename_i j _
    obtain ⟨d, hd⟩ := releaseFor_onDir j s
    have gone : (closeClaimed n (removeJob n (send (.failed j.bin j.tag o) (.station j.requester) (releaseFor j s)))).queue.jobs
        = s.queue.jobs.filter (fun k => k.num != n) := by
      rw [hd]
      rcases send_cases (.failed j.bin j.tag o) (.station j.requester) { s with dir := d } with ⟨_, h⟩ | ⟨_, h⟩ <;> rw [h] <;> rfl
    dsimp only
    split
    · obtain ⟨k, hk⟩ := moveEnd_crane (closeClaimed n (removeJob n (send (.failed j.bin j.tag o) (.station j.requester) (releaseFor j s))))
      rw [hk]
      exact gone
    · exact gone

/-- Fail requests for other numbers leave a job as it stands. -/
theorem requestFail_job {n m : Nat} (o : FailOutcome) (s : State) (h : n ≠ m) : (requestFail m o s).job n = s.job n := by
  rcases requestFail_cases m o s with ⟨_, hr⟩ | ⟨_, hr⟩ <;> rw [hr]
  · rfl
  · unfold State.job
    rw [failNow_jobs, List.find?_filter]
    refine congrArg (List.find? · s.queue.jobs) (funext fun k => ?_)
    by_cases hk : k.num = n <;> simp [hk, h]

/-- The waiting work that a shutdown or a fault fails (R146, R165). -/
def Job.failable (j : Job) : Bool := j.waitingFetch || (j.isStore && j.stage == .awaitCarrier)

theorem failWaiting_eq (o : FailOutcome) (s : State) :
    failWaiting o s = s.queue.jobs.foldl (fun t j => if j.failable then requestFail j.num o t else t) s := rfl

/-- A job that is not waiting work stays in the queue as it is. -/
theorem failWaiting_job {n : Nat} {o : FailOutcome} {s : State} (h : ∀ k ∈ s.queue.jobs, k.num = n → k.failable = false) :
    (failWaiting o s).job n = s.job n := by
  have each (l : List Job) (hl : ∀ k ∈ l, k.num = n → k.failable = false) (t : State) :
      (l.foldl (fun t j => if j.failable then requestFail j.num o t else t) t).job n = t.job n := by
    induction l generalizing t with
    | nil => rfl
    | cons k ks ih =>
      refine (ih (fun x hx => hl x (List.mem_cons_of_mem _ hx)) _).trans ?_
      dsimp only
      split
      · rename_i hf
        refine requestFail_job o t fun hn => ?_
        rw [hl k List.mem_cons_self hn.symm] at hf
        cases hf
      · rfl
  rw [failWaiting_eq]
  exact each _ h s

/-- A change of a slot that is not HELD leaves every HELD slot HELD. -/
theorem requestChange_held {a ad : SlotAddr} {src : SlotState → Bool} {st : SlotState} {bin : SlotRec → Nat} {job : Option Nat} {s : State}
    (unheld : src .held = false) (h : s.slotIs ad .held = true) : (requestChange a src st bin job s).slotIs ad .held = true := by
  rcases requestChange_cases a src st bin job s with hr | ⟨c, r, hc, hr, hsrc, he⟩
  · rw [hr]; exact h
  · rw [he]
    have other : slotIndex c ad ≠ slotIndex c a := by
      intro heq
      unfold State.slotIs State.slotRec at h
      unfold State.slotRec at hr
      simp only [hc] at h hr
      split at hr
      · split at h
        · rw [heq, hr] at h
          have : r.state = .held := by simpa using h
          rw [this, unheld] at hsrc
          cases hsrc
        · cases h
      · cases hr
    have same : getAt (slotIndex c ad) (Directory.change a (slotIndex c a) st (bin r) job s.dir).records = getAt (slotIndex c ad) s.dir.records := by
      have put (x : SlotRec) : getAt (slotIndex c ad) (Directory.put (slotIndex c a) x s.dir).records = getAt (slotIndex c ad) s.dir.records := by
        rcases put_cases (slotIndex c a) x s.dir with ⟨_, hp⟩ | ⟨_, _, hp⟩ <;> rw [hp]
        exact getAt_setAt_other other
      unfold Directory.change
      split
      · rfl
      · dsimp only
        split
        · exact put _
        · unfold Directory.oweWrite
          split
          · rw [addWrite_records]; exact put _
          · exact put _
    unfold State.slotIs State.slotRec at h ⊢
    have hc' : (s.onDir (Directory.change a (slotIndex c a) st (bin r) job)).cfg = some c := hc
    simp only [hc, hc'] at h ⊢
    rw [← same] at h
    exact h

theorem releaseFor_held {j : Job} {ad : SlotAddr} {s : State} (h : s.slotIs ad .held = true) : (releaseFor j s).slotIs ad .held = true := by
  unfold releaseFor
  split
  · exact h
  · split
    · exact requestChange_held rfl h
    · unfold releaseSlot
      split
      · split <;> exact requestChange_held rfl h
      · exact h

theorem send_frames (body : TxBody) (dest : Dest) (s : State) : ∀ x ∈ s.line.general, x ∈ (send body dest s).line.general := by
  intro x hx
  rcases send_cases body dest s with ⟨_, h⟩ | ⟨_, h⟩ <;> rw [h]
  · exact List.mem_append_left _ hx
  · exact hx

theorem slotIs_congr {s t : State} (cfg : t.cfg = s.cfg) (dir : t.dir = s.dir) (ad : SlotAddr) (st : SlotState) :
    t.slotIs ad st = s.slotIs ad st := by
  unfold State.slotIs State.slotRec
  rw [cfg, dir]

/-- A failed job's release is all that its failing changes of the directory. -/
theorem failNow_dir {n : Nat} {o : FailOutcome} {s : State} {j : Job} (job : s.job n = some j) :
    (failNow n o s).dir = (releaseFor j s).dir := by
  have sent : (send (.failed j.bin j.tag o) (.station j.requester) (releaseFor j s)).dir = (releaseFor j s).dir := by
    rcases send_cases (.failed j.bin j.tag o) (.station j.requester) (releaseFor j s) with ⟨_, h⟩ | ⟨_, h⟩ <;> rw [h]
  unfold failNow
  simp only [job]
  split
  · obtain ⟨k, hk⟩ := moveEnd_crane (closeClaimed n (removeJob n (send (.failed j.bin j.tag o) (.station j.requester) (releaseFor j s))))
    rw [hk]
    exact sent
  · exact sent

theorem FailsWork.cfg {s t : State} (h : FailsWork s t) : t.cfg = s.cfg := by simp only [State.cfg, h.station, h.config]

theorem failNow_slotIs {n : Nat} {o : FailOutcome} {s : State} {j : Job} (job : s.job n = some j) (ad : SlotAddr) (st : SlotState) :
    (failNow n o s).slotIs ad st = (releaseFor j s).slotIs ad st :=
  slotIs_congr ((failsWork_failNow n o s).cfg.trans (failsWork_releaseFor j s).cfg.symm) (failNow_dir job) ad st

theorem drops_failNow (n : Nat) (o : FailOutcome) (s : State) : Drops s (failNow n o s) := by
  refine ⟨by rw [failNow_jobs]; exact List.filter_sublist, ?_, fun ad hd => ?_⟩
  · unfold failNow
    split
    · exact fun _ h => h
    · rename_i j _
      intro x hx
      have sent := send_frames (.failed j.bin j.tag o) (.station j.requester) (releaseFor j s) x (by
        obtain ⟨d, hd⟩ := releaseFor_onDir j s
        rw [hd]
        exact hx)
      dsimp only
      split
      · obtain ⟨k, hk⟩ := moveEnd_crane (closeClaimed n (removeJob n (send (.failed j.bin j.tag o) (.station j.requester) (releaseFor j s))))
        rw [hk]
        exact sent
      · exact sent
  · cases job : s.job n with
    | none => rw [failNow_none job]; exact hd
    | some j => rw [failNow_slotIs job]; exact releaseFor_held hd

theorem drops_requestFail (n : Nat) (o : FailOutcome) (s : State) : Drops s (requestFail n o s) := by
  rcases requestFail_cases n o s with ⟨_, h⟩ | ⟨_, h⟩ <;> rw [h]
  · exact ⟨.refl _, fun _ h => h, fun _ h => h⟩
  · exact drops_failNow n o s

theorem drops_failWaiting (o : FailOutcome) (s : State) : Drops s (failWaiting o s) := by
  refine .foldl (fun t j => ?_) _ s
  split
  · exact drops_requestFail j.num o t
  · exact .refl t

/-! ## The disposal of the active job (R145) -/

section
variable {cause : Cause} {o : FailOutcome} {s : State} {r : StopReport} {st : NamedStep} {j : Job}

/-- A job whose bin is on the fork is kept under a LADEN record. -/
theorem disposeActive_laden (report : s.crane.report = some r) (named : r.step = some st) (job : s.job st.job = some j)
    (stage : j.stage = .toPlace ∨ j.stage = .placing) (held : s.crane.held = none) (fbn : r.fbn = true) :
    disposeActive cause o s = formRecord .laden j st cause r s := by
  unfold disposeActive
  simp only [report, named, job]
  rw [if_neg (by rcases stage with h | h <;> simp [Job.onCrane, Job.active, h]), if_neg (by simp [Crane.heldPlace, held]),
    if_pos (by rcases stage with h | h <;> simp [State.pickVerified, h]), if_pos fbn]

/-- A job whose bin has left the fork fails. -/
theorem disposeActive_lost (report : s.crane.report = some r) (named : r.step = some st) (job : s.job st.job = some j)
    (stage : j.stage = .toPlace ∨ j.stage = .placing) (held : s.crane.held = none) (fbn : r.fbn = false) :
    disposeActive cause o s = setRecord none (requestFail j.num o s) := by
  unfold disposeActive
  simp only [report, named, job]
  rw [if_neg (by rcases stage with h | h <;> simp [Job.onCrane, Job.active, h]), if_neg (by simp [Crane.heldPlace, held]),
    if_pos (by rcases stage with h | h <;> simp [State.pickVerified, h]), if_neg (by simp [fbn])]

/-- A job not picked: a FETCH fails, a STORE is kept under a QUIET record. -/
theorem disposeActive_unpicked (report : s.crane.report = some r) (named : r.step = some st) (job : s.job st.job = some j)
    (stage : j.stage = .toPick ∨ j.stage = .picking) (held : s.crane.held = none) :
    (j.kind = .fetch → disposeActive cause o s = setRecord none (requestFail j.num o s))
      ∧ (j.kind = .store → disposeActive cause o s = formRecord .quiet j st cause r s) := by
  have onCrane : ¬ (!j.onCrane) = true := by rcases stage with h | h <;> simp [Job.onCrane, Job.active, h]
  have unplaced : ¬ s.crane.heldPlace j.num = true := by simp [Crane.heldPlace, held]
  have unpicked : ¬ s.pickVerified j = true := by rcases stage with h | h <;> simp [State.pickVerified, Crane.heldPick, held, h]
  constructor <;> intro kind <;> unfold disposeActive <;> simp only [report, named, job, kind] <;>
    rw [if_neg onCrane, if_neg unplaced, if_neg unpicked]

end

/-! ## SEALING at the end of a stop -/

/-- With the crane stopped and the shutter not yet closed SEALING waits; only writes can follow. -/
theorem onlyWrites_sealing {s : State} (mode : s.crane.mode = .stopped) (step : s.crane.step = none) (held : s.crane.held = none)
    (homing : s.crane.homing = none) (clearing : s.crane.clearing = none) (scl : s.fire.scl = false) : OnlyWrites (enterSealing s) := by
  have out : (enterSealing s).inService = true → False := by simp [State.inService, enterSealing]
  refine ⟨held, step, ?_, ?_, clearing, (nomatch ·), fun _ => scl, ?_, (nomatch ·), fun h => (out h).elim, fun h => (out h).elim,
    fun h => (out h).elim⟩
  · show s.crane.mode ≠ _ ∧ s.crane.mode ≠ _
    rw [mode]
    exact ⟨(nomatch ·), (nomatch ·)⟩
  · show s.crane.homing ≠ _
    rw [homing]
    exact (nomatch ·)
  · rintro (h | h) <;> cases h

/-! ## The shutdown ended by force (R149, R150) -/

/-- The station as the emergency stop leaves it, its first report counted. -/
def forceStopped (k : Crane) (forced : Bool) (s : State) : State :=
  { s with crane := k, fire := { s.fire with forced := s.fire.forced || forced, rehome := true, recordMark := true } }

theorem forceSeal_eq {cause : Cause} {forced : Bool} {k : Crane} {s : State} (hk : emergencyStop s = { s with crane := k }) :
    ∃ w, forceSeal cause forced s = enterSealing w ∧ FailsWork (forceStopped k forced s) w
      ∧ (s.fire.recordMark = true → w = forceStopped k forced s)
      ∧ (s.fire.recordMark = false → w = failWaiting .fireStop (disposeActive cause .fireStop (forceStopped k forced s))) := by
  unfold forceSeal
  rw [hk]
  cases mark : s.fire.recordMark
  · refine ⟨_, congrArg enterSealing (if_neg (by simp [mark])), (failsWork_disposeActive _ _ _).trans (failsWork_failWaiting _ _),
      (nomatch ·), fun _ => rfl⟩
  · have same : ({ s.fire with forced := s.fire.forced || forced, rehome := true, recordMark := true } : FireUnit)
        = { s.fire with forced := s.fire.forced || forced, rehome := true } := by rw [← mark]
    have eq : forceStopped k forced s = State.onFire { s with crane := k } (fun f => { f with forced := f.forced || forced, rehome := true }) := by
      unfold forceStopped
      rw [same]
      rfl
    refine ⟨_, congrArg enterSealing (if_pos (by exact mark)), ?_, fun _ => eq.symm, (nomatch ·)⟩
    rw [eq]
    exact .refl _

/-- The station sealed by force: the crane stopped, the shutter closing, the rest of it standing. -/
structure ForceSealed (c : Config) (forced : Bool) (s t : State) : Prop where
  station : t.station = s.station
  fire : t.fire = { s.fire with
    state := .sealing, forced := s.fire.forced || forced, rehome := true, recordMark := true, parked := false, deadline := none
    shutter := some (s.clock + 1000 * c.shutterLimit) }
  powered : t.powered = s.powered
  crane : StopsCrane s.crane t.crane
  sets : t.faults.current = s.faults.current ∧ t.faults.accrued = s.faults.accrued
  config : t.config = s.config
  clock : t.clock = s.clock
  sensors : t.sensors = s.sensors
  front : t.front = s.front
  rxQueue : t.line.rxQueue = s.line.rxQueue
  standing : s.fire.recordMark = true → t.faults = s.faults ∧ t.queue = s.queue

/-- A crane with a named step reports it as it stops. -/
theorem emergencyStop_reports {s : State} (h : s.crane.mode ≠ .stopped) :
    (emergencyStop s).crane.report = some (s.stopReport s.crane.toName (s.crane.mode == .homing || s.crane.homingStopped)) := by
  unfold emergencyStop
  rw [if_neg h]
  rfl

/-- Its first report keeps a job with the bin on the fork under a LADEN record. -/
def KeepsLaden (cause : Cause) (s t : State) : Prop :=
  ∀ st j, s.fire.recordMark = false → s.crane.mode ≠ .stopped → s.crane.toName = some st → s.job st.job = some j →
    (∀ k ∈ s.queue.jobs, k.num = st.job → k = j) → j.stage = .toPlace ∨ j.stage = .placing → s.sensors.fbn = true →
    t.job st.job = some j ∧ t.faults.suspension = some
      { kind := .laden, job := j.num, stage := j.stage, done := st.done, cause := cause, travel := s.crane.travel.count
        lift := s.crane.lift.count, primary := s.primary, step := st.kind, homed := false }

theorem failable_of_stage {j : Job} (h : j.stage = .toPlace ∨ j.stage = .placing ∨ j.stage = .toPick ∨ j.stage = .picking) : j.failable = false := by
  rcases h with h | h | h | h <;> simp [Job.failable, Job.waitingFetch, h]

theorem forceSeal_sealed {c : Config} {cause : Cause} {forced : Bool} {s : State} (hc : s.cfg = some c) (still : StillWhenStopped s.crane)
    (held : s.crane.held = none) (scl : s.fire.scl = false) :
    ForceSealed c forced s (settle (forceSeal cause forced s)) ∧ KeepsLaden cause s (settle (forceSeal cause forced s)) := by
  obtain ⟨k, hk, stops⟩ := emergencyStop_stopsCrane still
  obtain ⟨w, hw, fails, standing, first⟩ := forceSeal_eq (cause := cause) (forced := forced) hk
  have crane : w.crane = k := fails.crane (by show k.mode ≠ _; rw [stops.mode]; exact (nomatch ·))
  have only : OnlyWrites (enterSealing w) := by
    refine onlyWrites_sealing ?_ ?_ ?_ ?_ ?_ (by rw [fails.fire]; exact scl) <;> rw [crane]
    · exact stops.mode
    · exact stops.step
    · exact stops.held.trans held
    · exact stops.homing
    · exact stops.clearing
  obtain ⟨d, m, settled, _⟩ := only.settle_eq
  have eq := enterSealing_eq (c := c) (s := w) (fails.cfg.trans hc)
  rw [hw, settled, eq]
  obtain ⟨g, n, counters, line⟩ := fails.line
  refine ⟨⟨fails.station, ?_, fails.powered, ?_, fails.sets, fails.config, fails.clock, fails.sensors, fails.front, ?_, fun mark => by rw [standing mark]; exact ⟨rfl, rfl⟩⟩, ?_⟩
  · show ({ w.fire with
      state := .sealing, parked := false, deadline := none, shutter := some (w.clock + 1000 * c.shutterLimit) } : FireUnit) = _
    rw [fails.fire, fails.clock]
    rfl
  · show StopsCrane s.crane w.crane
    rw [crane]
    exact stops
  · show w.line.rxQueue = _
    rw [line]
    rfl
  · intro st j mark moving named job alone stage fbn
    show w.job st.job = _ ∧ w.faults.suspension = _
    have report := emergencyStop_reports moving
    rw [hk] at report
    have laden := disposeActive_laden (cause := cause) (o := .fireStop) (s := forceStopped k forced s) (by exact report) (by exact named) (by exact job) stage
      (by exact stops.held.trans held) fbn
    rw [first mark, laden, failWaiting_faults, failWaiting_job fun k hk hn => ?_]
    · exact ⟨job, rfl⟩
    · rw [alone k hk hn]
      exact failable_of_stage (stage.elim .inl fun h => .inr (.inl h))

/-! ## What a severe fault raised does to the crane before it is dealt with (R52) -/

/-- `t` is `a` but for its axes, brakes and fork, and the sensors: the crane is in the same work. -/
structure SameWork (a t : State) : Prop where
  state : t = { a with crane := t.crane, sensors := t.sensors }
  mode : t.crane.mode = a.crane.mode
  step : t.crane.step = a.crane.step
  named : t.crane.named = a.crane.named
  held : t.crane.held = a.crane.held
  homing : t.crane.homing = a.crane.homing
  clearing : t.crane.clearing = a.crane.clearing
  counts : t.crane.travel.count = a.crane.travel.count ∧ t.crane.lift.count = a.crane.lift.count
  quiet : a.crane.mode = .stopped → t.crane.travel.Quiet ∧ t.crane.lift.Quiet

/-- `x` is `a` with the motion that raised a fault ended, if any was. -/
structure MotionEnded (a x : State) : Prop where
  state : x = { a with crane := x.crane, sensors := x.sensors }
  still : StillWhenStopped x.crane
  held : x.crane.held = a.crane.held
  counts : x.crane.travel.count = a.crane.travel.count ∧ x.crane.lift.count = a.crane.lift.count
  moving : a.crane.mode ≠ .stopped → a.crane.mode ≠ .clearing → x.crane.mode ≠ .stopped
  named : a.crane.mode = .stopping ∨ a.crane.mode = .step → a.crane.held = none → ∀ st, a.crane.step = some st →
    x.crane.toName = some (st.naming false)
  waits : a.crane.mode = .writeWait → a.crane.step = none → x.crane.mode = .writeWait ∧ x.crane.step = none

section
variable {a t : State} (still : CraneHeld a)
include still

theorem SameWork.refl : SameWork a a :=
  ⟨rfl, rfl, rfl, rfl, rfl, rfl, rfl, ⟨rfl, rfl⟩, fun h => ⟨(still.still h).1, (still.still h).2.1⟩⟩

theorem SameWork.motionEnded (h : SameWork a t) : MotionEnded a t where
  state := h.state
  still := ⟨fun hm => ⟨(h.quiet (h.mode ▸ hm)).1, (h.quiet (h.mode ▸ hm)).2, by rw [h.step]; exact (still.still (h.mode ▸ hm)).2.2⟩,
    fun hh => by rw [h.mode]; rw [h.homing] at hh; exact still.homing hh,
    fun hh => by rw [h.mode]; rw [h.clearing] at hh; exact still.clearing hh⟩
  held := h.held
  counts := h.counts
  moving stopped _ := by rw [h.mode]; exact stopped
  named _ _ st step := by
    unfold Crane.toName
    rw [h.step, step]
  waits mode step := ⟨h.mode.trans mode, h.step.trans step⟩

theorem SameWork.endMotion (h : SameWork a t) : MotionEnded a (endMotion t) := by
  have eq (k : Crane) (hk : (Machine.endMotion t).crane = k) : Machine.endMotion t = { a with crane := k, sensors := t.sensors } := by
    have ended : Machine.endMotion t = { t with crane := k } := by
      rw [← hk]
      rfl
    exact ended.trans (congrArg (fun x : State => { x with crane := k }) h.state)
  have homing (hm : a.crane.mode ≠ .homing) : t.crane.homing = none := by
    rw [h.homing]
    exact still.stillWhenStopped.homing_none hm
  have clearing (hm : a.crane.mode ≠ .clearing) : t.crane.clearing = none := by
    rw [h.clearing]
    exact still.stillWhenStopped.clearing_none hm
  have unchanged (hk : (Machine.endMotion t).crane = t.crane) : MotionEnded a (Machine.endMotion t) := by
    have : Machine.endMotion t = t := (eq _ hk).trans h.state.symm
    rw [this]
    exact h.motionEnded still
  have idles (k : Crane) (hk : (Machine.endMotion t).crane = k) (mode : k.mode = .idle) (held : k.held = t.crane.held) (home : k.homing = none)
      (clear : k.clearing = none) (axes : k.travel = t.crane.travel ∧ k.lift = t.crane.lift) (was : a.crane.mode ≠ .stopping ∧ a.crane.mode ≠ .writeWait)
      (names : a.crane.mode = .step → ∀ st, t.crane.step = some st → k.toName = some (st.naming false)) :
      MotionEnded a (Machine.endMotion t) := by
    rw [eq k hk]
    refine ⟨rfl, ⟨fun hm => ?_, fun hh => ?_, fun hh => ?_⟩, held.trans h.held, ?_, fun _ _ => ?_,
      fun hm _ st step => ?_, fun hm => absurd hm was.2⟩
    · cases mode.symm.trans hm
    · rw [home] at hh; cases hh
    · rw [clear] at hh; cases hh
    · show k.travel.count = _ ∧ k.lift.count = _
      rw [axes.1, axes.2]
      exact h.counts
    · show k.mode ≠ _
      rw [mode]
      exact (nomatch ·)
    · exact names (hm.resolve_left was.1) st (h.step.trans step)
  unfold Machine.endMotion State.onCrane at eq unchanged idles ⊢
  cases hm : a.crane.mode
  case idle => exact unchanged (by simp only [h.mode, hm])
  case writeWait => exact unchanged (by simp only [h.mode, hm])
  case stopped => exact unchanged (by simp only [h.mode, hm])
  case homing =>
    refine idles { t.crane with mode := .idle, homing := none, homeTimer := none } (by simp only [h.mode, hm]) rfl rfl rfl
      (clearing (by rw [hm]; exact (nomatch ·))) ⟨rfl, rfl⟩ (by rw [hm]; exact ⟨(nomatch ·), (nomatch ·)⟩)
      (by rw [hm]; exact (nomatch ·))
  case step =>
    cases st : t.crane.step with
    | none => exact unchanged (by simp only [h.mode, hm, st])
    | some x =>
      exact idles { t.crane with mode := .idle, step := none, named := some (x.naming false) } (by simp only [h.mode, hm, st]) rfl rfl
        (homing (by rw [hm]; exact (nomatch ·))) (clearing (by rw [hm]; exact (nomatch ·))) ⟨rfl, rfl⟩ (by rw [hm]; exact ⟨(nomatch ·), (nomatch ·)⟩)
        fun _ y step => by
          obtain rfl : x = y := Option.some.inj (st.symm.trans step)
          rfl
  case stopping =>
    cases st : t.crane.step with
    | none => exact unchanged (by simp only [h.mode, hm, st])
    | some x =>
      rw [eq { t.crane with step := none, named := some (x.naming false) } (by simp only [h.mode, hm, st])]
      refine ⟨rfl, ⟨fun hs => ?_, fun hh => ?_, fun hh => ?_⟩, h.held, h.counts, fun _ _ => ?_, fun _ held y step => ?_,
        fun hs => ?_⟩
      · cases (h.mode.trans hm).symm.trans hs
      · have hh : t.crane.homing.isSome = true := hh
        rw [homing (by rw [hm]; exact (nomatch ·))] at hh
        cases hh
      · have hh : t.crane.clearing.isSome = true := hh
        rw [clearing (by rw [hm]; exact (nomatch ·))] at hh
        cases hh
      · show t.crane.mode ≠ _
        rw [h.mode, hm]
        exact (nomatch ·)
      · obtain rfl : x = y := Option.some.inj ((st.symm.trans h.step).trans step)
        simp only [Crane.toName, h.mode, hm]
      · rw [hm] at hs
        cases hs
  case clearing =>
    rw [eq { t.crane.onBoth (Axis.halt t.clock) with mode := .stopped, clearing := none, fork := none, forkTimer := none }
      (by simp only [h.mode, hm])]
    refine ⟨rfl, ⟨fun _ => ⟨halt_quiet _ _, halt_quiet _ _, ?_⟩, fun hh => ?_, (nomatch ·)⟩, h.held, h.counts, fun _ unclear => absurd hm unclear,
      fun hs => ?_, fun hs => ?_⟩
    · exact h.step.trans (still.clears hm).2
    · have hh : t.crane.homing.isSome = true := hh
      rw [homing (by rw [hm]; exact (nomatch ·))] at hh
      cases hh
    · rw [hm] at hs
      rcases hs with hs | hs <;> cases hs
    · rw [hm] at hs
      cases hs

omit still in
theorem SameWork.onAxis (h : SameWork a t) (ax : AxisName) {f : Axis → Axis} (count : ∀ x, (f x).count = x.count)
    (quiet : ∀ x, x.Quiet → (f x).Quiet) : SameWork a (t.onAxis ax f) := by
  cases ax
  · exact ⟨congrArg (fun x : State => x.onAxis .travel f) h.state, h.mode, h.step, h.named, h.held, h.homing, h.clearing,
      ⟨(count _).trans h.counts.1, h.counts.2⟩, fun hm => ⟨quiet _ (h.quiet hm).1, (h.quiet hm).2⟩⟩
  · exact ⟨congrArg (fun x : State => x.onAxis .lift f) h.state, h.mode, h.step, h.named, h.held, h.homing, h.clearing,
      ⟨h.counts.1, (count _).trans h.counts.2⟩, fun hm => ⟨(h.quiet hm).1, quiet _ (h.quiet hm).2⟩⟩

omit still in
theorem SameWork.halted (h : SameWork a t) (ax : AxisName) (clock : Nat) : SameWork a (t.onAxis ax (Axis.halt clock)) :=
  h.onAxis ax (fun _ => rfl) fun _ _ => halt_quiet _ _

/-- A fault of one axis ends its own motion, if it has any (R52). -/
theorem SameWork.axisFault (h : SameWork a t) (f : FaultName) (ax : AxisName) :
    ∃ x, axisFault f ax t = raise f x ∧ MotionEnded a x ∧ x.sensors = t.sensors := by
  unfold Machine.axisFault
  split
  · exact ⟨_, rfl, (h.halted ax t.clock).endMotion still, by cases ax <;> rfl⟩
  · exact ⟨t, rfl, h.motionEnded still, rfl⟩

end

/-- BIN_LOST in a carry ends both axes' motion and the carry, and raises its fault (R63). -/
theorem binLost_raises {now : Now} {s a : State} (ha : a = s.arrive now) (hp : s.powered = true) (still : CraneHeld a)
    (carries : a.crane.carry = true) :
    ∃ x, exec (.binLost now) s = .next (settle (raise .binLost x)) ∧ MotionEnded a x ∧ x.sensors.fbn = false := by
  have dropped : SameWork a ((a.setSensors { a.sensors with fbn := false }).onCrane fun c => { c with carry := false }) :=
    ⟨rfl, rfl, rfl, rfl, rfl, rfl, rfl, ⟨rfl, rfl⟩, (SameWork.refl still).quiet⟩
  exact ⟨_, (whenOn_at ha hp).trans (congrArg _ (if_pos (by exact carries))),
    ((dropped.halted .travel a.clock).halted .lift a.clock).endMotion still, rfl⟩

/-- Each row that raises a severe fault ends the motion that raised it, raises it, and goes on to the consequences. -/
theorem RaisesSevere.raises {now : Now} {s a : State} {i : Instr} {f : FaultName} (ha : a = s.arrive now) (hp : s.powered = true)
    (still : CraneHeld a) (h : RaisesSevere now a i f) :
    f.severe = true ∧ ∃ x, exec i s = .next (settle (raise f x)) ∧ MotionEnded a x ∧ (f ≠ .binLost → x.sensors.fbn = a.sensors.fbn) := by
  have same : SameWork a a := .refl still
  have halved (t : State) (ht : SameWork a t) : SameWork a (haltBoth t) := (ht.halted .travel t.clock).halted .lift t.clock
  have fork {t : State} (ht : SameWork a t) : SameWork a (t.onCrane fun c => { c with fork := none, forkTimer := none }) :=
    ⟨congrArg (fun x : State => x.onCrane fun c => { c with fork := none, forkTimer := none }) ht.state, ht.mode, ht.step, ht.named, ht.held,
      ht.homing, ht.clearing, ht.counts, ht.quiet⟩
  have sensed (y : Sensors) : SameWork a (a.setSensors y) :=
    ⟨rfl, rfl, rfl, rfl, rfl, rfl, rfl, ⟨rfl, rfl⟩, same.quiet⟩
  rcases h with ⟨ax, rfl, rfl⟩ | ⟨w, rfl, rfl⟩ | ⟨ax, due, rfl, rfl, stall, late, driven⟩ | ⟨rfl, rfl, driven⟩ | ⟨rfl, rfl, unextended⟩
    | ⟨due, rfl, rfl, forking, timer, late⟩ | ⟨rfl, rfl, carries⟩
  · refine ⟨rfl, ?_⟩
    obtain ⟨x, hx, ended, sensors⟩ := (same.onAxis ax (f := fun y => { y with phaseA := !(a.axis ax).phaseA, phaseB := !(a.axis ax).phaseB })
      (fun _ => rfl) fun _ hq => ⟨hq.duty, hq.next, hq.move⟩).axisFault still .encoder ax
    exact ⟨x, (whenOn_at (act := fun t => encoderLost ax (!(t.axis ax).phaseA) (!(t.axis ax).phaseB) t) ha hp).trans
      (congrArg (fun t => Host.Outcome.next (settle t)) hx), ended, fun _ => by rw [sensors]; cases ax <;> rfl⟩
  · refine ⟨rfl, ?_⟩
    obtain ⟨x, hx, ended, sensors⟩ := (sensed (setLimit w a.sensors)).axisFault still .limit (limitAxis w)
    exact ⟨x, (whenOn_at (act := fun t => settle (axisFault .limit (limitAxis w) (t.setSensors (setLimit w t.sensors)))) ha hp).trans
      (congrArg (fun t => Host.Outcome.next (settle t)) hx), ended, fun _ => by rw [sensors]; cases w <;> rfl⟩
  · refine ⟨rfl, ?_⟩
    obtain ⟨x, hx, ended, sensors⟩ := same.axisFault still .stall ax
    refine ⟨x, (whenOn_at ha hp).trans (congrArg _ ?_), ended, fun _ => by rw [sensors]⟩
    unfold stallRunsOut
    rw [if_pos (by simp [due_of stall late, driven]), hx]
  · refine ⟨rfl, _, (whenOn_at ha hp).trans (congrArg _ (if_neg ?_)), (halved _ (sensed { a.sensors with drdy := false })).endMotion still, fun _ => rfl⟩
    rcases driven with h | h <;> simp [Crane.still, h]
  · refine ⟨rfl, _, (whenOn_at ha hp).trans (congrArg _ (if_neg ?_)),
      (fork ((sensed { a.sensors with fkc := false }).halted .travel a.clock)).endMotion still, fun _ => rfl⟩
    rcases unextended with h | h <;> simp [Crane.extending, h]
  · refine ⟨rfl, _, (whenOn_at ha hp).trans (congrArg _ (if_pos ?_)), (fork same).endMotion still, fun _ => rfl⟩
    simp [due_of timer late, Option.isSome_iff_ne_none.mpr forking]
  · obtain ⟨x, run, ended, _⟩ := binLost_raises ha hp still carries
    exact ⟨rfl, x, run, ended, fun h => absurd rfl h⟩

/-- A severe fault raised while a shutdown stops the crane seals by force (R150). -/
theorem raise_sealed {f : FaultName} {s : State} (severe : f.severe = true) (station : s.station = .shutdown)
    (state : s.fire.state = .halting ∨ s.fire.state = .clearing) : raise f s = forceSeal .fault false (recordFault f s) := by
  unfold raise
  dsimp only
  rw [if_pos severe]
  simp only [recordFault_station, station, recordFault_fire]
  rcases state with h | h <;> simp only [h]

/-- Settles O47. -/
theorem deadlineOrFaultForcesSealing : Obligations.DeadlineOrFaultForcesSealing := by
  unfold Obligations.DeadlineOrFaultForcesSealing
  intro now c s a ha hp hc
  have powered : a.powered = true := by rw [ha]; exact hp
  have closing {t : State} (on : t.powered = true) (state : t.fire.state = .sealing) : t.outputs.shc = true := by
    simp [State.outputs, on, state]
  have zero {t : State} (travel : t.crane.travel.Quiet) (lift : t.crane.lift.Quiet) : t.outputs.tspDuty = 0 ∧ t.outputs.vspDuty = 0 := by
    simp [State.outputs, travel.duty, lift.duty]
  refine ⟨fun due timer early => (whenOn_at ha hp).trans (congrArg _ (if_neg (by simp [not_due_of timer early]))),
    fun state scl held still => ⟨fun due timer late => ⟨_, whenOn_at ha hp, ?_⟩, fun i f raises station => ?_⟩⟩
  · have eq : deadlineRunsOut a = settle (forceSeal .fire true a) := by
      unfold deadlineRunsOut
      rw [if_pos (due_of timer late)]
      rcases state with h | h <;> simp only [h]
    obtain ⟨done, _⟩ := forceSeal_sealed (cause := .fire) (forced := true) hc still.stillWhenStopped held scl
    rw [eq]
    obtain ⟨tsp, vsp⟩ := zero done.crane.travel done.crane.lift
    refine ⟨done.station, ?_, ?_, ?_, ?_, ?_, ?_, closing (done.powered.trans powered) (by rw [done.fire]), done.crane.mode, done.crane.travel,
      done.crane.lift, tsp, vsp, done.sets.1, done.config, done.clock, done.sensors, done.front, done.rxQueue, done.crane.counts.1,
      done.crane.counts.2⟩
    all_goals rw [done.fire]
    exact Bool.or_true _
  · obtain ⟨severe, x, run, ended, fbn⟩ := raises.raises ha hp still
    have xstation : x.station = .shutdown := by rw [ended.state]; exact station
    have xfire : x.fire = a.fire := by rw [ended.state]
    have xconfig : x.config = a.config := by rw [ended.state]
    have xqueue : x.queue = a.queue := by rw [ended.state]
    have xfaults : x.faults = a.faults := by rw [ended.state]
    have xcfg : (recordFault f x).cfg = some c := by
      rw [← hc]
      simp only [State.cfg, recordFault_station, recordFault_config, xstation, station, xconfig]
    rw [raise_sealed severe xstation (by rw [xfire]; exact state)] at run
    obtain ⟨done, laden⟩ := forceSeal_sealed (cause := .fault) (forced := false) (s := recordFault f x) xcfg ended.still (ended.held.trans held)
      (by rw [recordFault_fire, xfire]; exact scl)
    obtain ⟨tsp, vsp⟩ := zero done.crane.travel done.crane.lift
    refine ⟨_, run, done.station.trans xstation, ?_, ?_, ?_, ?_, ?_, ?_, closing (done.powered.trans ?_) (by rw [done.fire]), done.crane.mode,
      done.crane.travel, done.crane.lift, tsp, vsp, ?_, ?_, done.config.trans xconfig, done.clock.trans (by rw [ended.state]; rfl),
      done.front.trans (by rw [ended.state]; rfl), done.rxQueue.trans (by rw [ended.state]; rfl), done.crane.counts.1.trans ended.counts.1,
      done.crane.counts.2.trans ended.counts.2, fun mark => ?_, fun st j mark mode step names job alone stage bin lost => ?_⟩
    · rw [done.fire]
    · rw [done.fire]
      show (x.fire.forced || false) = _
      rw [xfire, Bool.or_false]
    · rw [done.fire]
    · rw [done.fire]
    · rw [done.fire]
    · rw [done.fire, show (recordFault f x).clock = a.clock by rw [recordFault_clock, ended.state]]
    · rw [ended.state]; exact powered
    · rw [done.sets.1]; exact inSet_or_bit _ _
    · rw [done.sets.2]; exact inSet_or_bit _ _
    · obtain ⟨faults, queue⟩ := done.standing (by rw [recordFault_fire, xfire]; exact mark)
      rw [faults, queue]
      exact ⟨congrArg (·.suspension) xfaults, xqueue⟩
    · have moving := ended.moving (by rw [mode]; exact (nomatch ·)) (by rw [mode]; exact (nomatch ·))
      have named := ended.named (.inl mode) held st step
      have primary : (settle (forceSeal .fault false (recordFault f x))).primary = (recordFault f x).primary := by
        simp only [State.primary, done.sets.1]
      have kept := laden (st.naming false) j (by rw [recordFault_fire, xfire]; exact mark) moving named
        (by show x.job st.job = _; rw [names]; unfold State.job; rw [xqueue]; exact job)
        (fun k hk hn => alone k (by rw [← xqueue]; exact hk) (hn.trans names)) stage ((fbn lost).trans bin)
      rw [primary]
      refine ⟨names ▸ kept.1, kept.2.trans ?_⟩
      rw [recordFault_crane, ended.counts.1, ended.counts.2]
      rfl

end Sys2Proof.Machine
end

section
/-! SUPPORT. A controlled stop carried out in HALTING, and the clearing move (R64, R66, R67, R145 to R148). -/

namespace Sys2Proof.Machine

set_option Elab.async false

open Sys2Proof

/-! ## Writes alone -/

/-- Whatever the directory and the memory hold, nothing but writes follows. -/
def WritesAlone (s : State) : Prop :=
  ∀ d m, progress { s with dir := d, memory := m } = (fillOwed { s with dir := d, memory := m } <|> beginWrite { s with dir := d, memory := m })

theorem OnlyWrites.alone {s : State} (h : OnlyWrites s) : WritesAlone s := fun d m => (h.withDir d m).progress_eq

theorem WritesAlone.settleWith_eq {s : State} (h : WritesAlone s) (n : Nat) :
    ∃ d m, settleWith n s = { s with dir := d, memory := m } ∧ SameSlots s.dir d := by
  refine settleWith_keeps (P := fun v => ∃ d m, v = { s with dir := d, memory := m } ∧ SameSlots s.dir d) ?_ n ⟨s.dir, s.memory, rfl, .refl _⟩
  rintro _ u hu ⟨d, m, rfl, hd⟩
  rw [h d m] at hu
  rcases orElse_cases hu with hu | hu
  · obtain ⟨e, rfl, he⟩ := fillOwed_sameSlots hu
    exact ⟨e, m, rfl, hd.trans he⟩
  · obtain ⟨e, m', rfl, he⟩ := beginWrite_sameSlots hu
    exact ⟨e, m', rfl, hd.trans he⟩

/-- Two consequences, and then writes alone. -/
theorem WritesAlone.settle_of_two {s m t : State} (h : WritesAlone t) (hs : progress s = some m) (hm : progress m = some t) :
    ∃ d x, settle s = { t with dir := d, memory := x } ∧ SameSlots t.dir d := by
  have : settle s = settleWith 62 t := by
    show settleWith (62 + 1 + 1) s = _
    simp [settleWith, hs, hm]
  rw [this]
  exact h.settleWith_eq 62

theorem lt_of_getAt {α : Type} {i : Nat} {x : α} {l : List α} (h : getAt i l = some x) : i < l.length := by
  induction l generalizing i with
  | nil => simp at h
  | cons y ys ih =>
    cases i with
    | zero => simp
    | succ k => simpa using ih h

/-- A move capped at step 1 starts no higher. -/
theorem startStep_one (ac : AxisConfig) (d : Nat) : startStep ac 1 d ≤ 1 := by
  unfold startStep
  rw [if_neg (by omega), if_neg (by omega)]
  split <;> omega

theorem getAt_map {α β : Type} (f : α → β) (i : Nat) (l : List α) : getAt i (l.map f) = (getAt i l).map f := by
  induction l generalizing i with
  | nil => cases i <;> rfl
  | cons x xs ih =>
    cases i with
    | zero => rfl
    | succ k => exact ih k

/-- Writes leave every slot in its state. -/
theorem SameSlots.slotIs {s : State} {d : Directory} (h : SameSlots s.dir d) (m : List Host.Cell) (ad : SlotAddr) (st : SlotState) :
    ({ s with dir := d, memory := m } : State).slotIs ad st = s.slotIs ad st := by
  have same (i : Nat) : (getAt i d.records).map SlotRec.state = (getAt i s.dir.records).map SlotRec.state := by
    have hi := congrArg (fun l => (getAt i l).map Prod.fst) h.slots
    simp only [getAt_map, Option.map_map] at hi
    exact hi
  have hc : ({ s with dir := d, memory := m } : State).cfg = s.cfg := rfl
  unfold State.slotIs State.slotRec
  simp only [hc]
  cases s.cfg with
  | none => rfl
  | some c =>
    dsimp only
    split
    · rw [same]
    · rfl

/-! ## The answer to "clear of the shutter plane?" (R147, R148) -/

/-- `u` follows `w` when the crane has been asked whether it is clear: the work disposed of stands as it is. -/
structure AskedClear (w u : State) : Prop where
  station : u.station = w.station
  mark : u.fire.recordMark = w.fire.recordMark
  counts : u.crane.travel.count = w.crane.travel.count ∧ u.crane.lift.count = w.crane.lift.count
  record : u.faults.suspension = w.faults.suspension
  queue : u.queue = w.queue
  frames : ∀ x ∈ w.line.general, ∃ y ∈ u.line.general, y.body = x.body ∧ y.dest = x.dest
  slots : ∀ ad, w.slotIs ad .held = true → u.slotIs ad .held = true

theorem AskedClear.sealing {w u : State} (h : AskedClear w u) : AskedClear w (enterSealing u) :=
  ⟨h.station, h.mark, h.counts, h.record, h.queue, h.frames, h.slots⟩

theorem AskedClear.forceStopped {w u : State} {k : Crane} {forced : Bool} (h : AskedClear w u) (stops : StopsCrane u.crane k)
    (mark : w.fire.recordMark = true) : AskedClear w (forceStopped k forced u) :=
  ⟨h.station, mark.symm, ⟨stops.counts.1.trans h.counts.1, stops.counts.2.trans h.counts.2⟩, h.record, h.queue, h.frames, h.slots⟩

theorem AskedClear.recordFault {w u : State} (h : AskedClear w u) (f : FaultName) : AskedClear w (recordFault f u) := by
  refine ⟨h.station, h.mark, h.counts, h.record, h.queue, fun x hx => ?_, h.slots⟩
  obtain ⟨y, hy, body, dest⟩ := h.frames x hx
  exact ⟨TxEntry.unreport f y, List.mem_map_of_mem hy, body, dest⟩

/-- The station in HALTING as its first report comes: the crane stopped and still, nothing held. -/
structure StoppedHalting (c : Config) (w : State) : Prop where
  cfg : w.cfg = some c
  station : w.station = .shutdown
  state : w.fire.state = .halting
  scl : w.fire.scl = false
  mark : w.fire.recordMark = true
  mode : w.crane.mode = .stopped
  travel : w.crane.travel.Quiet
  lift : w.crane.lift.Quiet
  step : w.crane.step = none
  held : w.crane.held = none
  homing : w.crane.homing = none
  clearing : w.crane.clearing = none

section
variable {c : Config} {w : State} (h : StoppedHalting c w)
include h

theorem askClear_clear (homed : w.crane.travel.homed = true) (clear : c.t0 + c.clearBay * c.cb ≤ w.crane.travel.count + c.window) :
    askClear w = enterSealing w := by
  unfold askClear
  simp only [h.cfg]
  rw [if_neg (by simp [homed]), if_pos (by unfold clearPosition; omega)]

theorem askClear_unhomed (homed : w.crane.travel.homed = false) : askClear w = cannotClear w := by
  unfold askClear
  simp only [h.cfg]
  rw [if_pos (by simp [homed])]

/-- The crane not clear: the station goes to CLEARING. -/
theorem askClear_unclear (homed : w.crane.travel.homed = true) (unclear : w.crane.travel.count + c.window < c.t0 + c.clearBay * c.cb) :
    askClear w = (if w.sensors.fkc then clearTravel c (w.onFire fun f => { f with state := .clearing })
      else beginFork .retract ((w.onFire fun f => { f with state := .clearing }).onCrane fun x =>
        { x with mode := .clearing, clearing := some .retract })) := by
  have open' : (w.onFire fun f => { f with state := .clearing }).outputsHeld = false := by
    simp [State.outputsHeld, State.onFire, h.station]
  unfold askClear
  simp only [h.cfg]
  rw [if_neg (by simp [homed]), if_neg (by unfold clearPosition; omega)]
  unfold giveClearing
  dsimp only
  rw [if_neg (by simpa using open')]
  cases fork : w.sensors.fkc <;> simp [State.onFire, fork]

/-- The travel axis driven toward the clear bay at cap 1. -/
def Axis.clears (x : Axis) (c : Config) (clock : Nat) : Axis :=
  Axis.startMove c.travel clock (c.t0 + c.clearBay * c.cb) 1 x

/-- The station with its clearing move under way. -/
def clearingDriven (c : Config) (w : State) : State :=
  { w with
    fire := { w.fire with state := .clearing }
    crane := { w.crane with mode := .clearing, clearing := some .moving, travel := w.crane.travel.clears c w.clock } }

theorem clearTravel_driven (homed : w.crane.travel.homed = true) (unclear : w.crane.travel.count + c.window < c.t0 + c.clearBay * c.cb)
    (centred : w.sensors.fkc = true) (ready : w.sensors.drdy = true) :
    clearTravel c (w.onFire fun f => { f with state := .clearing }) = clearingDriven c w := by
  have cfg : (w.onFire fun f => { f with state := .clearing }).cfg = some c := h.cfg
  have far : ¬ dist (bayCentre c c.clearBay) w.crane.travel.count ≤ c.window := by unfold dist bayCentre; omega
  unfold clearTravel requestMove
  simp only [cfg]
  rw [if_neg (by simp [State.axis, Crane.axis, h.travel.move, homed, State.axisHeld, State.outputsHeld, h.station, centred]),
    if_neg (by exact far), if_neg (by simp [ready])]
  rfl

/-- The station whose clearing move the drive refuses: its motion ended in STOPPED (R51, R52). -/
def clearingUndriven (w : State) : State :=
  { w with
    fire := { w.fire with state := .clearing }
    crane := { w.crane with
      mode := .stopped, clearing := none, fork := none, forkTimer := none
      travel := (w.crane.travel.halt w.clock).halt w.clock, lift := (w.crane.lift.halt w.clock).halt w.clock } }

theorem clearTravel_undriven (homed : w.crane.travel.homed = true) (unclear : w.crane.travel.count + c.window < c.t0 + c.clearBay * c.cb)
    (centred : w.sensors.fkc = true) (ready : w.sensors.drdy = false) :
    clearTravel c (w.onFire fun f => { f with state := .clearing }) = raise .drive (clearingUndriven w) := by
  have cfg : (w.onFire fun f => { f with state := .clearing }).cfg = some c := h.cfg
  have far : ¬ dist (bayCentre c c.clearBay) w.crane.travel.count ≤ c.window := by unfold dist bayCentre; omega
  unfold clearTravel requestMove
  simp only [cfg]
  rw [if_neg (by simp [State.axis, Crane.axis, h.travel.move, homed, State.axisHeld, State.outputsHeld, h.station, centred]),
    if_neg (by exact far), if_pos (by simp [ready])]
  rfl

/-- DRIVE raised there seals by force, the first report of the shutdown standing. -/
theorem raise_clearingUndriven : ∃ k, StopsCrane (clearingUndriven w).crane k ∧
    raise .drive (clearingUndriven w) = enterSealing (forceStopped k false (recordFault .drive (clearingUndriven w))) := by
  have still : StillWhenStopped (clearingUndriven w).crane := by
    refine ⟨fun _ => ⟨halt_quiet _ _, halt_quiet _ _, h.step⟩, fun hh => ?_, fun hh => ?_⟩
    · have hh : w.crane.homing.isSome = true := hh
      rw [h.homing] at hh
      cases hh
    · cases hh
  obtain ⟨k, hk, stops⟩ := emergencyStop_stopsCrane (s := recordFault .drive (clearingUndriven w)) still
  obtain ⟨v, hv, _, standing, _⟩ := forceSeal_eq (cause := .fault) (forced := false) hk
  refine ⟨k, stops, ?_⟩
  rw [raise_sealed (s := clearingUndriven w) rfl h.station (.inr rfl), hv, standing h.mark]

omit h in
/-- While the clearing move is under way, or its retract, nothing but writes follows. -/
theorem writesAlone_clearing {u : State} (state : u.fire.state = .clearing) (mode : u.crane.mode = .clearing) (step : u.crane.step = none)
    (held : u.crane.held = none) (homing : u.crane.homing = none)
    (under : (u.crane.clearing = some .moving ∧ u.crane.travel.move ≠ .none) ∨ (u.crane.clearing = some .retract ∧ u.crane.fork ≠ none)) :
    WritesAlone u := by
  intro d m
  have waits : clearProgress { u with dir := d, memory := m } = none := by
    unfold clearProgress
    rcases under with ⟨hc, hm⟩ | ⟨hc, hf⟩ <;> simp only [hc]
    · split
      · rename_i h; cases h
      · exact if_neg (by simp [hm])
      · rfl
    · split
      · exact if_neg (by simp [hf])
      · rename_i h; cases h
      · rfl
  have out : ({ u with dir := d, memory := m } : State).inService = false := by simp [State.inService, state]
  unfold progress
  simp [finishHeld_none (s := { u with dir := d, memory := m }) held, stepProgress_none (s := { u with dir := d, memory := m }) step,
    craneRests_none (s := { u with dir := d, memory := m }) (by show u.crane.mode ≠ _ ∧ u.crane.mode ≠ _; rw [mode]; exact ⟨(nomatch ·), (nomatch ·)⟩),
    waits, haltingReport, state, homedAtFront, homing, sealedByScl, reopen, opened,
    serveGive_none (s := { u with dir := d, memory := m }) (fun hs => by rw [out] at hs; cases hs),
    nextStep_none (s := { u with dir := d, memory := m }) (fun hs => by rw [out] at hs; cases hs),
    selection_none (s := { u with dir := d, memory := m }) (fun hs => by rw [out] at hs; cases hs)]

/-- However the crane answers, nothing but writes follows, and the work disposed of stands. -/
theorem askClear_asked : AskedClear w (askClear w) ∧ WritesAlone (askClear w) := by
  have sealing (r : Bool) : AskedClear w (enterSealing (w.onFire fun f => { f with rehome := r }))
      ∧ WritesAlone (enterSealing (w.onFire fun f => { f with rehome := r })) :=
    ⟨⟨rfl, rfl, ⟨rfl, rfl⟩, rfl, rfl, fun x hx => ⟨x, hx, rfl, rfl⟩, fun _ hd => hd⟩,
      (onlyWrites_sealing (s := w.onFire fun f => { f with rehome := r }) h.mode h.step h.held h.homing h.clearing h.scl).alone⟩
  cases homed : w.crane.travel.homed
  · rw [askClear_unhomed h homed]
    exact sealing true
  · by_cases clear : c.t0 + c.clearBay * c.cb ≤ w.crane.travel.count + c.window
    · rw [askClear_clear h homed clear]
      exact sealing w.fire.rehome
    · rw [askClear_unclear h homed (by omega)]
      cases centred : w.sensors.fkc
      · rw [if_neg (by simp)]
        have begun : beginFork .retract ((w.onFire fun f => { f with state := .clearing }).onCrane fun x =>
            { x with mode := .clearing, clearing := some .retract }) = { w with
              fire := { w.fire with state := .clearing }
              crane := { w.crane with
                mode := .clearing, clearing := some .retract, fork := some .retract, forkTimer := some (w.inMs c.forkLimit) } } := by
          have cfg : ((w.onFire fun f => { f with state := .clearing }).onCrane fun x =>
            { x with mode := .clearing, clearing := some .retract }).cfg = some c := h.cfg
          unfold beginFork
          simp only [cfg]
          rw [if_neg (by simp [forkSensor, centred])]
          rfl
        rw [begun]
        exact ⟨⟨rfl, rfl, ⟨rfl, rfl⟩, rfl, rfl, fun x hx => ⟨x, hx, rfl, rfl⟩, fun _ hd => hd⟩,
          writesAlone_clearing rfl rfl h.step h.held h.homing (.inr ⟨rfl, (nomatch ·)⟩)⟩
      · rw [if_pos rfl]
        cases ready : w.sensors.drdy
        · rw [clearTravel_undriven h homed (by omega) centred ready]
          obtain ⟨k, stops, eq⟩ := raise_clearingUndriven h
          rw [eq]
          have asked : AskedClear w (clearingUndriven w) := ⟨rfl, rfl, ⟨rfl, rfl⟩, rfl, rfl, fun x hx => ⟨x, hx, rfl, rfl⟩, fun _ hd => hd⟩
          refine ⟨((asked.recordFault .drive).forceStopped stops h.mark).sealing, (onlyWrites_sealing ?_ ?_ ?_ ?_ ?_ ?_).alone⟩
          · exact stops.mode
          · exact stops.step
          · exact stops.held.trans h.held
          · exact stops.homing
          · exact stops.clearing
          · exact h.scl
        · rw [clearTravel_driven h homed (by omega) centred ready]
          refine ⟨⟨rfl, rfl, ⟨rfl, rfl⟩, rfl, rfl, fun x hx => ⟨x, hx, rfl, rfl⟩, fun _ hd => hd⟩,
            writesAlone_clearing rfl rfl h.step h.held h.homing (.inl ⟨rfl, (nomatch ·)⟩)⟩

end

/-! ## The stop carried out (R64, R66) -/

/-- A controlled stop is carried out once both outputs are zero and the fork rests. -/
theorem progress_stopping {s : State} (held : s.crane.held = none) (owed : s.dir.firstOwed = none) (writes : s.dir.writeList = [] ∨ s.dir.port ≠ .idle)
    (step : s.crane.step = none) (fork : s.crane.fork = none) (mode : s.crane.mode = .stopping) (still : s.crane.still = true) :
    progress s = some (stopCarriedOut s) := by
  have rests : craneRests s = some (stopCarriedOut s) := by
    unfold craneRests
    rw [if_pos (by simp [still, fork, step])]
    simp only [mode]
  unfold progress
  simp [finishHeld_none held, fillOwed_none owed, beginWrite_none writes, stepProgress_none step, rests]

/-- The report of a stop reaches the fire unit in HALTING. -/
theorem progress_haltingReport {s : State} (held : s.crane.held = none) (owed : s.dir.firstOwed = none)
    (writes : s.dir.writeList = [] ∨ s.dir.port ≠ .idle) (step : s.crane.step = none) (mode : s.crane.mode = .stopped)
    (state : s.fire.state = .halting) : progress s = some (firstStop s) := by
  have reports : haltingReport s = some (firstStop s) := if_pos ⟨state, mode⟩
  unfold progress
  simp [finishHeld_none held, fillOwed_none owed, beginWrite_none writes, stepProgress_none step,
    craneRests_none (s := s) (by rw [mode]; exact ⟨(nomatch ·), (nomatch ·)⟩), reports]

/-- The stop carried out stops the crane with its report, and changes nothing else. -/
theorem stopCarriedOut_crane (s : State) : ∃ k, stopCarriedOut s = { s with crane := k } ∧ k.mode = .stopped
    ∧ k.travel = s.crane.travel.halt s.clock ∧ k.lift = s.crane.lift.halt s.clock ∧ k.step = s.crane.step ∧ k.held = s.crane.held
    ∧ k.homing = none ∧ k.clearing = none ∧ k.report = some (s.stopReport s.crane.named s.crane.homingStopped) :=
  ⟨_, rfl, rfl, rfl, rfl, rfl, rfl, rfl, rfl, rfl⟩

/-- The station at its first report: the crane stopped and still, its report made, the mark set, the work not yet disposed of. -/
structure Reported (a v : State) (named : Option NamedStep) : Prop where
  state : v = { a with crane := v.crane, fire := v.fire }
  fire : v.fire = { a.fire with recordMark := true, rehome := a.fire.rehome || a.crane.homingStopped }
  mode : v.crane.mode = .stopped
  travel : v.crane.travel.Quiet ∧ v.crane.travel.count = a.crane.travel.count ∧ v.crane.travel.homed = a.crane.travel.homed
  lift : v.crane.lift.Quiet ∧ v.crane.lift.count = a.crane.lift.count
  step : v.crane.step = none
  held : v.crane.held = none
  homing : v.crane.homing = none
  clearing : v.crane.clearing = none
  report : v.crane.report = some
    ⟨a.sensors.fbn, a.crane.travel.count, a.crane.lift.count, named, a.crane.homingStopped⟩

/-- The last output gone to zero in HALTING, the stop is carried out and reported; the work is disposed of and the crane asked. -/
theorem dutyPeriod_reported {axis : AxisName} {a : State} (station : a.station = .shutdown) (state : a.fire.state = .halting)
    (mode : a.crane.mode = .stopping) (step : a.crane.step = none) (held : a.crane.held = none) (fork : a.crane.fork = none)
    (owed : a.dir.firstOwed = none) (writes : a.dir.writeList = [] ∨ a.dir.port ≠ .idle)
    (zero : (a.axis axis).nextDuty = some 0) (other : ∀ x, x ≠ axis → (a.axis x).duty = 0) :
    ∃ n m v, dutyPeriod axis a = settle n ∧ progress n = some m
      ∧ progress m = some (askClear (failWaiting .fireStop (disposeActive .fire .fireStop v))) ∧ Reported a v a.crane.named := by
  have period : (a.axis axis).newPeriod a.clock =
      { a.axis axis with duty := 0, nextDuty := none, brake := true, stall := none, quietSince := a.clock } := by
    unfold Axis.newPeriod
    rw [zero]
  have still : (a.onAxis axis (Axis.newPeriod a.clock)).crane.still = true := by
    cases axis
    · have lift : a.crane.lift.duty = 0 := other .lift (nomatch ·)
      have travel : (a.crane.travel.newPeriod a.clock).duty = 0 := congrArg Axis.duty period
      show ((a.crane.travel.newPeriod a.clock).duty == 0 && a.crane.lift.duty == 0) = true
      rw [travel, lift]
      rfl
    · have travel : a.crane.travel.duty = 0 := other .travel (nomatch ·)
      have lift : (a.crane.lift.newPeriod a.clock).duty = 0 := congrArg Axis.duty period
      show (a.crane.travel.duty == 0 && (a.crane.lift.newPeriod a.clock).duty == 0) = true
      rw [travel, lift]
      rfl
  have counts : (a.onAxis axis (Axis.newPeriod a.clock)).crane.travel.count = a.crane.travel.count
      ∧ (a.onAxis axis (Axis.newPeriod a.clock)).crane.lift.count = a.crane.lift.count
      ∧ (a.onAxis axis (Axis.newPeriod a.clock)).crane.travel.homed = a.crane.travel.homed := by
    cases axis
    · exact ⟨(congrArg Axis.count period).trans rfl, rfl, (congrArg Axis.homed period).trans rfl⟩
    · exact ⟨rfl, (congrArg Axis.count period).trans rfl, rfl⟩
  have kept : ∃ k : Crane, a.onAxis axis (Axis.newPeriod a.clock) = { a with crane := k } ∧ k.mode = .stopping ∧ k.step = none ∧ k.held = none
      ∧ k.fork = none ∧ k.named = a.crane.named ∧ k.homingStopped = a.crane.homingStopped := by
    cases axis <;> exact ⟨_, rfl, mode, step, held, fork, rfl, rfl⟩
  obtain ⟨k, hk, kmode, kstep, kheld, kfork, knamed, khoming⟩ := kept
  rw [hk] at still counts
  obtain ⟨x, hx, xmode, travel, lift, xstep, xheld, xhoming, xclearing, report⟩ := stopCarriedOut_crane { a with crane := k }
  have next := progress_stopping (s := { a with crane := k }) kheld owed writes kstep kfork kmode still
  rw [hx] at next
  refine ⟨{ a with crane := k }, { a with crane := x }, { a with
      crane := x, fire := { a.fire with recordMark := true, rehome := a.fire.rehome || k.homingStopped } }, ?_, next, ?_, ?_⟩
  · unfold dutyPeriod
    dsimp only
    rw [if_pos zero, hk]
  · rw [progress_haltingReport (s := { a with crane := x }) (xheld.trans kheld) owed writes (xstep.trans kstep) xmode state]
    unfold firstStop
    dsimp only
    rw [if_neg (by show a.station ≠ _; rw [station]; exact (nomatch ·)), report]
    rfl
  · refine ⟨rfl, by rw [khoming], xmode, ?_, ?_, xstep.trans kstep, xheld.trans kheld, xhoming, xclearing, ?_⟩
    · dsimp only
      rw [travel]
      exact ⟨halt_quiet _ _, counts.1, counts.2.2⟩
    · dsimp only
      rw [lift]
      exact ⟨halt_quiet _ _, counts.2.1⟩
    · rw [report, ← knamed, ← khoming, ← counts.1, ← counts.2.1]
      rfl

/-- The work disposed of at the first report. -/
def disposed (v : State) : State := failWaiting .fireStop (disposeActive .fire .fireStop v)

theorem Reported.stoppedHalting {c : Config} {a v : State} {named : Option NamedStep} (h : Reported a v named) (hc : a.cfg = some c)
    (station : a.station = .shutdown) (state : a.fire.state = .halting) (scl : a.fire.scl = false) :
    StoppedHalting c (disposed v) ∧ FailsWork v (disposed v) ∧ (disposed v).crane = v.crane := by
  have fails : FailsWork v (disposed v) := (failsWork_disposeActive _ _ _).trans (failsWork_failWaiting _ _)
  have crane : (disposed v).crane = v.crane := fails.crane (by rw [h.mode]; exact (nomatch ·))
  refine ⟨⟨?_, ?_, ?_, ?_, ?_, ?_, ?_, ?_, ?_, ?_, ?_, ?_⟩, fails, crane⟩
  · rw [fails.cfg, h.state]; exact hc
  · rw [fails.station, h.state]; exact station
  · rw [fails.fire, h.fire]; exact state
  · rw [fails.fire, h.fire]; exact scl
  · rw [fails.fire, h.fire]
  all_goals rw [crane]
  · exact h.mode
  · exact h.travel.1
  · exact h.lift.1
  · exact h.step
  · exact h.held
  · exact h.homing
  · exact h.clearing

/-- A FETCH not picked, at the first report: its slot is HELD again and its FAILED queued (R145). -/
theorem failNow_fetch {c : Config} {n : Nat} {o : FailOutcome} {ad : SlotAddr} {j : Job} {r : SlotRec} {s : State} (hc : s.cfg = some c)
    (job : s.job n = some j) (slot : j.slot = some ad) (fetch : j.kind = .fetch) (hr : s.slotRec ad = some r) (outbound : r.state = .outbound)
    (bin : r.bin = j.bin) (held : s.crane.held = none) : (failNow n o s).slotIs ad .held = true := by
  have names : namesRecord c ad = true ∧ getAt (slotIndex c ad) s.dir.records = some r := by
    unfold State.slotRec at hr
    simp only [hc] at hr
    split at hr
    · exact ⟨‹_›, hr⟩
    · cases hr
  have released := releaseFor_fetch hc slot fetch names.1 rfl names.2 outbound bin held
  rw [failNow_slotIs job, released]
  unfold State.slotIs
  rw [slotRec_at (c := c) (by exact hc) names.1 rfl]
  simp [getAt_setAt_same (lt_of_getAt names.2)]

/-- What a job failed at the first report leaves behind. -/
theorem disposed_fails {v : State} {j : Job} {n : Nat} (job : v.job n = some j) (pulls : v.front.pulling n = false)
    (room : v.line.general.length < 8) (eq : disposeActive .fire .fireStop v = setRecord none (requestFail n .fireStop v)) :
    (∀ k ∈ (disposed v).queue.jobs, k.num ≠ n) ∧ (disposed v).faults.suspension = none
      ∧ (∃ x ∈ (disposed v).line.general, x.body = .failed j.bin j.tag .fireStop ∧ x.dest = .station j.requester)
      ∧ ∀ ad, (failNow n .fireStop v).slotIs ad .held = true → (disposed v).slotIs ad .held = true := by
  have now : requestFail n .fireStop v = failNow n .fireStop v := by
    unfold requestFail
    rw [if_neg (by simp [pulls])]
  rw [now] at eq
  have drops := drops_failWaiting .fireStop (setRecord none (failNow n .fireStop v))
  unfold disposed
  rw [eq, failWaiting_faults]
  obtain ⟨queue, line, _⟩ := failNow_gone (o := .fireStop) job room
  refine ⟨fun k hk => ?_, rfl, ⟨newEntry v.line.nextOrder (.failed j.bin j.tag .fireStop) (.station j.requester) none, drops.frames _ ?_, rfl, rfl⟩,
    fun ad hd => drops.slots ad hd⟩
  · have mem : k ∈ (failNow n .fireStop v).queue.jobs := drops.jobs.subset hk
    rw [queue] at mem
    simpa using (List.mem_filter.mp mem).2
  · show _ ∈ (failNow n .fireStop v).line.general
    rw [line]
    simp [Queued]

/-- What a job kept under a record at the first report leaves behind. -/
theorem disposed_keeps {v : State} {j : Job} {n : Nat} {st : NamedStep} {kind : SuspKind} {r : StopReport} (job : v.job n = some j)
    (alone : ∀ k ∈ v.queue.jobs, k.num = n → k = j)
    (stage : j.stage = .toPlace ∨ j.stage = .placing ∨ j.stage = .toPick ∨ j.stage = .picking)
    (eq : disposeActive .fire .fireStop v = formRecord kind j st .fire r v) :
    (disposed v).job n = some j ∧ (disposed v).faults.suspension = some
      { kind := kind, job := j.num, stage := j.stage, done := st.done, cause := .fire, travel := r.travel
        lift := r.lift, primary := v.primary, step := st.kind, homed := false } := by
  unfold disposed
  rw [eq, failWaiting_faults, failWaiting_job fun k hk hn => by rw [alone k hk hn]; exact failable_of_stage stage]
  exact ⟨job, rfl⟩

/-- The clearing move at its end is done, and the station seals (R148). -/
theorem progress_clearingDone {c : Config} {s : State} (hc : s.cfg = some c) (held : s.crane.held = none) (owed : s.dir.firstOwed = none)
    (writes : s.dir.writeList = [] ∨ s.dir.port ≠ .idle) (step : s.crane.step = none) (state : s.fire.state = .clearing)
    (mode : s.crane.mode = .clearing) (clearing : s.crane.clearing = some .moving) (ended : s.crane.travel.move = .none)
    (undriven : s.crane.travel.duty = 0) : progress s = some (clearingDone s) := by
  have done : clearProgress s = some (clearingDone s) := by
    unfold clearProgress
    simp only [hc, clearing]
    exact if_pos (by simp [ended, undriven])
  have report : haltingReport s = none := if_neg fun h => by rw [state] at h; cases h.1
  unfold progress
  simp [finishHeld_none held, fillOwed_none owed, beginWrite_none writes, stepProgress_none step,
    craneRests_none (s := s) (by rw [mode]; exact ⟨(nomatch ·), (nomatch ·)⟩), report, done]

theorem clearingDone_eq (s : State) : clearingDone s = enterSealing { s with
    crane := { s.crane.onBoth (Axis.halt s.clock) with mode := .stopped, clearing := none }
    faults := { s.faults with
      suspension := s.faults.suspension.map fun r => { r with travel := s.crane.travel.count, lift := s.crane.lift.count } } } := rfl

/-- The clearing move done: the crane stopped, the record taking the counts, SEALING begun (R148). -/
theorem clearingDone_seals {c : Config} {s : State} (hc : s.cfg = some c) :
    (clearingDone s).fire = { s.fire with
        state := .sealing, parked := false, deadline := none, shutter := some (s.clock + 1000 * c.shutterLimit) }
      ∧ (clearingDone s).crane = { s.crane.onBoth (Axis.halt s.clock) with mode := .stopped, clearing := none }
      ∧ (clearingDone s).faults.suspension = s.faults.suspension.map
          (fun r => { r with travel := s.crane.travel.count, lift := s.crane.lift.count })
      ∧ (clearingDone s).queue = s.queue ∧ (clearingDone s).dir = s.dir := by
  rw [clearingDone_eq, enterSealing_eq (c := c) (by exact hc)]
  exact ⟨rfl, rfl, rfl, rfl, rfl⟩

/-- Settles O45. -/
theorem stopsAreCarriedOut : Obligations.StopsAreCarriedOut := by
  unfold Obligations.StopsAreCarriedOut
  intro now axis c s a ha hp hc station scl step held owed writes room
  refine ⟨fun state mark mode fork zero other homing clearing => ⟨_, whenOn_at ha hp, ?_⟩,
    fun goal state mode clearing homing settling target undriven quiet inside => ⟨_, whenOn_at ha hp, ?_⟩⟩
  · obtain ⟨n, m, v, eq, first, second, reported⟩ := dutyPeriod_reported station state mode step held fork owed writes zero other
    obtain ⟨stopped, fails, crane⟩ := reported.stoppedHalting hc station state scl
    obtain ⟨asked, alone⟩ := askClear_asked stopped
    obtain ⟨d, x, settled, same⟩ := alone.settle_of_two first second
    change settle n = { askClear (disposed v) with dir := d, memory := x } at settled
    change SameSlots (askClear (disposed v)).dir d at same
    rw [eq, settled]
    have vstate : v.station = a.station ∧ v.queue = a.queue ∧ v.dir = a.dir ∧ v.line = a.line ∧ v.faults = a.faults ∧ v.front = a.front
        ∧ v.sensors = a.sensors ∧ v.clock = a.clock ∧ v.cfg = a.cfg := by
      rw [reported.state]
      exact ⟨rfl, rfl, rfl, rfl, rfl, rfl, rfl, rfl, rfl⟩
    obtain ⟨vstation, vqueue, vdir, vline, vfaults, vfront, vsensors, vclock, vcfg⟩ := vstate
    have vjob (n : Nat) : v.job n = a.job n := by unfold State.job; rw [vqueue]
    have vslot (ad : SlotAddr) : v.slotRec ad = a.slotRec ad := by unfold State.slotRec; rw [vcfg, vdir]
    have fire : (disposed v).fire = { a.fire with recordMark := true, rehome := a.fire.rehome || a.crane.homingStopped } :=
      fails.fire.trans reported.fire
    have clock : (disposed v).clock = a.clock := fails.clock.trans vclock
    have sensors : (disposed v).sensors = a.sensors := fails.sensors.trans vsensors
    have homedEq : (disposed v).crane.travel.homed = a.crane.travel.homed := by rw [crane]; exact reported.travel.2.2
    have countEq : (disposed v).crane.travel.count = a.crane.travel.count := by rw [crane]; exact reported.travel.2.1
    have liftEq : (disposed v).crane.lift.count = a.crane.lift.count := by rw [crane]; exact reported.lift.2
    have failed {x : TxEntry} {b : TxBody} {dest : Dest} (hx : x ∈ (disposed v).line.general) (hb : x.body = b ∧ x.dest = dest) :
        ∃ y ∈ (askClear (disposed v)).line.general, y.body = b ∧ y.dest = dest := by
      obtain ⟨y, hy, body, station⟩ := asked.frames x hx
      exact ⟨y, hy, body.trans hb.1, station.trans hb.2⟩
    refine ⟨asked.station.trans stopped.station, asked.mark.trans stopped.mark, asked.counts.1.trans countEq, asked.counts.2.trans liftEq,
      fun homed clear => ?_, fun homed => ?_, fun homed unclear centred ready => ?_, fun unnamed => ?_, fun st j named names job only pulls => ?_⟩
    · rw [askClear_clear stopped (homedEq.trans homed) (by rw [countEq]; exact clear), enterSealing_eq stopped.cfg, clock]
      exact ⟨rfl, rfl, rfl, stopped.mode, stopped.travel, stopped.lift, by rw [fire]⟩
    · rw [askClear_unhomed stopped (homedEq.trans homed)]
      exact ⟨rfl, rfl, stopped.mode, stopped.travel, stopped.lift⟩
    · rw [askClear_unclear stopped (homedEq.trans homed) (by rw [countEq]; exact unclear), if_pos (by rw [sensors]; exact centred),
        clearTravel_driven stopped (homedEq.trans homed) (by rw [countEq]; exact unclear) (by rw [sensors]; exact centred) (by rw [sensors]; exact ready)]
      refine ⟨rfl, by show (disposed v).fire.deadline = _; rw [fire], rfl, stopped.lift, rfl, rfl, rfl, ?_, ?_, rfl⟩
      · show startStep c.travel 1 _ ≤ 1
        exact startStep_one _ _
      · show toward (disposed v).crane.travel.count _ = .up
        unfold toward
        rw [if_pos (by rw [countEq]; omega)]
    · show (askClear (disposed v)).faults.suspension = _
      rw [asked.record]
      have none_named : disposeActive .fire .fireStop v = v := disposeActive_unnamed fun r hr => by
        rw [reported.report] at hr
        cases hr
        exact unnamed
      unfold disposed
      rw [failWaiting_faults, none_named, vfaults]
    · have job' : v.job st.job = some j := by rw [names, vjob]; exact job
      have report := reported.report
      rw [named] at report
      have gone (eq : disposeActive .fire .fireStop v = setRecord none (requestFail j.num .fireStop v)) :
          (∀ k ∈ (askClear (disposed v)).queue.jobs, k.num ≠ j.num) ∧ (askClear (disposed v)).faults.suspension = none
            ∧ (∃ x ∈ (askClear (disposed v)).line.general, x.body = .failed j.bin j.tag .fireStop ∧ x.dest = .station j.requester)
            ∧ ∀ ad, (failNow j.num .fireStop v).slotIs ad .held = true → (askClear (disposed v)).slotIs ad .held = true := by
        obtain ⟨left, record, ⟨x, hx, hb⟩, slots⟩ := disposed_fails (names ▸ job') (by rw [vfront]; exact pulls) (by rw [vline]; exact room) eq
        rw [asked.queue, asked.record]
        exact ⟨left, record, failed hx hb, fun ad hd => asked.slots ad (slots ad hd)⟩
      have kept {kind : SuspKind} (stage : j.stage = .toPlace ∨ j.stage = .placing ∨ j.stage = .toPick ∨ j.stage = .picking)
          (eq : disposeActive .fire .fireStop v = formRecord kind j st .fire
            ⟨a.sensors.fbn, a.crane.travel.count, a.crane.lift.count, some st, a.crane.homingStopped⟩ v) :
          (askClear (disposed v)).job j.num = some j ∧ (askClear (disposed v)).faults.suspension = some
            { kind := kind, job := j.num, stage := j.stage, done := st.done, cause := .fire, travel := a.crane.travel.count
              lift := a.crane.lift.count, primary := a.primary, step := st.kind, homed := false } := by
        obtain ⟨stays, record⟩ := disposed_keeps (names ▸ job') (by rw [vqueue]; exact only) stage eq
        have primary : v.primary = a.primary := by unfold State.primary; rw [vfaults]
        rw [asked.record]
        refine ⟨?_, by rw [← primary]; exact record⟩
        unfold State.job at stays ⊢
        rw [asked.queue]
        exact stays
      refine ⟨fun ad r fetch stage slot hr outbound bin => ?_, fun store stage => ?_, fun stage bin => ?_, fun stage lost => ?_⟩
      · obtain ⟨left, record, frame, slots⟩ := gone ((disposeActive_unpicked report rfl job' stage reported.held).1 fetch)
        refine ⟨(same.slotIs x ad .held).trans (slots ad ?_), left, record, frame⟩
        exact failNow_fetch (vcfg.trans hc) (names ▸ job') slot fetch ((vslot ad).trans hr) outbound bin reported.held
      · exact kept (.inr (.inr stage)) ((disposeActive_unpicked report rfl job' stage reported.held).2 store)
      · exact kept (stage.elim .inl fun h => .inr (.inl h)) (disposeActive_laden report rfl job' stage reported.held bin)
      · obtain ⟨left, record, frame, _⟩ := gone (disposeActive_lost report rfl job' stage reported.held lost)
        exact ⟨left, record, frame⟩
  · have next := progress_clearingDone (s := a.onAxis .travel fun _ => { a.axis .travel with move := .none, target := none, dir := none })
      hc held owed writes step state mode clearing rfl undriven
    rw [rest_settling (axis := .travel) hc settling undriven quiet, moveRests_inside (axis := .travel) target inside]
    have only : OnlyWrites (clearingDone (a.onAxis .travel fun _ => { a.axis .travel with move := .none, target := none, dir := none })) := by
      rw [clearingDone_eq]
      exact onlyWrites_sealing rfl step held homing rfl scl
    obtain ⟨fire, crane, record, queue, dir⟩ := clearingDone_seals (c := c)
      (s := a.onAxis .travel fun _ => { a.axis .travel with move := .none, target := none, dir := none }) hc
    have settled : settle (a.onAxis .travel fun _ => { a.axis .travel with move := .none, target := none, dir := none }) =
        clearingDone (a.onAxis .travel fun _ => { a.axis .travel with move := .none, target := none, dir := none }) :=
      SettlesTo.settle_of_progress ⟨0, Nat.zero_le _, rfl, progress_atRest (only.atRest (by rw [dir]; exact owed) (by rw [dir]; exact writes))⟩ next
    rw [settled, fire, crane, record, queue, dir]
    exact ⟨rfl, rfl, rfl, rfl, halt_quiet a.clock _, halt_quiet a.clock _, rfl, rfl, rfl⟩

end Sys2Proof.Machine
end

section
/-! SUPPORT. The line unit: acquisition, the hunt, characters, frames and attempts (R189 to R200). -/

namespace Sys2Proof.Machine

set_option Elab.async false

open Sys2Proof

/-! ## The hunt (R191, R192) -/

/-- The entry reached is the first whose max start the low run does not pass. -/
theorem entryReached_eq {low i fuel : Nat} (fits : low ≤ maxStart i) {j : Nat} (hj : j ≤ i) (hf : i < j + fuel)
    (passed : ∀ k, k < i → maxStart k < low) : entryReached low j fuel = some i := by
  induction fuel generalizing j with
  | zero => omega
  | succ fuel ih =>
    unfold entryReached
    rcases Nat.lt_or_eq_of_le hj with hlt | rfl
    · rw [if_neg (by have := passed j hlt; omega)]
      exact ih hlt (by omega)
    · exact if_pos fits

theorem entryReached_none {low : Nat} (beyond : maxStart 5 < low) : entryReached low 0 6 = none := by
  have most : ∀ k < 6, maxStart k ≤ maxStart 5 := by decide
  have passed (k : Nat) (hk : k < 6) : ¬ low ≤ maxStart k := by have := most k hk; omega
  simp only [entryReached]
  rw [if_neg (passed 0 (by decide)), if_neg (passed 1 (by decide)), if_neg (passed 2 (by decide)), if_neg (passed 3 (by decide)),
    if_neg (passed 4 (by decide)), if_neg (passed 5 (by decide))]

section
variable {c : Config} {low i : Nat} {ch : LineChar} {stop : Bool} {a : State} (hc : a.cfg = some c) (hunting : a.line.mode = .hunting)
  (armed : a.line.armed = true)
include hc hunting armed

/-- A start timed in an armed hunt, by the entry its low run reaches. -/
theorem timedStart_reached (reached : entryReached low 0 6 = some i) : timedStart low ch stop a =
    if low < minStart i ∨ !(isLead ch && stop) then a.onLine (LineUnit.noMatch i)
    else if 3 ≤ (a.line.matchAt i).run then lockLine c i true (a.onLine (LineUnit.matchAt i)) else a.onLine (LineUnit.matchAt i) := by
  unfold timedStart
  simp only [hc, reached]
  rw [if_pos ⟨hunting, armed⟩]
  rfl

theorem timedStart_beyond (reached : entryReached low 0 6 = none) : timedStart low ch stop a = a.onLine (LineUnit.noMatch 5) := by
  unfold timedStart
  simp only [hc, reached]
  rw [if_pos ⟨hunting, armed⟩]

end

/-- What the line unit does leaves a station at rest so. -/
theorem AtRest.withLine {a : State} (h : AtRest a) (l : LineUnit) : AtRest { a with line := l } :=
  ⟨h.held, h.owed, h.writes, h.step, h.mode, h.front, h.clearing, h.halting, h.scl, h.reopening, h.sop, h.record, h.active, h.eligible⟩

/-- A lock after the first, outside ACQUIRING. -/
theorem lockLine_again {c : Config} {index : Nat} {matched : Bool} {s : State} (locked : s.line.everLocked = true)
    (station : s.station ≠ .acquiring) (rest : AtRest s) :
    lockLine c index matched s = s.onLine (LineUnit.lock s.clock index matched) := by
  unfold lockLine
  dsimp only
  rw [if_pos locked, if_neg (by exact station)]
  exact settle_atRest (rest.withLine _)

/-- Settles O52. -/
theorem huntLocksRate : Obligations.HuntLocksRate := by
  unfold Obligations.HuntLocksRate
  intro now low i ch stop c l m s a ha hp hc hunting hi hl hm
  subst hl hm
  refine ⟨fun armed long fits passed => ?_, fun armed fits short passed => (whenOn_at ha hp).trans (congrArg _ ?_),
    fun armed beyond => (whenOn_at ha hp).trans (congrArg _ ?_), fun disarmed since => ⟨fun stood => (whenOn_at ha hp).trans (congrArg _ ?_),
      fun early => (whenOn_at ha hp).trans (congrArg _ ?_)⟩,
    fun locked station rest => ⟨fun silent => (whenOn_at ha hp).trans (congrArg _ ?_), fun late => (whenOn_at ha hp).trans (congrArg _ ?_)⟩⟩
  · have reached := timedStart_reached (ch := ch) (stop := stop) hc hunting armed (entryReached_eq fits (Nat.zero_le _) (by omega) passed)
    have matched (lead : isLead ch = true) (stops : stop = true) : ¬ (low < minStart i ∨ (!(isLead ch && stop)) = true) := by
      simp [lead, stops, long]
    refine ⟨fun other => (whenOn_at ha hp).trans (congrArg _ ?_), fun lead stops same few => (whenOn_at ha hp).trans (congrArg _ ?_),
      fun lead stops fresh => (whenOn_at ha hp).trans (congrArg _ ?_), fun lead stops same two locked station rest =>
        (whenOn_at ha hp).trans (congrArg _ ?_)⟩
    · rw [reached, if_pos (.inr (by simp [other]))]
      rfl
    · have run : (a.line.matchAt i).run = a.line.run + 1 := if_pos same
      rw [reached, if_neg (matched lead stops), if_neg (by rw [run]; omega), ← run]
      rfl
    · have run : (a.line.matchAt i).run = 1 := if_neg fresh
      rw [reached, if_neg (matched lead stops), if_neg (by rw [run]; omega), ← run]
      rfl
    · have run : (a.line.matchAt i).run = 3 := (if_pos same).trans (by rw [two])
      rw [reached, if_neg (matched lead stops), if_pos (by rw [run]), lockLine_again (by exact locked) (by exact station) (by exact rest.withLine _), ← run]
      simp only [State.onLine, LineUnit.lock, LineUnit.matchAt, same]
      rfl
  · rw [timedStart_reached hc hunting armed (entryReached_eq fits (Nat.zero_le _) (by omega) passed), if_pos (.inl short)]
    rfl
  · rw [timedStart_beyond hc hunting armed (entryReached_none beyond)]
    rfl
  · exact if_pos ⟨hunting, by simp [disarmed], stood, since⟩
  · exact if_neg fun h => Nat.not_le.mpr early h.2.2.1
  · unfold silentLine
    simp only [hc]
    rw [if_pos ⟨hunting, by rw [msec_eq]; exact silent⟩, lockLine_again locked station rest]
    rfl
  · unfold unreadableLine
    simp only [hc]
    rw [if_pos ⟨hunting, by rw [msec_eq]; exact late⟩, lockLine_again (by exact locked) (by exact station) (by exact rest.withLine _)]
    rfl

/-! ## Acquisition (R173, R182, R190) -/

/-- The first lock, in ACQUIRING with no severe fault: the beacon timer starts and homing begins. -/
theorem lockLine_first {c : Config} {index : Nat} {matched : Bool} {s : State} (hc : s.config = some c) (first : s.line.everLocked = false)
    (station : s.station = .acquiring) (calm : s.fire.state = .calm) (mild : hasSevere s.faults.current = false) (held : s.crane.held = none)
    (clearing : s.crane.clearing = none) (owed : s.dir.firstOwed = none) (writes : s.dir.writeList = [] ∨ s.dir.port ≠ .idle)
    (centred : s.sensors.fkc = true) (ready : s.sensors.drdy = true) (limits : anyLimit s.sensors = false) :
    lockLine c index matched s = { s with
      station := .homing, crane := s.crane.homes c s.clock s.sensors.vhs, line := s.line.lock s.clock index matched
      faults := { s.faults with beacon := some (s.clock + 1000 * c.beaconPeriod) } } := by
  unfold lockLine
  dsimp only
  simp only [first]
  rw [if_neg Bool.false_ne_true, if_pos (by exact station),
    enterHoming_drives (c := c) (by exact mild) (by exact hc) (by exact calm) (by exact centred) (by exact ready) (by exact limits),
    State.inMs, msec_eq]
  exact settle_atRest (OnlyWrites.atRest (by exact onlyWrites_homes rfl rfl calm held clearing) (by exact owed) (by exact writes))

/-- Settles O51. -/
theorem acquisitionRuns : Obligations.AcquisitionRuns := by
  unfold Obligations.AcquisitionRuns
  intro now readBack c s a ha hp hc
  refine ⟨fun testing => ⟨fun equal => (whenOn_at ha hp).trans (congrArg _ ?_), fun unequal held calm => ⟨_, whenOn_at ha hp, ?_⟩⟩,
    fun station hunting first calm mild held clearing owed writes limits centred ready switch i rate rx counters rows => ?_⟩
  · unfold loopTest
    simp only [hc]
    rw [if_pos testing, if_pos equal]
    rfl
  · have halts : loopTest readBack a = settle (enterHalted a) := by
      unfold loopTest
      simp only [hc]
      rw [if_pos testing, if_neg (by simp [unequal])]
    rw [halts]
    exact halts_enterHalted calm held ⟨rfl, rfl⟩ rfl rfl rfl rfl rfl rfl rfl
  · have config : a.config = some c := (State.cfg_of_not_halted a (by rw [station]; exact (nomatch ·))).symm.trans hc
    have locks (b : State) (matched : Bool) (hb : b = { a with line := b.line }) (bfirst : b.line.everLocked = false)
        (hx : rx = if matched then .awaitAddress else .awaitLead) (hk : counters = b.line.counters)
        (run : exec i s = .next (lockLine c rate matched b)) :
        ∃ t, exec i s = .next t ∧ t.station = .homing ∧ t.line.mode = .locked
          ∧ t.line.rate = some rate ∧ t.line.rx = rx ∧ t.line.everLocked = true ∧ t.line.counters = counters
          ∧ t.faults.beacon = some (a.clock + 1000 * c.beaconPeriod)
          ∧ t.crane.mode = .homing ∧ t.crane.homing = some (.toward .lift) ∧ t.crane.lift.outDir = .down
          ∧ t.crane.lift.duty = c.lift.duty.s0 ∧ t.crane.travel.duty = 0
          ∧ t.crane.homeTimer = some (a.clock + 1000 * c.homeLimit)
          ∧ t.dir = a.dir ∧ t.queue.jobs = a.queue.jobs ∧ t.front = a.front ∧ t.offers = a.offers ∧ t.fire = a.fire
          ∧ t.faults.accrued = a.faults.accrued ∧ t.config = a.config ∧ t.clock = a.clock ∧ t.sensors = a.sensors := by
      subst hx hk
      generalize b.line = x at *
      subst hb
      rw [lockLine_first (by exact config) bfirst (by exact station) (by exact calm) (by exact mild) (by exact held) (by exact clearing)
        (by exact owed) (by exact writes) (by exact centred) (by exact ready) (by exact limits)] at run
      refine ⟨_, run, rfl, rfl, rfl, rfl, rfl, rfl, rfl, rfl, ?_, ?_, rfl, rfl, rfl, rfl, rfl, rfl, rfl, rfl, rfl, rfl, rfl, rfl⟩
      · show some (if a.sensors.vhs then HomingPhase.away .lift else .toward .lift) = _
        rw [if_neg (by simp [switch])]
      · show (if a.sensors.vhs then Dir.up else .down) = _
        rw [if_neg (by simp [switch])]
    rcases rows with ⟨rfl, silent, rfl, rfl, rfl⟩ | ⟨rfl, late, rfl, rfl, rfl⟩
      | ⟨low, ch, rfl, lead, armed, hrate, long, fits, passed, entry, run, rfl, rfl⟩
    · refine locks a false rfl first rfl rfl ((whenOn_at ha hp).trans (congrArg _ ?_))
      unfold silentLine
      simp only [hc]
      rw [if_pos ⟨hunting, by rw [msec_eq]; exact silent⟩]
    · refine locks (a.onCounters fun k => { k with acqFail := satInc k.acqFail }) false rfl first rfl rfl ((whenOn_at ha hp).trans (congrArg _ ?_))
      unfold unreadableLine
      simp only [hc]
      rw [if_pos ⟨hunting, by rw [msec_eq]; exact late⟩]
    · refine locks (a.onLine (LineUnit.matchAt rate)) true rfl first rfl rfl ((whenOn_at ha hp).trans (congrArg _ ?_))
      have third : (a.line.matchAt rate).run = 3 := (if_pos entry).trans (by rw [run])
      rw [timedStart_reached hc hunting armed (entryReached_eq fits (Nat.zero_le _) (by omega) passed), if_neg (by simp [lead, long]),
        if_pos (by rw [third])]

end Sys2Proof.Machine
end

section
/-! SUPPORT. Characters and frames received, and attempts to send (R189, R194 to R200). -/

namespace Sys2Proof.Machine

set_option Elab.async false

open Sys2Proof

/-! ## Characters (R194) -/

theorem byteAt_append {bytes more : List Byte} {i : Nat} (h : i < bytes.length) : byteAt (bytes ++ more) i = byteAt bytes i := by
  unfold byteAt
  have : getAt i (bytes ++ more) = getAt i bytes := by
    induction bytes generalizing i with
    | nil => simp at h
    | cons b bs ih =>
      cases i with
      | zero => rfl
      | succ k => exact ih (by simpa using h)
  rw [this]

theorem byteAt_last {bytes : List Byte} {d : Byte} {i : Nat} (h : bytes.length = i) : byteAt (bytes ++ [d]) i = d.toNat := by
  unfold byteAt
  have : getAt i (bytes ++ [d]) = some d := by
    induction bytes generalizing i with
    | nil => subst h; rfl
    | cons b bs ih =>
      subst h
      exact ih rfl
  rw [this]
  rfl

/-- With no own attempt a character goes to the receiver (R194). -/
theorem character_received {ch : LineChar} {a : State} (locked : a.line.mode = .locked) (free : a.line.attempt = none) :
    character ch a = receive ch (charEnds a) := by
  unfold character
  dsimp only
  rw [if_pos locked, show (charEnds a).line.attempt = none from free]

theorem framingError_eq {a : State} (locked : a.line.mode = .locked)
    (kept : (framing (charEnds a)).line.attempt = none) : framingError a = framing (charEnds a) := by
  unfold framingError
  dsimp only
  rw [if_pos locked, kept]

/-- The station with a framing error counted and entered in the tally, the frame in progress discarded. -/
def framingCounted (s : State) : State :=
  { s with line := { s.line with
      rx := .awaitLead, rxBuf := [], counters := { s.line.counters with framing := satInc s.line.counters.framing }
      tally := tallied s.clock s.line.tally } }

/-- With no own attempt the hunt alone starts. -/
theorem rehunt_free {s : State} (free : s.line.attempt = none) : rehunt s = s.onLine (LineUnit.startHunt s.clock) := by
  unfold rehunt
  rw [free]

/-- A framing error inside a frame: counted and the frame discarded; the 32nd drops the lock (R192). -/
theorem framing_receiving {s : State} (receiving : s.line.receiving = true) (free : s.line.attempt = none) :
    framing s = if 32 ≤ (tallied s.clock s.line.tally).length then (framingCounted s).onLine (LineUnit.startHunt s.clock)
      else framingCounted s := by
  have counted : ((s.onCounters (fun k => { k with framing := satInc k.framing })).onLine fun l =>
      { (if l.receiving then l.discard else l) with tally := tallied s.clock l.tally }) = framingCounted s := by
    change { s with line := { (if s.line.receiving then
        { s.line with rx := .awaitLead, rxBuf := [], counters := { s.line.counters with framing := satInc s.line.counters.framing } }
      else { s.line with counters := { s.line.counters with framing := satInc s.line.counters.framing } }) with
        tally := tallied s.clock s.line.tally } } = _
    rw [if_pos receiving]
    rfl
  unfold framing
  dsimp only
  rw [counted]
  split
  · rename_i full
    rw [if_pos (by exact full), rehunt_free (by exact free)]
    rfl
  · rename_i few
    rw [if_neg (by exact few)]

/-- The header is whole: a length above 24 discards the frame, any other is followed by its payload or its check (R194). -/
theorem frameChar_header {d : Byte} {s : State} (rx : s.line.rx = .header) (length : s.line.rxBuf.length = 3) : frameChar d s =
    if 24 < d.toNat then { s with line := { s.line with
        rx := .awaitLead, rxBuf := [], counters := { s.line.counters with tooLong := satInc s.line.counters.tooLong } } }
    else { s with line := { s.line with rx := if d.toNat = 0 then .check else .payload, rxBuf := s.line.rxBuf ++ [d] } } := by
  have whole : (s.line.rxBuf ++ [d]).length = 4 := by simp [length]
  unfold frameChar
  simp only [State.onLine_line, rx]
  rw [if_pos whole]
  unfold afterHeader
  simp only [State.onLine_line, byteAt_last length]
  split <;> rfl

/-- A character of the header or the payload that does not complete it is kept. -/
theorem frameChar_kept {d : Byte} {s : State}
    (within : (s.line.rx = .header ∧ s.line.rxBuf.length < 3)
      ∨ (s.line.rx = .payload ∧ 4 ≤ s.line.rxBuf.length ∧ s.line.rxBuf.length + 1 ≠ 4 + byteAt s.line.rxBuf 3)) :
    frameChar d s = s.onLine fun l => { l with rxBuf := l.rxBuf ++ [d] } := by
  unfold frameChar
  rcases within with ⟨rx, few⟩ | ⟨rx, whole, few⟩ <;> simp only [State.onLine_line, rx, List.length_append, List.length_singleton]
  · rw [if_neg (by omega)]
  · rw [if_neg (by rw [byteAt_append (by omega)]; omega)]

/-- The last character of the payload is followed by the check. -/
theorem frameChar_payload {d : Byte} {s : State} (rx : s.line.rx = .payload) (whole : 4 ≤ s.line.rxBuf.length)
    (last : s.line.rxBuf.length + 1 = 4 + byteAt s.line.rxBuf 3) :
    frameChar d s = s.onLine fun l => { l with rx := .check, rxBuf := l.rxBuf ++ [d] } := by
  unfold frameChar
  simp only [State.onLine_line, rx, List.length_append, List.length_singleton]
  rw [if_pos (by rw [byteAt_append (by omega)]; omega)]
  rfl

/-- Both characters of the check are in: the frame is complete, or counted and discarded. -/
theorem frameChar_check {d hi : Byte} {body : List Byte} {s : State} (rx : s.line.rx = .check) (buf : s.line.rxBuf = body ++ [hi])
    (length : body.length = 4 + byteAt s.line.rxBuf 3) : frameChar d s =
    if (crc16 body).toNat = hi.toNat * 256 + d.toNat then s.onLine fun l => { l.discard with rxDone := some body }
    else { s with line := { s.line with
      rx := .awaitLead, rxBuf := [], counters := { s.line.counters with check := satInc s.line.counters.check } } } := by
  have all : s.line.rxBuf ++ [d] = body ++ [hi, d] := by rw [buf, List.append_assoc]; rfl
  have len : byteAt (s.line.rxBuf ++ [d]) 3 = byteAt s.line.rxBuf 3 := byteAt_append (by rw [buf, List.length_append]; omega)
  have word : wordAt (s.line.rxBuf ++ [d]) body.length = hi.toNat * 256 + d.toNat := by
    unfold wordAt
    rw [byteAt_append (by rw [buf]; simp), buf, byteAt_last rfl, byteAt_last (by simp)]
  have taken : (s.line.rxBuf ++ [d]).take body.length = body := by rw [all]; exact List.take_left
  unfold frameChar
  simp only [State.onLine_line, rx, len]
  rw [if_pos (by rw [all, List.length_append, length]; simp only [List.length_cons, List.length_nil]; omega)]
  unfold afterCheck
  simp only [State.onLine_line, len, ← length, word, taken]
  split <;> rfl

/-- Settles O53. -/
theorem charactersMakeFrames : Obligations.CharactersMakeFrames := by
  unfold Obligations.CharactersMakeFrames
  intro now ch n w l k s a ha hp locked hw hl hk hn
  subst hw hl hk hn
  have edge : fallingEdge a = a.onLine fun l => { l with idleFrom := a.clock, lastFall := a.clock } := by
    unfold fallingEdge
    simp only [locked]
  refine ⟨(whenOn_at ha hp).trans (congrArg _ edge), fun free => ?_, fun receiving =>
    ⟨fun gap => (whenOn_at ha hp).trans (congrArg _ (if_pos ⟨locked, by rcases receiving with h | h | h <;> simp [LineUnit.receiving, h], gap⟩)),
      fun free i hi => ?_⟩⟩
  · have runs {u : State} (h : receive ch (charEnds a) = u) : exec (.characterReceived now ch) s = .next u :=
      (whenOn_at ha hp).trans (congrArg _ ((character_received locked free).trans h))
    have inside {u : State} (within : a.line.rx = .header ∨ a.line.rx = .payload ∨ a.line.rx = .check) (unmarked : ch.mark = false)
        (h : frameChar ch.data (charEnds a) = u) : exec (.characterReceived now ch) s = .next u := by
      refine runs (Eq.trans ?_ h)
      unfold receive
      rcases within with hr | hr | hr <;> simp only [charEnds, State.onLine_line, hr] <;> rw [if_neg (by simp [unmarked])]
    refine ⟨fun rx => runs ?_, fun rx marked => runs ?_, fun rx unmarked other => runs ?_, fun rx few unmarked => ?_,
      fun rx length unmarked long => ?_, fun rx length unmarked short => ?_, fun rx whole most unmarked => ?_,
      fun body hi rx buf length whole unmarked => ⟨fun good => ?_, fun bad => ?_⟩⟩
    · unfold receive
      simp only [charEnds, State.onLine_line, rx]
      cases isLead ch
      · exact congrArg (fun r => { a with line := { a.line with idleFrom := a.clock + 2 ^ a.line.rate.getD 0, rx := r } }) rx
      · rfl
    · unfold receive
      simp only [charEnds, State.onLine_line, rx]
      rw [if_pos marked]
      rfl
    · unfold receive
      simp only [charEnds, State.onLine_line, rx]
      rw [if_neg (by simp [unmarked]), if_neg (by simp [other])]
      rfl
    · exact inside (.inl rx) unmarked (frameChar_kept (s := charEnds a) (.inl ⟨rx, few⟩))
    · exact inside (.inl rx) unmarked ((frameChar_header (s := charEnds a) rx length).trans (if_pos long))
    · exact inside (.inl rx) unmarked ((frameChar_header (s := charEnds a) rx length).trans (if_neg (Nat.not_lt.mpr short)))
    · refine inside (.inr (.inl rx)) unmarked ?_
      by_cases last : a.line.rxBuf.length + 1 = 4 + byteAt a.line.rxBuf 3
      · rw [if_pos last]
        exact frameChar_payload (s := charEnds a) rx whole last
      · rw [if_neg last]
        exact (frameChar_kept (s := charEnds a) (.inr ⟨rx, whole, last⟩)).trans
          (congrArg (fun r => { a with line := { a.line with
            idleFrom := a.clock + 2 ^ a.line.rate.getD 0, rxBuf := a.line.rxBuf ++ [ch.data], rx := r } }) rx)
    · exact inside (.inr (.inr rx)) unmarked ((frameChar_check (s := charEnds a) rx buf length).trans (if_pos good))
    · exact inside (.inr (.inr rx)) unmarked ((frameChar_check (s := charEnds a) rx buf length).trans (if_neg bad))
  · have on : (charEnds a).line.receiving = true := by
      show a.line.receiving = true
      rcases receiving with h | h | h <;> simp [LineUnit.receiving, h]
    have counted := framing_receiving on (by exact free)
    have tally : tallied a.clock a.line.tally = a.line.tally.filter (fun t => decide (a.clock ≤ t + 1000000)) ++ [a.clock] := rfl
    have kept : (framing (charEnds a)).line.attempt = none := by
      rw [counted]
      split
      · rfl
      · exact free
    have run : exec i s = .next (framing (charEnds a)) := by
      rcases hi with rfl | ⟨rfl, marked⟩
      · exact (whenOn_at ha hp).trans (congrArg _ (framingError_eq locked kept))
      · refine (whenOn_at ha hp).trans (congrArg _ ((character_received locked free).trans ?_))
        unfold receive
        rcases receiving with hr | hr | hr <;> simp only [charEnds, State.onLine_line, hr] <;> rw [if_pos marked]
    rw [run, counted, ← tally]
    refine ⟨fun few => congrArg _ ((if_neg (Nat.not_le.mpr few)).trans rfl), fun full => congrArg _ ((if_pos full).trans ?_)⟩
    exact congrArg (fun t => { a with line := { a.line with
      idleFrom := a.clock + 2 ^ a.line.rate.getD 0, mode := .hunting, rx := .awaitLead, rxBuf := []
      counters := { a.line.counters with framing := satInc a.line.counters.framing }, tally := [], armed := true, huntEntry := 0, run := 0
      runEntry := 0, huntStart := a.clock, lastFall := a.clock, attempt := t } }) free.symm

end Sys2Proof.Machine
end

section
/-! SUPPORT. Complete frames routed, STATS answered, attempts begun, ended and collided (R195 to R200). -/

namespace Sys2Proof.Machine

set_option Elab.async false

open Sys2Proof

/-! ## Complete frames and STATS (R195, R196, R200) -/

section
variable {c : Config} {bytes : List Byte} {a : State} (hc : a.cfg = some c) (done : a.line.rxDone = some bytes)
include hc done

theorem frameComplete_elsewhere (other : addressAccepted c (byteAt bytes 0) = false) : frameComplete a = { a with line :=
    { a.line with rxDone := none, counters := { a.line.counters with notMine := satInc a.line.counters.notMine } } } := by
  unfold frameComplete
  simp only [hc, done, other]
  rfl

theorem frameComplete_malformed (here : addressAccepted c (byteAt bytes 0) = true) (bad : parseFrame c.carriers bytes = none) :
    frameComplete a = { a with line := { a.line with rxDone := none } } := by
  unfold frameComplete
  simp only [hc, done, here, bad]
  rfl

theorem frameComplete_dispatched {f : RxFrame} (here : addressAccepted c (byteAt bytes 0) = true) (good : parseFrame c.carriers bytes = some f) :
    frameComplete a = dispatchFrame c f { a with line := { a.line with rxDone := none } } := by
  unfold frameComplete
  simp only [hc, done, here, good]
  rfl

end

/-- Every frame but the fire unit's goes to the receive queue (R196). -/
theorem dispatchFrame_queued {c : Config} {f : RxFrame} {s : State} (alarm : ∀ m x, f.body ≠ .alarm m x) (clear : ∀ m, f.body ≠ .allclear m) :
    dispatchFrame c f s = enqueue f s := by
  unfold dispatchFrame
  split
  · exact absurd ‹_› (alarm _ _)
  · exact absurd ‹_› (clear _)
  · rfl

/-- A trigger taken with the shutter closing or closed clears the all-clear flag alone (R141). -/
theorem trigger_shut {s : State} (shut : s.fire.state = .sealing ∨ s.fire.state = .sealed ∨ s.fire.state = .breached) :
    trigger s = s.onFire (fun f => { f with allClear := false }) := by
  unfold trigger
  rcases shut with h | h | h <;> simp only [h]

/-- Settles O54. -/
theorem framesAreRoutedAndStatsAnswered : Obligations.FramesAreRoutedAndStatsAnswered := by
  unfold Obligations.FramesAreRoutedAndStatsAnswered
  intro now c s a ha hp
  refine ⟨fun bytes k b hc done hb hk => ?_, fun src clear k reply b handed room hk hreply => ?_⟩
  · subst hb hk
    refine ⟨fun other => (whenOn_at ha hp).trans (congrArg _ (frameComplete_elsewhere hc done other)),
      fun here bad => (whenOn_at ha hp).trans (congrArg _ (frameComplete_malformed hc done here bad)), fun f here good => ?_⟩
    have runs {u : State} (h : dispatchFrame c f { a with line := { a.line with rxDone := none } } = u) : exec (.frameReceived now) s = .next u :=
      (whenOn_at ha hp).trans (congrArg _ ((frameComplete_dispatched hc done here good).trans h))
    refine ⟨fun alarm clear => ⟨fun few => runs ?_, fun full => runs ?_⟩, fun m x alarm named shut => runs ?_, fun m clear other => runs ?_⟩
    · rw [dispatchFrame_queued alarm clear]
      exact if_pos few
    · rw [dispatchFrame_queued alarm clear]
      exact if_neg (Nat.not_lt.mpr full)
    · unfold dispatchFrame
      simp only [alarm]
      unfold takeAlarm
      rw [if_pos (by simpa [qualifies, inMask] using named)]
      exact trigger_shut shut
    · unfold dispatchFrame
      simp only [clear]
      unfold takeAllClear
      rw [if_pos other]
      rfl
  · subst hk hreply
    refine ⟨fun keep => (whenOn_at ha hp).trans (congrArg _ ((handFrame_handed handed _).trans ?_)),
      fun clears => (whenOn_at ha hp).trans (congrArg _ ((handFrame_handed handed _).trans ?_))⟩
    · unfold takeStats
      rw [if_neg (by omega)]
      exact send_queued room
    · unfold takeStats
      rw [if_pos clears]
      exact send_queued (by exact room)

/-! ## Attempts (R198, R199) -/

theorem removeEntry_bare {order : Nat} {l : LineUnit} (reserved : l.reserved = none) :
    l.removeEntry order = { l with general := l.general.filter (fun x => x.order != order) } := by
  unfold LineUnit.removeEntry
  rw [reserved, Option.filter_none, ← reserved]

theorem updateEntry_bare {order : Nat} {f : TxEntry → TxEntry} {l : LineUnit} (reserved : l.reserved = none) :
    l.updateEntry order f = { l with general := l.general.map (fun x => if x.order = order then f x else x) } := by
  unfold LineUnit.updateEntry
  rw [reserved, Option.map_none, ← reserved]

theorem entry_bare {order : Nat} {l : LineUnit} (reserved : l.reserved = none) :
    l.entry order = l.general.find? (fun x => x.order == order) := by
  unfold LineUnit.entry LineUnit.entries
  rw [reserved]
  rfl

/-- The head may be tried once the idle time has reached its access gap and backoff. -/
theorem mayAttempt_eq {c : Config} {e : TxEntry} {s : State} (head : s.line.head = some e) (locked : s.line.mode = .locked)
    (free : s.line.attempt = none) (idle : s.line.rx = .awaitLead ∨ s.line.rx = .awaitAddress) : s.mayAttempt c =
    if s.line.idleFrom + (accessGap c.address e.body.cls + e.backoff) * charUs (s.line.rate.getD 0) ≤ s.clock then some e else none := by
  unfold State.mayAttempt
  simp only [head]
  rcases idle with h | h <;> simp [locked, free, LineUnit.receiving, h]

section
variable {c : Config} {e : TxEntry} {att : Attempt} {a : State}

/-- The station with the frame under its attempt sent and out of the queue. -/
def frameGone (att : Attempt) (idle : Nat) (a : State) : State :=
  { a with line := { a.line with
      general := a.line.general.filter (fun x => x.order != att.order), attempt := none, idleFrom := idle } }

/-- The frame read back equal leaves the queue, and its owner is told. -/
theorem frameOut_eq (reserved : a.line.reserved = none) (entry : a.line.general.find? (fun x => x.order == att.order) = some e) :
    frameOut c att a = reportSent c e (frameGone att (max a.line.idleFrom a.clock) a) := by
  unfold frameOut
  simp only [entry_bare reserved, entry, State.onLine]
  rw [removeEntry_bare reserved]
  rfl

/-- A frame with no owner to tell. -/
theorem reportSent_unowned (beacon : e.isBeacon = false) (offer : e.offer = none) : reportSent c e a = a := by
  unfold reportSent
  rw [if_neg (by simp [beacon]), offer]

/-- The station after a collision, what becomes of the frame aside. -/
def collisionCounted (idle : Nat) (a : State) : State :=
  { a with line := { a.line with
      attempt := none, idleFrom := idle, backoffGen := stepBackoff a.line.backoffGen
      counters := { a.line.counters with collision := satInc a.line.counters.collision } } }

theorem collided_eq (reserved : a.line.reserved = none) (entry : a.line.general.find? (fun x => x.order == att.order) = some e) :
    collided att a = afterCollision e (collisionCounted (max a.line.idleFrom a.clock) a) := by
  unfold collided
  simp only [entry_bare reserved, entry]
  rfl

/-- Before its 16th attempt the frame is given a backoff by the generator (R199). -/
theorem collided_again (reserved : a.line.reserved = none) (entry : a.line.general.find? (fun x => x.order == att.order) = some e)
    (order : e.order = att.order) (kept : e.withdrawn = false) (few : e.attempts < 16) : collided att a = { a with line := { a.line with
      general := a.line.general.map
        (fun x => if x.order = att.order then { x with backoff := (stepBackoff a.line.backoffGen).toNat % 8 + 1 } else x)
      attempt := none, idleFrom := max a.line.idleFrom a.clock, backoffGen := stepBackoff a.line.backoffGen
      counters := { a.line.counters with collision := satInc a.line.counters.collision } } } := by
  rw [collided_eq reserved entry]
  unfold afterCollision
  rw [if_neg (by simp [kept]), if_pos few, State.onLine, order]
  exact congrArg (fun l => { a with line := l }) (updateEntry_bare (l := (collisionCounted (max a.line.idleFrom a.clock) a).line)
    (f := fun x => { x with backoff := (stepBackoff a.line.backoffGen).toNat % 8 + 1 }) reserved)

/-- The station with the frame dropped on its 16th attempt: it is out of the queue, counted lost, and LINE raised. -/
def frameDropped (att : Attempt) (a : State) : State :=
  recordFault .line (countLost { collisionCounted a.clock a with line :=
    { (collisionCounted a.clock a).line with general := a.line.general.filter (fun x => x.order != att.order) } })

theorem collided_dropped (reserved : a.line.reserved = none) (entry : a.line.general.find? (fun x => x.order == att.order) = some e)
    (since : a.line.idleFrom ≤ a.clock) (order : e.order = att.order) (kept : e.withdrawn = false) (many : 16 ≤ e.attempts) :
    collided att a = reportDropped e (frameDropped att a) := by
  rw [collided_eq reserved entry, Nat.max_eq_right since]
  unfold afterCollision
  rw [if_neg (by simp [kept]), if_neg (Nat.not_lt.mpr many), raise_mild _ rfl, State.onLine, order, removeEntry_bare (by exact reserved)]
  rfl

theorem frameDropped_orders {x : TxEntry} (h : x ∈ (frameDropped att a).line.general) : x.order ≠ att.order := by
  obtain ⟨y, hy, rfl⟩ := List.mem_map.mp h
  have differs := (List.mem_filter.mp hy).2
  have same : (TxEntry.unreport .line y).order = y.order := rfl
  rw [same]
  simpa using differs

/-- A dropped frame's report touches the offers alone. -/
theorem reportDropped_offers (plain : e.isBeacon = false) : ∃ o : OfferTable, reportDropped e a = { a with offers := o }
    ∧ (e.offer = none → o = a.offers)
    ∧ ∀ n, e.offer = some n → o.entries = a.offers.entries.map
      (fun x => if x.serial = n ∧ x.own = .bidPending then { x with own := .none } else x) := by
  unfold reportDropped
  rw [if_neg (by simp [plain])]
  cases owner : e.offer with
  | none => exact ⟨_, rfl, fun _ => rfl, nofun⟩
  | some serial =>
    refine ⟨_, rfl, nofun, fun n hn => ?_⟩
    obtain rfl := Option.some.inj hn
    refine List.map_congr_left fun x _ => ?_
    by_cases same : x.serial = serial <;> simp [same]

end

/-- Settles O55. -/
theorem attemptsSendOrCollide : Obligations.AttemptsSendOrCollide := by
  unfold Obligations.AttemptsSendOrCollide
  intro now c e att readBack ch x0 more g s a ha hp hc hr
  have powered : a.powered = true := by rw [ha]; exact hp
  refine ⟨fun head locked free idle => ?_, fun under reserved since entry hg => ?_⟩
  · have may := mayAttempt_eq (c := c) head locked free idle
    refine ⟨fun late => ⟨_, whenOn_at ha hp, ?_⟩, fun early => (whenOn_at ha hp).trans (congrArg _ ?_)⟩
    · rw [if_pos late] at may
      have begun : startAttempt a = a.onLine (fun l =>
          { l.updateEntry e.order (fun x => { x with attempts := x.attempts + 1, backoff := 0 }) with
            attempt := some { order := e.order, remaining := e.chars c.address, since := a.clock } }) := by
        unfold startAttempt
        simp only [hc, may]
      rw [begun]
      exact ⟨rfl, by simp [State.outputs, State.onLine, powered], rfl, rfl, rfl⟩
    · rw [if_neg (Nat.not_le.mpr early)] at may
      unfold startAttempt
      simp only [hc, may]
  · have order : e.order = att.order := by simpa using List.find?_some entry
    have latest : max a.line.idleFrom a.clock = a.clock := Nat.max_eq_right since
    have step : stepBackoff a.line.backoffGen = g := hg.symm
    have frees {u : State} (back : att.remaining.isPrefixOf readBack = true) (h : reportSent c e (frameGone att a.clock a) = u) :
        exec (.frameSent now) s = .next u := by
      refine (whenOn_at ha hp).trans (congrArg _ ?_)
      unfold sent Attempt.allBack
      simp only [hc, under, ← hr]
      rw [if_pos back, frameOut_eq reserved entry, latest]
      exact h
    have collides (unequal : att.remaining.isPrefixOf readBack = false) (missed : readBack.isPrefixOf att.remaining = false
        ∨ att.since + (readBack.length + 1) * charUs (a.line.rate.getD 0) ≤ a.clock) : exec (.collision now) s = .next (collided att a) := by
      refine (whenOn_at ha hp).trans (congrArg _ ?_)
      unfold collide Attempt.allBack Attempt.missing
      simp only [under, ← hr]
      rw [if_neg (by simp [unequal]), if_neg (by rcases missed with h | h <;> simp [h])]
    refine ⟨fun b hb back => ?_, fun unequal => ⟨?_, fun prefixed early => ?_⟩, fun locked remaining => ?_, fun unequal missed kept => ?_⟩
    · subst hb
      refine ⟨fun beacon alone => frees back ?_, fun plain unowned => frees back (reportSent_unowned plain unowned), fun o plain owned found => ⟨fun pends bare =>
        frees back ?_, fun sent => frees back ?_⟩, (whenOn_at ha hp).trans (congrArg _ ?_)⟩
      · have none_left : (frameGone att a.clock a).line.beaconQueued = false := by
          refine List.any_eq_false.mpr fun x hx => ?_
          obtain ⟨mem, differs⟩ := List.mem_filter.mp hx
          intro hb
          simp [alone x mem hb] at differs
        unfold reportSent
        rw [if_pos beacon]
        simp only [none_left]
        rfl
      · unfold reportSent bidWentOut
        rw [if_neg (by simp [plain]), owned]
        have found' : (frameGone att a.clock a).offers.entries.find? (fun x => x.serial == o.serial) = some o := found
        simp only [found']
        rw [if_pos pends, if_neg (by rw [bare]; exact (nomatch ·)), ← bare]
        rfl
      · unfold reportSent bidWentOut
        rw [if_neg (by simp [plain]), owned]
        have found' : (frameGone att a.clock a).offers.entries.find? (fun x => x.serial == o.serial) = some o := found
        simp only [found']
        rw [if_neg sent]
        rfl
      · unfold collide Attempt.allBack
        simp only [under, ← hr]
        rw [if_pos back]
    · refine (whenOn_at ha hp).trans (congrArg _ ?_)
      unfold sent Attempt.allBack
      simp only [hc, under, ← hr]
      rw [if_neg (by simp [unequal])]
    · refine (whenOn_at ha hp).trans (congrArg _ ?_)
      unfold collide Attempt.allBack Attempt.missing
      simp only [under, ← hr]
      rw [if_neg (by simp [unequal]), if_pos (by simp [prefixed, early])]
    · have ends : max (charEnds a).line.idleFrom (charEnds a).clock = a.clock + 2 ^ a.line.rate.getD 0 :=
        Nat.max_eq_left (Nat.le_add_right _ _)
      have runs {u : State} (h : readBackChar ch att (charEnds a) = u) : exec (.characterReceived now ch) s = .next u := by
        refine (whenOn_at ha hp).trans (congrArg _ ?_)
        unfold character
        dsimp only
        rw [if_pos locked, show (charEnds a).line.attempt = some att from under]
        exact h
      have cfg : (charEnds a).cfg = some c := hc
      refine ⟨fun equal left => runs ?_, fun equal last plain unowned => runs ?_, fun differs kept few => runs ?_⟩
      · obtain ⟨y, ys, rfl⟩ := List.exists_cons_of_ne_nil left
        unfold readBackChar
        simp only [cfg, remaining]
        rw [if_pos equal.symm]
        rfl
      · unfold readBackChar
        simp only [cfg, remaining, last]
        rw [if_pos equal.symm, frameOut_eq (by exact reserved) (by exact entry), reportSent_unowned plain unowned, ends]
        rfl
      · have hits : readBackChar ch att (charEnds a) = collided att (charEnds a) := by
          unfold readBackChar
          simp only [cfg, remaining]
          cases more with
          | nil => exact if_neg (Ne.symm differs)
          | cons y ys => exact if_neg (Ne.symm differs)
        rw [hits, collided_again (by exact reserved) (by exact entry) order kept few, ends, ← step]
        rfl
    · have run := collides unequal missed
      refine ⟨fun few => ?_, fun many plain => ⟨_, run, ?_⟩⟩
      · rw [run, collided_again reserved entry order kept few, latest, step]
      · rw [collided_dropped reserved entry since order kept many]
        obtain ⟨o, dropped, unowned, owned⟩ := reportDropped_offers (a := frameDropped att a) plain
        rw [dropped]
        exact ⟨fun x => frameDropped_orders, rfl, step, rfl, rfl, inSet_or_bit _ _, inSet_or_bit _ _, rfl, unowned, owned⟩

end Sys2Proof.Machine
end

section
/-! SUPPORT. The write under way: verified, tried again, failed (R13 to R15). -/

namespace Sys2Proof.Machine

set_option Elab.async false

open Sys2Proof

/-! ## A verified write (R15) -/

/-- With room for them the SLOTACKs are queued in a row. -/
theorem sendAcks_queued (c : Config) (ad : SlotAddr) (n : Nat) (s : State) (room : s.line.general.length + n ≤ 8) :
    sendAcks c ad n s = { s with line := { s.line with
      general := s.line.general ++ (List.range n).map (fun i => newEntry (s.line.nextOrder + i)
        (.slotack (faceCode ad.face) ad.bay ad.level .accepted) (.station c.maintenance) none)
      nextOrder := s.line.nextOrder + n } } := by
  induction n generalizing s with
  | zero => simp [sendAcks]
  | succ n ih =>
    unfold sendAcks
    rw [send_queued (by omega), ih _ (by simp [Queued]; omega)]
    simp only [Queued, List.range_succ_eq_map, List.map_cons, List.map_map, List.append_assoc, List.singleton_append, Nat.add_zero,
      Nat.add_assoc, Nat.add_comm 1 n]
    congr 4
    refine List.map_congr_left fun i _ => ?_
    simp only [Function.comp, Nat.succ_eq_add_one]
    rw [Nat.add_comm 1 i]

/-- The STORE in COMMITTING that a write's entry names. -/
theorem committing_eq {e : WriteEntry} {j : Job} {s : State} (names : e.job = some j.num) (job : s.job j.num = some j) (store : j.kind = .store)
    (stage : j.stage = .committing) (slot : j.slot = some e.slot) : s.committing e = some j := by
  unfold State.committing
  rw [names, Option.bind_some, job]
  exact if_pos (by simp [Job.isStore, store, stage, slot])

/-- Settles O7. -/
theorem verifiedWriteReleases : Obligations.VerifiedWriteReleases := by
  unfold Obligations.VerifiedWriteReleases
  intro now b0 b1 b2 b3 c e rest s a b ha hp hc port list image hb
  have runs {t : State} (h : verified c e (a.setMemory (Memory.setAll (imageAddress (slotIndex c e.slot)) [b0, b1, b2, b3] a.memory)) = t)
      (atRest : AtRest t) : exec (.readbackDone now b0 b1 b2 b3) s = .next t := by
    refine (whenOn_at ha hp).trans (congrArg _ ?_)
    unfold readback
    simp only [hc, list]
    rw [if_pos port, if_pos image, h]
    exact settle_atRest atRest
  have ended : (a.setMemory (Memory.setAll (imageAddress (slotIndex c e.slot)) [b0, b1, b2, b3] a.memory)).onDir Directory.endWrite = b := by
    rw [hb]
    simp [State.onDir, State.setMemory, Directory.endWrite, list]
  refine ⟨fun t unnamed room ht => runs ?_, fun j t named job store stage slot acks room ht => runs ?_⟩
  · unfold verified
    have none_waits (m : List Host.Cell) : (a.setMemory m).committing e = none := by
      unfold State.committing
      rw [unnamed, Option.bind_none]
    simp only [ended, none_waits]
    rw [sendAcks_queued _ _ _ _ (by rw [hb]; exact room), ht, hb]
  · have waits (m : List Host.Cell) : (a.setMemory m).committing e = some j := committing_eq named job store stage slot
    unfold verified
    simp only [ended, waits, acks]
    rw [send_queued (by rw [hb]; exact room), ht, hb]
    rfl

/-! ## A failed attempt (R13, R14) -/

namespace Memory

theorem drop_above {a : Nat} {m : List Host.Cell} (h : above a m = true) : drop a m = m := by
  induction m with
  | nil => rfl
  | cons x m ih =>
    obtain ⟨b, w⟩ := x
    obtain ⟨first, rest⟩ := (Bool.and_eq_true _ _).mp h
    have below : a < b := of_decide_eq_true first
    unfold drop
    rw [if_neg (by omega), ih rest]

theorem set_above {a : Nat} {v : Byte} {m : List Host.Cell} (h : above a m = true) : set a v m = (a, v) :: m := by
  cases m with
  | nil => rfl
  | cons x m =>
    obtain ⟨first, _⟩ := (Bool.and_eq_true _ _).mp h
    exact if_pos (of_decide_eq_true first)

/-- A byte forgotten is forgotten with its new value. -/
theorem drop_set_same {a : Nat} {v : Byte} {m : List Host.Cell} (h : wf m = true) : drop a (set a v m) = drop a m := by
  induction m with
  | nil => simp [set, drop]
  | cons x m ih =>
    obtain ⟨b, w⟩ := x
    obtain ⟨first, rest⟩ := (Bool.and_eq_true _ _).mp h
    unfold set
    split
    · rename_i below
      rw [drop_above (m := (b, w) :: m) (by simp [above, below, above_trans below first])]
      simp [drop]
    · split
      · subst_vars
        simp [drop]
      · rename_i other
        simp [drop, other, ih rest]

/-- Bytes set and forgotten at different addresses do not meet. -/
theorem drop_set_other {a b : Nat} {v : Byte} {m : List Host.Cell} (other : a ≠ b) (h : wf m = true) : drop a (set b v m) = set b v (drop a m) := by
  induction m with
  | nil => simp [set, drop, other]
  | cons x m ih =>
    obtain ⟨d, w⟩ := x
    obtain ⟨first, rest⟩ := (Bool.and_eq_true _ _).mp h
    by_cases hd : a = d
    · subst hd
      rcases Nat.lt_or_gt_of_ne other with below | beyond
      · simp [set, drop, other.symm, below.not_gt]
      · simp [set, drop, other, beyond, set_above (above_trans beyond first)]
    · by_cases hb : b < d
      · simp [set, drop, other, hd, hb]
      · by_cases same : b = d
        · simp [set, drop, hd, same]
        · simp [set, drop, hd, hb, same, ih rest]

theorem drop_setAll_above {a b : Nat} {bytes : List Byte} {m : List Host.Cell} (below : a < b) (h : wf m = true) :
    drop a (setAll b bytes m) = setAll b bytes (drop a m) := by
  induction bytes generalizing b m with
  | nil => rfl
  | cons v rest ih =>
    unfold setAll
    rw [ih (by omega) (wf_set h), drop_set_other (by omega) h]

/-- Bytes forgotten are forgotten with their new values. -/
theorem dropAll_setAll {a n : Nat} {bytes : List Byte} {m : List Host.Cell} (length : bytes.length = n) (h : wf m = true) :
    dropAll a n (setAll a bytes m) = dropAll a n m := by
  induction bytes generalizing a n m with
  | nil => rfl
  | cons v rest ih =>
    subst length
    unfold setAll
    rw [List.length_cons]
    unfold dropAll
    rw [drop_setAll_above (by omega) (wf_set h), drop_set_same h, ih rfl (wf_drop h)]

end Memory

/-- A record is in one state alone. -/
theorem slotIs_only {s : State} {ad : SlotAddr} {st other : SlotState} (h : s.slotIs ad st = true) (differs : st ≠ other) :
    s.slotIs ad other = false := by
  unfold State.slotIs at h ⊢
  rw [eq_of_beq h]
  simpa using differs

/-- A job in COMMITTING is not the crane's: disposing of the active job may end a record, no more. -/
theorem disposeActive_committing {cause : Cause} {o : FailOutcome} {j : Job} {s : State} (alone : s.queue.jobs = [j])
    (stage : j.stage = .committing) : ∃ r, disposeActive cause o s = setRecord r s := by
  have same : s = setRecord s.faults.suspension s := rfl
  have off (x : Job) (n : Nat) (h : s.job n = some x) : (!x.onCrane) = true := by
    have mem : x ∈ s.queue.jobs := List.mem_of_find?_eq_some h
    rw [alone, List.mem_singleton] at mem
    simp [mem, Job.onCrane, Job.active, stage]
  unfold disposeActive
  split
  · exact ⟨_, same⟩
  · split
    · exact ⟨_, same⟩
    · split
      · split
        · exact ⟨none, rfl⟩
        · exact ⟨_, same⟩
      · rename_i x hx
        rw [if_pos (off x _ hx)]
        split
        · exact ⟨none, rfl⟩
        · exact ⟨_, same⟩

/-- A STORE in COMMITTING alone in the queue stays there as FAULTED is entered. -/
theorem enterFaulted_committing {j : Job} {s : State} (mode : s.crane.mode ≠ .stopped) (alone : s.queue.jobs = [j]) (store : j.kind = .store)
    (stage : j.stage = .committing) : (enterFaulted s).queue = s.queue ∧ (enterFaulted s).dir = s.dir
      ∧ (enterFaulted s).line.general.length ≤ s.line.general.length ∧ (enterFaulted s).offers.entries = [] := by
  obtain ⟨k, eq, _⟩ := faultStopped_crane mode
  obtain ⟨r, disposed⟩ := disposeActive_committing (cause := .fault) (o := .stationFault) (s := faultStopped s) (by rw [eq]; exact alone) stage
  have spared : j.failable = false := by simp [Job.failable, Job.waitingFetch, Job.isFetch, store, stage]
  have entered : enterFaulted s = closeOffers (setRecord r (faultStopped s)) := by
    show closeOffers (failWaiting .stationFault (disposeActive .fault .stationFault (faultStopped s))) = _
    rw [disposed, failWaiting_eq, eq, show (setRecord r { s with station := .faulted, crane := k }).queue.jobs = [j] from alone]
    simp [spared]
  rw [entered, eq]
  exact ⟨rfl, rfl, (List.length_map _).le.trans (List.length_filter_le _ _), rfl⟩

/-- Work failed as and after FAULTED is entered leaves the station in FAULTED. -/
theorem faulted_of_failsWork {f : FaultName} {s x : State} (mode : s.crane.mode ≠ .stopped) (held : s.crane.held = none)
    (calm : s.fire.state = .calm) (fails : FailsWork (faultStopped s) x) (offers : x.offers.entries = [])
    (current : inSet s.faults.current f = true) (accrued : inSet s.faults.accrued f = true) :
    InFaulted f x ∧ KeptByFault s x ∧ OnlyWrites x := by
  obtain ⟨k, eq, stopped⟩ := faultStopped_crane mode
  rw [eq] at fails
  have crane : x.crane = k := fails.crane (by rw [stopped.mode]; exact (nomatch ·))
  obtain ⟨g, n, counters, line⟩ := fails.line
  refine ⟨{ station := fails.station, current := by rw [fails.sets.1]; exact current, accrued := by rw [fails.sets.2]; exact accrued
            mode := by rw [crane]; exact stopped.mode, travel := by rw [crane]; exact stopped.travel
            lift := by rw [crane]; exact stopped.lift, fork := by rw [crane]; exact stopped.fork, offers := offers },
    { travel := by rw [crane]; exact stopped.counts.1, lift := by rw [crane]; exact stopped.counts.2, front := fails.front
      fire := fails.fire, config := fails.config, key := fails.key, clock := fails.clock
      receiver := by rw [line]; exact ⟨rfl, rfl, rfl, rfl, rfl, rfl, rfl⟩, pending := fails.pending },
    .of_idle_station (by rw [crane]; exact stopped.held.trans held) (by rw [crane]; exact stopped.fork.2.1)
      (by rw [crane, stopped.mode]; exact ⟨(nomatch ·), (nomatch ·)⟩) (by rw [crane, stopped.fork.2.2.1]; exact (nomatch ·))
      (by rw [crane]; exact stopped.clearing) (by rw [fails.fire]; exact calm) (by rw [fails.station]; exact (nomatch ·))⟩

/-- Settles O8. -/
theorem writeIsTriedTwice : Obligations.WriteIsTriedTwice := by
  unfold Obligations.WriteIsTriedTwice
  intro now b0 b1 b2 b3 c e s a ha hp
  refine ⟨whenOn_at ha hp, fun rest t hc list attempt ht atRest => ?_, ?_⟩
  · have again (m : List Host.Cell) (hm : Memory.dropAll (imageAddress (slotIndex c e.slot)) 4 m
        = Memory.dropAll (imageAddress (slotIndex c e.slot)) 4 a.memory) : failedAttempt c e (a.setMemory m) = t := by
      unfold failedAttempt
      rw [if_pos (by exact attempt.le), ht]
      show State.setMemory _ (Memory.dropAll _ 4 m) = _
      rw [hm]
      rfl
    refine ⟨fun port late => (whenOn_at ha hp).trans (congrArg _ ?_), fun port differs wf => (whenOn_at ha hp).trans (congrArg _ ?_)⟩
    · unfold writeLate
      simp only [hc, list]
      rw [if_pos ⟨port, by simpa [State.portLate, msec_eq] using late⟩, show failedAttempt c e a = t from again a.memory rfl]
      exact settle_atRest atRest
    · unfold readback
      simp only [hc, list]
      rw [if_pos port, if_neg differs, again _ (Memory.dropAll_setAll rfl wf)]
      exact settle_atRest atRest
  · intro j hc list attempt station crane mode owed held alone names store stage slot isHeld room pulls
    have calm := crane.calm station
    have job : a.job j.num = some j := by simp [State.job, alone]
    have fails (m : List Host.Cell) : ∃ t, settle (failedAttempt c e (a.setMemory m)) = t ∧ InFaulted .memory t ∧ KeptByFault a t
        ∧ t.dir.writeList = [] ∧ t.dir.port = .idle ∧ t.dir.records = a.dir.records ∧ t.queue.jobs = []
        ∧ ∃ x ∈ t.line.general, x.body = .failed j.bin j.tag .stationFault ∧ x.dest = .station j.requester := by
      let u := recordFault .memory ((a.setMemory m).onDir Directory.endWrite)
      have umode : u.crane.mode ≠ .stopped := mode
      obtain ⟨wqueue, wdir, wroom, woffers⟩ := enterFaulted_committing (s := u) umode alone store stage
      have wfails := failsWork_enterFaulted u
      obtain ⟨k, stops, _⟩ := faultStopped_crane umode
      have wjob : (enterFaulted u).job j.num = some j := by
        unfold State.job
        rw [wqueue]
        exact job
      have wcfg : (enterFaulted u).cfg = u.cfg := by
        rw [wfails.cfg, stops]
        exact ((State.cfg_of_not_halted _ (by exact (nomatch ·))).trans (State.cfg_of_not_halted u (by
          rcases station with h | h <;> show a.station ≠ _ <;> rw [h] <;> exact (nomatch ·))).symm)
      have here : (enterFaulted u).slotIs e.slot .held = true := (slotIs_congr wcfg wdir e.slot .held).trans isHeld
      have unreleased : releaseFor j (enterFaulted u) = enterFaulted u := by
        refine releaseFor_unheld ?_ fun ad had => ?_
        · rw [(enterFaulted_crane umode).held]
          exact held
        · obtain rfl : e.slot = ad := Option.some.inj (slot.symm.trans had)
          exact ⟨slotIs_only here (nomatch ·), fun _ => slotIs_only here (nomatch ·)⟩
      have wpulls : (raise .memory ((a.setMemory m).onDir Directory.endWrite)).front.pulling j.num = false := by
        rw [raise_entered rfl (by exact station), wfails.front, stops]
        exact pulls
      have ends : failedAttempt c e (a.setMemory m) = failNow j.num .stationFault (enterFaulted u) := by
        have waits : (a.setMemory m).committing e = some j := committing_eq names job store stage slot
        unfold failedAttempt requestFail
        rw [if_neg (by show ¬ a.dir.attempt ≤ 1; omega)]
        simp only [waits, wpulls]
        rw [raise_entered rfl (by exact station)]
        rfl
      obtain ⟨gqueue, gline, goffers⟩ := failNow_gone (o := .stationFault) wjob (wroom.trans_lt (by simpa [u, recordFault, State.onLine] using room))
      have gdir : (failNow j.num .stationFault (enterFaulted u)).dir = u.dir := by rw [failNow_dir wjob, unreleased, wdir]
      obtain ⟨inf, kept, writes⟩ := faulted_of_failsWork (f := .memory) (x := failNow j.num .stationFault (enterFaulted u)) umode held calm
        (wfails.trans (failsWork_failNow _ _ _)) (by rw [goffers, woffers]; rfl) (inSet_or_bit _ _) (inSet_or_bit _ _)
      have listed : u.dir.writeList = [] := by show a.dir.writeList.drop 1 = []; rw [list]; rfl
      have rests := settle_atRest (writes.atRest (by rw [gdir]; exact owed) (.inl (by rw [gdir]; exact listed)))
      refine ⟨_, by rw [ends]; exact rests, inf, ⟨kept.travel, kept.lift, kept.front, kept.fire, kept.config, kept.key, kept.clock, kept.receiver,
        kept.pending⟩, by rw [gdir]; exact listed, by rw [gdir]; rfl, by rw [gdir]; rfl, ?_, ?_⟩
      · rw [gqueue, wqueue]
        simp [u, recordFault, State.onLine, State.onFaults, State.onDir, State.setMemory, alone]
      · rw [gline]
        exact ⟨_, List.mem_append_right _ List.mem_cons_self, rfl, rfl⟩
    rintro i (⟨rfl, port, late⟩ | ⟨rfl, port, differs⟩)
    · obtain ⟨t, ht, outcome⟩ := fails a.memory
      refine ⟨t, (whenOn_at ha hp).trans (congrArg _ ?_), outcome⟩
      unfold writeLate
      simp only [hc, list]
      rw [if_pos ⟨port, by simpa [State.portLate, msec_eq] using late⟩]
      exact ht
    · obtain ⟨t, ht, outcome⟩ := fails (Memory.setAll (imageAddress (slotIndex c e.slot)) [b0, b1, b2, b3] a.memory)
      refine ⟨t, (whenOn_at ha hp).trans (congrArg _ ?_), outcome⟩
      unfold readback
      simp only [hc, list]
      rw [if_pos port, if_neg differs]
      exact ht

end Sys2Proof.Machine
end

section
/-! SUPPORT. The key and the panel reset (R185). -/

namespace Sys2Proof.Machine

set_option Elab.async false

open Sys2Proof

/-! ## Reloading (R19) -/

/-- A reload begun in FAULTED waits for its first record, a step held for a place on the write list or not. -/
theorem progress_loading {s : State} (records : s.dir.records = []) (list : s.dir.writeList = []) (station : s.station = .loading)
    (calm : s.fire.state = .calm) (mode : s.crane.mode = .stopped) (still : StillWhenStopped s.crane) : progress s = none := by
  have h1 : finishHeld s = none := by
    unfold finishHeld
    split
    · exact if_neg (by simp [Directory.holds, records])
    · rfl
  have h6 : haltingReport s = none := if_neg (by simp [calm])
  have h8 : homedAtFront s = none := if_neg (by rw [still.homing_none (by rw [mode]; exact (nomatch ·))]; simp)
  have h9 : sealedByScl s = none := by
    unfold sealedByScl
    simp only [calm]
  have h10 : reopen s = none := by
    unfold reopen
    simp only [calm]
  have h11 : opened s = none := if_neg (by simp [calm])
  have out : s.inService = true → False := by simp [State.inService, station]
  unfold progress
  simp [h1, fillOwed_none (s := s) (by rw [Directory.firstOwed, records]; rfl), beginWrite_none (.inl list), stepProgress_none (still.still mode).2.2,
    craneRests_none (s := s) (by simp [mode]), h6, clearProgress_none (still.clearing_none (by rw [mode]; exact (nomatch ·))), h8, h9, h10, h11,
    serveGive_none (fun h => (out h).elim), nextStep_none (fun h => (out h).elim), selection_none (fun h => (out h).elim)]

/-! ## Homing refused by its checks (R55, R57) -/

theorem inSet_or (u v : Word) (f : FaultName) : inSet (u ||| v) f = (inSet u f || inSet v f) := by simp [inSet]

theorem InFaulted.withDir {f : FaultName} {t : State} (h : InFaulted f t) (d : Directory) (m : List Host.Cell) :
    InFaulted f { t with dir := d, memory := m } :=
  ⟨h.station, h.current, h.accrued, h.mode, h.travel, h.lift, h.fork, h.offers⟩

/-- A further fault raised in FAULTED is put in the sets. -/
theorem InFaulted.recordFault {f : FaultName} {t : State} (h : InFaulted f t) (g : FaultName) : InFaulted f (recordFault g t) :=
  ⟨h.station, (inSet_or _ _ f).trans (by rw [h.current]; rfl), (inSet_or _ _ f).trans (by rw [h.accrued]; rfl), h.mode, h.travel, h.lift, h.fork,
    h.offers⟩

/-- The crane as its homing ends before it drives. -/
def Crane.unready (k : Crane) (c : Config) (clock : Nat) : Crane := { k.readied c clock with mode := .idle, homing := none, homeTimer := none }

theorem startHoming_refused {c : Config} {s : State} (hc : s.cfg = some c) (refused : s.sensors.fkc = false ∨ anyLimit s.sensors = true) :
    startHoming s = (let t := { s with crane := s.crane.unready c s.clock }
      let t := if anyLimit s.sensors then raise .limit t else t
      if !s.sensors.fkc then raise .home t else t) := by
  unfold startHoming
  simp only [hc]
  rw [if_pos (by rcases refused with h | h <;> simp [h])]
  unfold endMotion Crane.unready Crane.readied
  simp only [State.inMs, msec_eq]
  rfl

/-- What homing refused comes to, from a state `s` whose current set was empty. -/
structure HomingRefused (s t : State) : Prop where
  home : s.sensors.fkc = false → InFaulted .home t
  limit : anyLimit s.sensors = true → InFaulted .limit t
  sets : inSet t.faults.current .home = !s.sensors.fkc ∧ inSet t.faults.current .limit = anyLimit s.sensors
  counts : t.crane.lift.count = s.crane.lift.count ∧ t.crane.travel.count = s.crane.travel.count
  suspension : t.faults.suspension = s.faults.suspension
  front : t.front = s.front
  fire : t.fire = s.fire
  config : t.config = s.config
  armed : t.prkArmed = s.prkArmed

theorem homing_refused {c : Config} {s : State} (station : s.station = .homing) (hc : s.config = some c) (calm : s.fire.state = .calm)
    (held : s.crane.held = none) (current : s.faults.current = 0) (refused : s.sensors.fkc = false ∨ anyLimit s.sensors = true) :
    OnlyWrites (startHoming s) ∧ HomingRefused s (startHoming s) := by
  have hcfg : s.cfg = some c := (State.cfg_of_not_halted s (by rw [station]; exact (nomatch ·))).trans hc
  have entered (f : FaultName) (severe : f.severe = true) (v : State) (hv : v = { s with crane := s.crane.unready c s.clock }) :
      InFaulted f (raise f v) ∧ KeptByFault s (raise f v) ∧ OnlyWrites (raise f v) ∧ (raise f v).faults.current = 0 ||| f.bit
        ∧ (raise f v).faults.suspension = s.faults.suspension := by
    subst hv
    rw [raise_entered severe (.inr (by exact station))]
    obtain ⟨inf, kept, writes⟩ := faulted_of_failsWork (f := f) (s := recordFault f { s with crane := s.crane.unready c s.clock })
      (by exact (nomatch ·)) (by exact held) (by exact calm) (failsWork_enterFaulted _) rfl (inSet_or_bit _ _) (inSet_or_bit _ _)
    refine ⟨inf, ⟨kept.travel, kept.lift, kept.front, kept.fire, kept.config, kept.key, kept.clock, kept.receiver, kept.pending⟩, writes, ?_, ?_⟩
    · rw [enterFaulted_faults (.inr rfl), ← current]
      rfl
    · rw [enterFaulted_faults (.inr rfl)]
      rfl
  rw [startHoming_refused hcfg refused]
  cases limit : anyLimit s.sensors
  · have off : s.sensors.fkc = false := by simpa [limit] using refused
    obtain ⟨inf, kept, writes, set, suspension⟩ := entered .home rfl _ rfl
    simp only [off]
    refine ⟨writes, fun _ => inf, (by simp [limit]), ?_, ⟨kept.lift, kept.travel⟩, suspension, kept.front, kept.fire,
      kept.config, kept.key.2.1⟩
    simp only [Bool.false_eq_true, if_false, Bool.not_false, if_true, set, off, limit]
    decide
  · obtain ⟨inf, kept, writes, set, suspension⟩ := entered .limit rfl _ rfl
    simp only [if_true]
    cases off : s.sensors.fkc
    · have again : raise .home (raise .limit { s with crane := s.crane.unready c s.clock })
          = recordFault .home (raise .limit { s with crane := s.crane.unready c s.clock }) := by
        rcases raise_cases .home (raise .limit { s with crane := s.crane.unready c s.clock }) with ⟨h, _⟩ | ⟨_, h, _⟩ | ⟨_, h, _⟩
        · exact h
        · rw [inf.station] at h
          rcases h with h | h <;> cases h
        · rw [inf.station] at h
          cases h
      simp only [Bool.not_false, if_true, again]
      refine ⟨.of_idle_station writes.held writes.step writes.mode writes.front writes.clearing ?_ ?_,
        fun _ => ?_, fun _ => inf.recordFault .home, ?_, ⟨kept.lift, kept.travel⟩, suspension, kept.front, kept.fire,
        kept.config, kept.key.2.1⟩
      · rw [recordFault_fire, kept.fire]
        exact calm
      · rw [recordFault_station, inf.station]
        exact (nomatch ·)
      · exact ⟨inf.station, inSet_or_bit _ _, inSet_or_bit _ _, inf.mode, inf.travel, inf.lift, inf.fork, inf.offers⟩
      · rw [off, limit, show (recordFault .home (raise .limit { s with crane := s.crane.unready c s.clock })).faults.current
          = (raise .limit { s with crane := s.crane.unready c s.clock }).faults.current ||| FaultName.home.bit from rfl, set]
        decide
    · simp only [Bool.not_true, Bool.false_eq_true, if_false]
      refine ⟨writes, (by simp [off]), fun _ => inf, ?_, ⟨kept.lift, kept.travel⟩, suspension, kept.front, kept.fire,
        kept.config, kept.key.2.1⟩
      rw [set, off, limit]
      decide

/-! ## The key (R185) -/

/-- The station as the panel reset finds it: the key used up, the current set cleared, the offers gone. -/
def panelCleared (a : State) : State := closeOffers { a with prkArmed := false, faults := { a.faults with current := 0 } }

/-- Settles O6. -/
theorem keyIsFollowed : Obligations.KeyIsFollowed := by
  unfold Obligations.KeyIsFollowed
  intro now since s a ha hp
  have change (active : Bool) : exec (.prkInputChange now active) s = .next (prkChange active a) := whenOn_at ha hp
  refine ⟨change false, fun off => ?_, fun on => ?_, fun idle => ?_, fun on armed run held => ?_⟩
  · rw [change]
    simp [prkChange, off, State.setKey]
  · rw [change]
    simp [prkChange, on]
  · refine (whenOn_at ha hp).trans (congrArg _ (if_neg ?_))
    rcases idle with h | h <;> simp [State.keyDue, h]
  · have turned : exec (.keyTurn now) s = .next (if a.station = .faulted then
        settle (if inSet a.faults.current .memory || !a.dir.holds then beginLoading (panelCleared a) else enterHoming (panelCleared a))
          else { a with prkArmed := false }) := by
      refine (whenOn_at ha hp).trans (congrArg _ ((if_pos ?_).trans rfl))
      simp [State.keyDue, on, armed, run, msec_eq, held]
    have calm (faulted : a.station = .faulted) (crane : CraneHeld a) : a.fire.state = .calm := by
      by_contra hf
      rcases crane.fire hf with h | h | h <;> rw [faulted] at h <;> cases h
    refine ⟨fun other => ?_, fun faulted crane reload => ?_, fun c faulted crane hc kept records unheld refused => ?_,
      fun c faulted crane hc kept records unheld centred ready vhs tll tlh vll vlh => ?_⟩
    · rw [turned, if_neg other]
    all_goals rw [turned, if_pos faulted]
    · rw [if_pos (by rcases reload with h | h <;> simp [h, Directory.holds])]
      have stopped := crane.stopped (by simp [State.outputsHeld, faulted])
      refine ⟨_, congrArg _ (settle_of_none (progress_loading rfl rfl rfl (calm faulted crane) stopped crane.stillWhenStopped)), ?_⟩
      exact ⟨rfl, rfl, rfl, (by show primaryOf 0 = none; decide), rfl, rfl, rfl, rfl, rfl, rfl, rfl, rfl, rfl, rfl, rfl, rfl, rfl, rfl, rfl, rfl, rfl,
        rfl, rfl⟩
    all_goals rw [if_neg (by simp [kept, Directory.holds, records])]
    · have homing : enterHoming (panelCleared a) = startHoming ((panelCleared a).setStation .homing) := by
        unfold enterHoming
        exact if_neg (by show ¬ hasSevere 0 = true; decide)
      rw [homing]
      obtain ⟨writes, out⟩ := homing_refused (c := c) (s := (panelCleared a).setStation .homing) rfl hc (calm faulted crane) unheld rfl refused
      obtain ⟨d, m, hs, _⟩ := writes.settle_eq
      rw [hs]
      exact ⟨_, rfl, out.armed, fun h => (out.home h).withDir d m, fun h => (out.limit h).withDir d m, out.sets.1, out.sets.2, out.counts.1,
        out.counts.2, out.suspension, out.front, out.fire, out.config⟩
    · rw [enterHoming_drives (c := c) (s := panelCleared a) (by show hasSevere 0 = false; decide) hc (calm faulted crane) centred ready
        (by show anyLimit a.sensors = false; simp [anyLimit, tll, tlh, vll, vlh])]
      obtain ⟨d, m, hs, _⟩ := (onlyWrites_homes (s := { panelCleared a with
        station := .homing, crane := (panelCleared a).crane.homes c (panelCleared a).clock (panelCleared a).sensors.vhs }) rfl rfl (calm faulted crane) unheld
        (crane.stillWhenStopped.clearing_none (by rw [crane.stopped (by simp [State.outputsHeld, faulted])]; exact (nomatch ·)))).settle_eq
      rw [hs, show (panelCleared a).sensors.vhs = false from vhs]
      exact ⟨_, rfl, rfl, rfl, rfl, rfl, rfl, rfl, rfl, rfl, rfl, rfl, rfl, rfl, rfl, rfl, rfl, rfl, rfl, rfl, rfl, rfl, rfl, rfl⟩

end Sys2Proof.Machine
end

section
/-! SUPPORT. The directory loaded from the record memory, first and again (R16 to R20, R181). -/

namespace Sys2Proof.Machine

set_option Elab.async false

open Sys2Proof

/-! ## Records changed with room on the write list -/

theorem mem_of_mem_setAt {α : Type} {i : Nat} {x y : α} {l : List α} (h : x ∈ setAt i y l) : x = y ∨ x ∈ l := by
  induction l generalizing i with
  | nil => simp at h
  | cons z zs ih =>
    cases i with
    | zero => exact (List.mem_cons.mp h).imp_right (List.mem_cons_of_mem _)
    | succ k =>
      rcases List.mem_cons.mp h with rfl | h
      · exact .inr List.mem_cons_self
      · exact (ih h).imp_right (List.mem_cons_of_mem _)

section
variable {ad : SlotAddr} {i bin : Nat} {st : SlotState} {job : Option Nat} {r : SlotRec} {d : Directory}

theorem put_records {new : SlotRec} (hr : getAt i d.records = some r) : (Directory.put i new d).records = setAt i new d.records := by
  rcases put_cases i new d with ⟨none_there, _⟩ | ⟨_, _, hp⟩
  · rw [hr] at none_there
    cases none_there
  · rw [hp]

theorem oweWrite_records (hr : getAt i d.records = some r) (room : d.writeRoom ad = true) :
    (Directory.oweWrite ad i ⟨st, bin, false⟩ job d).records = setAt i ⟨st, bin, false⟩ d.records := by
  unfold Directory.oweWrite
  rw [if_pos room, addWrite_records]
  exact put_records hr

theorem change_records (hr : getAt i d.records = some r) (owed : r.owed = false) (room : d.writeRoom ad = true) :
    (Directory.change ad i st bin job d).records = setAt i ⟨st, bin, false⟩ d.records := by
  unfold Directory.change
  simp only [hr, owed]
  split
  · exact put_records hr
  · exact oweWrite_records hr room

theorem force_records (hr : getAt i d.records = some r) (owed : r.owed = false) (room : d.writeRoom ad = true) :
    (Directory.force ad i st bin job d).records = setAt i ⟨st, bin, false⟩ d.records := by
  unfold Directory.force
  simp only [hr, owed]
  exact oweWrite_records hr room

end

/-! ## The records read -/

/-- The station with the records read taken as its directory. -/
def loaded (rs : List SlotRec) (s : State) : State :=
  { s with dir := { s.dir with records := rs, emptyCount := countEmpty rs, port := .idle, staging := [] } }

theorem markDuplicates_single {rs : List SlotRec} (single : ∀ r ∈ rs, r.state = .held → heldTwice r.bin rs = false) : markDuplicates rs = rs := by
  unfold markDuplicates
  refine (List.map_congr_left fun r hr => ?_).trans (List.map_id rs)
  refine if_neg fun h => ?_
  obtain ⟨held, twice⟩ := (Bool.and_eq_true _ _).mp h
  rw [single r hr (by simpa [SlotRec.isHeld] using held)] at twice
  cases twice

/-- Records with nothing to mark are held as read (R16). -/
theorem holdRecords_plain {s : State} (unowed : ∀ r ∈ s.dir.staging, r.owed = false)
    (single : ∀ r ∈ s.dir.staging, r.state = .held → heldTwice r.bin s.dir.staging = false) : holdRecords s = loaded s.dir.staging s := by
  have clean (p : SlotRec → Bool) (hp : ∀ r, p r = true → r.owed = true) : s.dir.staging.any p = false := by
    refine List.any_eq_false.mpr fun r hr h => ?_
    have := hp r h
    rw [unowed r hr] at this
    cases this
  unfold holdRecords
  simp only [markDuplicates_single single]
  rw [clean SlotRec.madeCorrupt (by simp [SlotRec.madeCorrupt]), clean (fun r => r.state == .blocked .duplicate && r.owed) (by simp)]
  rfl

/-- With a bin held twice DIRECTORY is raised (R17), a second time when a record was made CORRUPT too. -/
theorem holdRecords_marked {s : State} (twice : ∃ q ∈ s.dir.staging, q.state = .held ∧ heldTwice q.bin s.dir.staging = true) :
    ∃ u g k, holdRecords s = recordFault .directory { loaded (markDuplicates s.dir.staging) s with
      faults := u, line := { s.line with general := g, reserved := k } } := by
  obtain ⟨q, hq, held, both⟩ := twice
  have marked : (markDuplicates s.dir.staging).any (fun r => r.state == .blocked .duplicate && r.owed) = true :=
    List.any_eq_true.mpr ⟨_, List.mem_map_of_mem hq, by simp [SlotRec.isHeld, held, both]⟩
  unfold holdRecords
  simp only [marked, raise_mild _ (show FaultName.directory.severe = false from rfl), if_true]
  split <;> exact ⟨_, _, _, rfl⟩

theorem getAt_markDuplicates {k : Nat} {q : SlotRec} {rs : List SlotRec} (h : getAt k rs = some q) :
    ∃ p, getAt k (markDuplicates rs) = some p ∧ p.bin = q.bin
      ∧ p.state = (if q.state = .held ∧ heldTwice q.bin rs = true then .blocked .duplicate else q.state) := by
  refine ⟨_, (getAt_map _ _ _).trans (congrArg _ h), ?_⟩
  by_cases both : q.state = .held ∧ heldTwice q.bin rs = true
  · simp [SlotRec.isHeld, both]
  · dsimp only
    rw [if_neg both, if_neg (by simpa [SlotRec.isHeld] using both)]
    exact ⟨rfl, rfl⟩

/-- The station with the last record of a load read. -/
def lastRead (bytes : List Byte) (rs : List SlotRec) (a : State) : State :=
  { a with
    memory := Memory.setAll (128 + 4 * a.dir.staging.length) bytes a.memory
    dir := { a.dir with portSince := a.clock, staging := rs } }

/-- The last record of a load ends it. -/
theorem takeImage_last {c : Config} {b0 b1 b2 b3 : Byte} {rs : List SlotRec} {a : State} (hc : a.config = some c) (station : a.station = .loading)
    (port : a.dir.port = .reading) (last : a.dir.staging.length + 1 = Config.capacity c)
    (hrs : rs = a.dir.staging ++ [readImage [b0, b1, b2, b3]]) : takeImage [b0, b1, b2, b3] a = settle (endLoad (lastRead [b0, b1, b2, b3] rs a)) := by
  have hcfg : a.cfg = some c := (State.cfg_of_not_halted a (by rw [station]; exact (nomatch ·))).trans hc
  subst hrs
  unfold takeImage
  simp only [hcfg]
  rw [if_pos ⟨station, port, by omega⟩, if_pos (by simpa [State.onDir, State.setMemory] using last)]
  rfl

/-! ## The jobs applied again (R19, R20) -/

section
variable {c : Config} {s : State} (hc : s.cfg = some c) (held : s.crane.held = none)
include hc held

/-- With no step held the jobs alone are applied again. -/
theorem reapply_jobs : reapply s = (let t := s.queue.jobs.foldl reapplyJob s
    let marked := t.queue.jobs.foldl (blockDuplicates c) (t, false)
    if marked.2 then raise .directory marked.1 else marked.1) := by
  have unheld : reapplyHeld s = s := by
    unfold reapplyHeld
    rw [held]
  have all : s.queue.jobs.filter (fun j => (none : Option Nat) != some j.num) = s.queue.jobs := List.filter_eq_self.mpr fun _ _ => rfl
  unfold reapply
  simp only [hc, unheld, held, Option.map_none, all]

theorem reapply_none (jobs : s.queue.jobs = []) : reapply s = s := by
  rw [reapply_jobs hc held]
  simp [jobs]

/-- One job whose bin stands in no other HELD record. -/
theorem reapply_one {j : Job} {t : State} (jobs : s.queue.jobs = [j]) (ht : reapplyJob s j = t) (tjobs : t.queue.jobs = [j])
    (single : duplicatesOf (j.slot.map (slotIndex c)) j.bin 0 t.dir.records = []) : reapply s = t := by
  rw [reapply_jobs hc held]
  simp [jobs, ht, tjobs, blockDuplicates, single]

end

theorem duplicatesOf_nil {i bin k : Nat} {rs : List SlotRec}
    (single : ∀ m p, k + m ≠ i → getAt m rs = some p → p.state = .held → p.bin ≠ bin) : duplicatesOf (some i) bin k rs = [] := by
  induction rs generalizing k with
  | nil => rfl
  | cons r rs ih =>
    unfold duplicatesOf
    rw [if_neg ?_]
    · exact ih fun m p other hp => single (m + 1) p (by omega) hp
    · intro h
      simp only [SlotRec.isHeld, Bool.and_eq_true, beq_iff_eq, bne_iff_ne, ne_eq, Option.some.injEq] at h
      exact single 0 r (fun hk => h.2 (by omega)) rfl h.1.1 h.1.2

/-- A kept job's slot gets the record the job's stage calls for (R19). -/
theorem reapplyJob_records {c : Config} {i : Nat} {ad : SlotAddr} {j : Job} {q q' : SlotRec} {s : State} (hc : s.cfg = some c)
    (slot : j.slot = some ad) (names : namesRecord c ad = true) (hi : slotIndex c ad = i) (hq : getAt i s.dir.records = some q)
    (owed : q.owed = false) (list : s.dir.writeList = [])
    (which : (j.kind = .fetch ∧ (j.stage = .toPlace ∨ j.stage = .placing ∨ j.stage = .dispatching) ∧ q' = ⟨.empty, 0, false⟩)
      ∨ (j.kind = .store ∧ j.stage = .committing ∧ q' = ⟨.held, j.bin, false⟩)
      ∨ (j.kind = .store ∧ j.stage ≠ .committing ∧ q.state = .empty ∧ q' = ⟨.inbound, j.bin, false⟩)) :
    ∃ d, reapplyJob s j = { s with dir := d } ∧ d.records = setAt i q' s.dir.records := by
  have room : s.dir.writeRoom ad = true := by simp [Directory.writeRoom, list]
  have here : s.slotRec ad = some q := (slotRec_at hc names hi).trans hq
  unfold reapplyJob
  simp only [slot]
  rcases which with ⟨kind, stage, rfl⟩ | ⟨kind, stage, rfl⟩ | ⟨kind, stage, empty, rfl⟩ <;> simp only [kind, hc]
  · rw [if_pos (by rcases stage with h | h | h <;> simp [Job.offSlot, h]), if_pos names, hi]
    exact ⟨_, rfl, change_records hq owed room⟩
  · rw [if_pos stage]
    unfold forceSlot
    simp only [hc, names, hi]
    exact ⟨_, rfl, force_records hq owed room⟩
  · rw [if_neg stage, if_pos (by simp [State.slotIs, here, empty])]
    unfold reserveInbound requestChange
    simp only [hc, here, empty, hi]
    exact ⟨_, rfl, change_records hq owed room⟩

/-! ## The load ends (R181, R182) -/

/-- A station at rest that goes on to another state out of service has only writes before it. -/
theorem AtRest.leaves {a y : State} (h : AtRest a) (cfg : y.cfg = a.cfg) (crane : y.crane = a.crane) (fire : y.fire = a.fire) (clock : y.clock = a.clock)
    (sensors : y.sensors = a.sensors) (station : y.station ≠ .run) : OnlyWrites y := by
  have out : y.inService = true → False := by simp [State.inService, station]
  have settled : y.finSettledNow = a.finSettledNow := by simp only [State.finSettledNow, cfg, fire, clock]
  refine ⟨?_, ?_, ?_, ?_, ?_, ?_, ?_, ?_, ?_, fun h => (out h).elim, fun h => (out h).elim, fun h => (out h).elim⟩
  all_goals simp only [crane, fire, sensors, settled]
  · exact h.held
  · exact h.step
  · exact h.mode
  · exact h.front
  · exact h.clearing
  · exact h.halting
  · exact h.scl
  · exact h.reopening
  · exact h.sop

/-- The station gone on to its first acquisition. -/
def acquiring (x : State) : State := { x with station := .acquiring, line := { x.line with mode := .loopTest } }

theorem endLoad_first {c : Config} {s x : State} (hx : holdRecords s = x) (hc : x.cfg = some c) (held : x.crane.held = none)
    (jobs : x.queue.jobs = []) (first : x.line.everLocked = false) (off : x.line.mode = .off) : endLoad s = acquiring x := by
  unfold endLoad
  rw [hx, reapply_none hc held jobs]
  simp only [first]
  exact congrArg (fun l => { x with station := .acquiring, line := l }) (if_pos off)

/-- Settles O5. -/
theorem imageRecordsMakeDirectory : Obligations.ImageRecordsMakeDirectory := by
  unfold Obligations.ImageRecordsMakeDirectory
  intro now b0 b1 b2 b3 c bin r s a ha hp hc station port hbin hr
  have image : readImage [b0, b1, b2, b3] = r := by
    have number : binAt [b0, b1, b2, b3] 1 = bin := by
      rw [hbin]
      show (b1.toNat * 256 + b2.toNat) * 256 + b3.toNat = _
      omega
    unfold readImage
    rw [hr, number]
    rfl
  have hcfg : a.cfg = some c := (State.cfg_of_not_halted a (by rw [station]; exact (nomatch ·))).trans hc
  have runs {t : State} (h : takeImage [b0, b1, b2, b3] a = t) : exec (.imageRecordRead now b0 b1 b2 b3) s = .next t :=
    (whenOn_at ha hp).trans (congrArg _ h)
  refine ⟨fun more => runs ?_, fun rs rest last hrs unowed single list jobs first off => runs ?_,
    fun rs rest last hrs twice list jobs first off => ?_, fun rs j ad i q q' last hrs unowed single list again calm mild held clearing centred
      ready limits jobs slot names hi hq alone which => ?_⟩
  · unfold takeImage
    simp only [hcfg]
    rw [if_pos ⟨station, port, by omega⟩, if_neg (by simp [State.onDir, State.setMemory]; omega), image]
    rfl
  all_goals rw [← image] at hrs
  all_goals have took := takeImage_last hc station port last hrs
  · have plain : holdRecords (lastRead [b0, b1, b2, b3] rs a) = loaded rs (lastRead [b0, b1, b2, b3] rs a) := holdRecords_plain unowed single
    have writes : OnlyWrites (acquiring (loaded rs (lastRead [b0, b1, b2, b3] rs a))) :=
      rest.leaves ((State.cfg_of_not_halted _ (by exact (nomatch ·))).trans (hc.trans hcfg.symm)) rfl rfl rfl rfl (by exact (nomatch ·))
    rw [took, endLoad_first plain hcfg rest.held jobs first off]
    exact settle_atRest (writes.atRest (findPlace_none.mpr unowed) (.inl list))
  · obtain ⟨u, g, k, hx⟩ := holdRecords_marked (s := lastRead [b0, b1, b2, b3] rs a) twice
    have ends := endLoad_first hx hcfg rest.held jobs first off
    have writes := rest.leaves (y := acquiring (recordFault .directory { loaded (markDuplicates rs) (lastRead [b0, b1, b2, b3] rs a) with
      faults := u, line := { a.line with general := g, reserved := k } }))
      ((State.cfg_of_not_halted _ (by exact (nomatch ·))).trans (hc.trans hcfg.symm)) rfl rfl rfl rfl (by exact (nomatch ·))
    obtain ⟨d, m, hs, same⟩ := writes.settle_eq
    have slots : d.records.map (fun r => (r.state, r.bin)) = (markDuplicates rs).map (fun r => (r.state, r.bin)) := same.slots
    refine ⟨_, runs (took.trans ((congrArg settle ends).trans hs)), rfl, rfl, inSet_or_bit _ _, inSet_or_bit _ _, ?_, fun k q hq => ?_⟩
    · have := congrArg List.length slots
      simpa [markDuplicates] using this
    · obtain ⟨p, hp, bin, state⟩ := getAt_markDuplicates hq
      have there := (getAt_map _ k d.records).symm.trans ((congrArg (getAt k) slots).trans ((getAt_map _ k _).trans (congrArg _ hp)))
      cases hp' : getAt k d.records with
      | none => rw [hp'] at there; cases there
      | some p' =>
        rw [hp'] at there
        obtain ⟨sameState, sameBin⟩ := Prod.mk.inj (Option.some.inj there)
        exact ⟨p', rfl, sameBin.trans bin, sameState.trans state⟩
  · have plain : holdRecords (lastRead [b0, b1, b2, b3] rs a) = loaded rs (lastRead [b0, b1, b2, b3] rs a) := holdRecords_plain unowed single
    obtain ⟨d, hd, records⟩ := reapplyJob_records (c := c) (j := j) (q := q) (q' := q') (s := loaded rs (lastRead [b0, b1, b2, b3] rs a)) hcfg slot
      names hi hq (unowed q (mem_of_getAt hq)) list which
    have single' : duplicatesOf (j.slot.map (slotIndex c)) j.bin 0 d.records = [] := by
      rw [slot, Option.map_some, hi]
      refine duplicatesOf_nil fun m p other hp => ?_
      rw [Nat.zero_add] at other
      rw [records] at hp
      exact alone m p other ((getAt_setAt_other other).symm.trans hp)
    have applied : endLoad (lastRead [b0, b1, b2, b3] rs a) = enterHoming { loaded rs (lastRead [b0, b1, b2, b3] rs a) with dir := d } := by
      unfold endLoad
      rw [plain, reapply_one (c := c) (s := loaded rs (lastRead [b0, b1, b2, b3] rs a))
        (t := { loaded rs (lastRead [b0, b1, b2, b3] rs a) with dir := d }) hcfg held jobs hd jobs single']
      exact if_pos again
    obtain ⟨e, m, hs, same⟩ := (onlyWrites_homes (s := { loaded rs (lastRead [b0, b1, b2, b3] rs a) with
      dir := d, station := .homing, crane := a.crane.homes c a.clock a.sensors.vhs }) rfl rfl calm held clearing).settle_eq
    have drives := enterHoming_drives (c := c) (s := { loaded rs (lastRead [b0, b1, b2, b3] rs a) with dir := d }) mild hc calm centred ready limits
    refine ⟨_, runs (took.trans ((congrArg settle (applied.trans drives)).trans hs)), rfl, rfl, rfl, rfl, ?_, jobs⟩
    refine (same.unowed ?_).trans records
    show findPlace _ d.records = none
    rw [records]
    refine findPlace_none.mpr fun p hp => ?_
    rcases mem_of_mem_setAt hp with rfl | old
    · rcases which with ⟨_, _, rfl⟩ | ⟨_, _, rfl⟩ | ⟨_, _, _, rfl⟩ <;> rfl
    · exact unowed p old

end Sys2Proof.Machine
end

section
/-! SUPPORT. The nearest-empty choice, the present position and the estimates (R5, R87 to R100). -/

namespace Sys2Proof.Machine

set_option Elab.async false

open Sys2Proof

/-! ## The nearest-empty choice (R5) -/

/-- `a` is not chosen after `b`: less leg time, then the lower level, the lower bay, the lower face. -/
def NotFarther (c : Config) (a b : SlotAddr) : Prop :=
  leg c ⟨0, 1⟩ ⟨a.bay, a.level⟩ < leg c ⟨0, 1⟩ ⟨b.bay, b.level⟩
  ∨ (leg c ⟨0, 1⟩ ⟨a.bay, a.level⟩ = leg c ⟨0, 1⟩ ⟨b.bay, b.level⟩
    ∧ (a.level < b.level ∨ (a.level = b.level ∧ (a.bay < b.bay ∨ (a.bay = b.bay ∧ faceIndex a.face ≤ faceIndex b.face)))))

theorem nearer_iff {c : Config} {a b : SlotAddr} : nearer c a b = true ↔ ¬ NotFarther c b a := by
  unfold nearer NotFarther
  simp only [Bool.or_eq_true, Bool.and_eq_true, decide_eq_true_eq, beq_iff_eq]
  simp only [SlotAddr.pos, Pos.front]
  omega

theorem notFarther_of_nearer {c : Config} {a b : SlotAddr} (h : nearer c a b = true) : NotFarther c a b := by
  have := nearer_iff.mp h
  unfold NotFarther at *
  omega

theorem notFarther_of_not_nearer {c : Config} {a b : SlotAddr} (h : ¬ nearer c b a = true) : NotFarther c a b :=
  not_not.mp fun far => h (nearer_iff.mpr far)

theorem NotFarther.refl (c : Config) (a : SlotAddr) : NotFarther c a a := .inr ⟨rfl, .inr ⟨rfl, .inr ⟨rfl, le_rfl⟩⟩⟩

theorem NotFarther.trans {c : Config} {x y z : SlotAddr} (h : NotFarther c x y) (k : NotFarther c y z) : NotFarther c x z := by
  unfold NotFarther at *
  omega

theorem face_le_iff {a b : Face} : faceIndex a ≤ faceIndex b ↔ a = .left ∨ b = .right := by cases a <;> cases b <;> decide

/-- The better of the best so far and the slot of the next record. -/
def nearestStep (c : Config) (i : Nat) (best : Option SlotAddr) (r : SlotRec) : Option SlotAddr :=
  if r.state = .empty then
    match best with
    | none => some (slotAt c i)
    | some b => if nearer c (slotAt c i) b then some (slotAt c i) else some b
  else best

theorem nearestFrom_cons (c : Config) (i : Nat) (best : Option SlotAddr) (r : SlotRec) (rs : List SlotRec) :
    nearestFrom c i best (r :: rs) = nearestFrom c (i + 1) (nearestStep c i best r) rs := rfl

/-- An EMPTY record leaves a choice that is its slot or the one before it, neither of them nearer. -/
theorem nearestStep_empty {c : Config} {i : Nat} {best : Option SlotAddr} {r : SlotRec} (h : r.state = .empty) :
    ∃ n, nearestStep c i best r = some n ∧ (n = slotAt c i ∨ best = some n) ∧ NotFarther c n (slotAt c i)
      ∧ ∀ b, best = some b → NotFarther c n b := by
  unfold nearestStep
  rw [if_pos h]
  cases best with
  | none => exact ⟨_, rfl, .inl rfl, .refl _ _, nofun⟩
  | some b =>
    dsimp only
    split
    · rename_i near
      exact ⟨_, rfl, .inl rfl, .refl _ _, fun _ hb => Option.some.inj hb ▸ notFarther_of_nearer near⟩
    · rename_i far
      exact ⟨_, rfl, .inr rfl, notFarther_of_not_nearer far, fun _ hb => Option.some.inj hb ▸ .refl _ _⟩

/-- The choice over a stretch of records is the best before them or an EMPTY one among them, and none of these is nearer. -/
theorem nearestFrom_spec {c : Config} (rs : List SlotRec) (i : Nat) (best : Option SlotAddr) :
    (nearestFrom c i best rs = none ↔ best = none ∧ ∀ r ∈ rs, r.state ≠ .empty)
    ∧ ∀ ad, nearestFrom c i best rs = some ad →
      (best = some ad ∨ ∃ k r, getAt k rs = some r ∧ r.state = .empty ∧ ad = slotAt c (i + k))
      ∧ (∀ b, best = some b → NotFarther c ad b)
      ∧ ∀ k q, getAt k rs = some q → q.state = .empty → NotFarther c ad (slotAt c (i + k)) := by
  induction rs generalizing i best with
  | nil => exact ⟨⟨fun h => ⟨h, nofun⟩, fun h => h.1⟩, fun ad h => ⟨.inl h, fun b hb => Option.some.inj (h.symm.trans hb) ▸ .refl _ _,
    fun k q hq => by simp at hq⟩⟩
  | cons r rs ih =>
    rw [nearestFrom_cons]
    obtain ⟨absent, found⟩ := ih (i + 1) (nearestStep c i best r)
    by_cases free : r.state = .empty
    · obtain ⟨n, step, which, near, least⟩ := nearestStep_empty (c := c) (i := i) (best := best) free
      refine ⟨⟨fun h => ?_, fun h => absurd free (h.2 r List.mem_cons_self)⟩, fun ad h => ?_⟩
      · rw [absent, step] at h
        cases h.1
      · obtain ⟨among, before, behind⟩ := found ad h
        have notFar := before n step
        refine ⟨?_, fun b hb => notFar.trans (least b hb), fun k q hq empty => ?_⟩
        · rcases among with h | ⟨k, q, hq, empty, had⟩
          · obtain rfl := Option.some.inj (step.symm.trans h)
            exact which.symm.imp id fun hn => ⟨0, r, rfl, free, hn⟩
          · exact .inr ⟨k + 1, q, hq, empty, by rw [had, Nat.add_right_comm, Nat.add_assoc]⟩
        · cases k with
          | zero => exact notFar.trans near
          | succ k =>
            rw [← Nat.add_assoc, Nat.add_right_comm]
            exact behind k q hq empty
    · have step : nearestStep c i best r = best := if_neg free
      rw [step] at absent found ⊢
      refine ⟨absent.trans ⟨fun h => ⟨h.1, List.forall_mem_cons.mpr ⟨free, h.2⟩⟩, fun h => ⟨h.1, (List.forall_mem_cons.mp h.2).2⟩⟩, fun ad h => ?_⟩
      obtain ⟨among, before, behind⟩ := found ad h
      refine ⟨among.imp id fun ⟨k, q, hq, empty, had⟩ => ⟨k + 1, q, hq, empty, by rw [had, Nat.add_right_comm, Nat.add_assoc]⟩, before,
        fun k q hq empty => ?_⟩
      cases k with
      | zero =>
        obtain rfl := Option.some.inj hq
        exact absurd empty free
      | succ k =>
        rw [← Nat.add_assoc, Nat.add_right_comm]
        exact behind k q hq empty

/-! ## The present position (R89) -/

/-- The candidate with the least `d`, the earliest of equally good ones. -/
def leastOf (d : Nat → Nat) (best : Nat) : List Nat → Nat
  | [] => best
  | n :: ns => leastOf d (if d n < d best then n else best) ns

theorem nearestOf_eq (count : Nat) (place : Nat → Nat) (best : Nat) (ns : List Nat) :
    nearestOf count place best ns = leastOf (fun n => dist count (place n)) best ns := by
  induction ns generalizing best with
  | nil => rfl
  | cons n ns ih => exact ih _

theorem nearestLevel_eq (c : Config) (count best : Nat) (ns : List Nat) :
    nearestLevel c count best ns = leastOf (heightDist c count) best ns := by
  induction ns generalizing best with
  | nil => rfl
  | cons n ns ih => exact ih _

/-- Candidates in ascending order: the choice is one of them, and none is better, nor as good and lower. -/
theorem leastOf_spec {d : Nat → Nat} (ns : List Nat) (best : Nat) (above : ∀ n ∈ ns, best ≤ n) (sorted : ns.Pairwise (· < ·)) :
    leastOf d best ns ∈ best :: ns
    ∧ ∀ n ∈ best :: ns, d (leastOf d best ns) < d n ∨ (d (leastOf d best ns) = d n ∧ leastOf d best ns ≤ n) := by
  induction ns generalizing best with
  | nil => exact ⟨List.mem_cons_self, fun n hn => by simp at hn; subst hn; exact .inr ⟨rfl, le_rfl⟩⟩
  | cons x xs ih =>
    obtain ⟨first, rest⟩ := List.pairwise_cons.mp sorted
    have below : best ≤ x := above x List.mem_cons_self
    unfold leastOf
    split
    · rename_i better
      obtain ⟨mem, least⟩ := ih x (fun n hn => (first n hn).le) rest
      refine ⟨List.mem_cons_of_mem _ mem, fun n hn => ?_⟩
      rcases List.mem_cons.mp hn with rfl | hn
      · have := least x List.mem_cons_self
        omega
      · exact least n hn
    · rename_i worse
      obtain ⟨mem, least⟩ := ih best (fun n hn => above n (List.mem_cons_of_mem _ hn)) rest
      refine ⟨?_, fun n hn => ?_⟩
      · rcases List.mem_cons.mp mem with h | h
        · rw [h]
          exact List.mem_cons_self
        · exact List.mem_cons_of_mem _ (List.mem_cons_of_mem _ h)
      · rcases List.mem_cons.mp hn with rfl | hn
        · exact least n List.mem_cons_self
        · rcases List.mem_cons.mp hn with rfl | hn
          · have := least best List.mem_cons_self
            omega
          · exact least n (List.mem_cons_of_mem _ hn)

theorem range_succ_sorted (n : Nat) : ((List.range n).map (· + 1)).Pairwise (· < ·) := by
  rw [List.pairwise_map]
  exact List.pairwise_lt_range.imp fun h => by omega

theorem mem_range_succ {n m : Nat} : m ∈ (List.range n).map (· + 1) ↔ 1 ≤ m ∧ m ≤ n := by
  simp only [List.mem_map, List.mem_range]
  exact ⟨fun ⟨k, hk, h⟩ => by omega, fun h => ⟨m - 1, by omega, by omega⟩⟩

/-- The present level: one of the aisle's, its nearer height nearest the count, the lower of equally near ones. -/
theorem presentLevel_spec (c : Config) (count : Nat) : 1 ≤ presentLevel c count ∧ (1 ≤ c.levels → presentLevel c count ≤ c.levels)
    ∧ ∀ l, 1 ≤ l → l ≤ c.levels → heightDist c count (presentLevel c count) < heightDist c count l
      ∨ (heightDist c count (presentLevel c count) = heightDist c count l ∧ presentLevel c count ≤ l) := by
  have levels := leastOf_spec (d := heightDist c count) ((List.range c.levels).map (· + 1)) 1
    (fun n hn => (mem_range_succ.mp hn).1) (range_succ_sorted _)
  rw [← nearestLevel_eq] at levels
  obtain ⟨mem, least⟩ := levels
  refine ⟨?_, fun some_level => ?_, fun l low high => least l (List.mem_cons_of_mem _ (mem_range_succ.mpr ⟨low, high⟩))⟩
  · rcases List.mem_cons.mp mem with h | h
    · exact h.ge
    · exact (mem_range_succ.mp h).1
  · rcases List.mem_cons.mp mem with h | h
    · exact h.le.trans some_level
    · exact (mem_range_succ.mp h).2

/-- Settles O36. -/
theorem nearestIsChosen : Obligations.NearestIsChosen := by
  unfold Obligations.NearestIsChosen
  intro c s hc
  have chosen : s.nearestEmpty = nearestFrom c 0 none s.dir.records := by
    unfold State.nearestEmpty
    rw [hc]
  obtain ⟨absent, found⟩ := nearestFrom_spec (c := c) s.dir.records 0 none
  have place : s.position = if s.crane.bothHomed then
      some ⟨presentBay c s.crane.travel.count, presentLevel c s.crane.lift.count⟩ else none := by
    unfold State.position
    rw [hc]
  refine ⟨by rw [chosen, absent]; simp, fun ad h => ?_, fun unhomed => ?_, fun travel lift => ?_⟩
  · rw [chosen] at h
    obtain ⟨from_records, _, least⟩ := found ad h
    rcases from_records with h | ⟨k, r, hr, empty, had⟩
    · cases h
    · refine ⟨k, r, hr, empty, by rw [had, Nat.zero_add], fun m q o hq free ho => ?_⟩
      have := least m q hq free
      rw [Nat.zero_add, ← ho] at this
      simpa only [NotFarther, face_le_iff] using this
  · rw [place, if_neg (by rcases unhomed with h | h <;> simp [Crane.bothHomed, h])]
  · rw [if_pos (by simp [Crane.bothHomed, travel, lift])] at place
    have bays := leastOf_spec (d := fun n => dist s.crane.travel.count (bayCentre c n)) ((List.range c.bays).map (· + 1)) 0
      (fun n _ => Nat.zero_le n) (range_succ_sorted _)
    rw [← nearestOf_eq] at bays
    obtain ⟨bay, leastBay⟩ := bays
    have levels := presentLevel_spec c s.crane.lift.count
    refine ⟨_, place, ?_, ?_, fun some_level => ?_, fun b hb => leastBay b ?_, fun near hnear l low high => ?_⟩
    · rcases List.mem_cons.mp bay with h | h
      · exact h.le.trans (Nat.zero_le _)
      · exact (mem_range_succ.mp h).2
    · exact levels.1
    · exact levels.2.1 some_level
    · rcases Nat.eq_zero_or_pos b with rfl | pos
      · exact List.mem_cons_self
      · exact List.mem_cons_of_mem _ (mem_range_succ.mpr ⟨pos, hb⟩)
    · have heights : near = heightDist c s.crane.lift.count := funext hnear
      rw [heights]
      exact levels.2.2 l low high

/-! ## Service times and the walk (R91 to R94) -/

theorem satAdd_le (a b : Nat) : satAdd a b ≤ 65535 := Nat.min_le_right _ _

theorem satAdd_satAdd (a b d : Nat) : satAdd (satAdd a b) d = min (a + b + d) 65535 := by
  unfold satAdd
  omega

theorem satAdd_four (a b d e : Nat) : satAdd (satAdd (satAdd a b) d) e = min (a + b + d + e) 65535 := by
  unfold satAdd
  omega

section
variable {c : Config} {s : State} (hc : s.cfg = some c)
include hc

theorem walk_unknown (unknown : s.position = none) (jobs : List Job) : s.walk jobs = (65535, Pos.front) := by
  unfold State.walk
  rw [hc, unknown]

theorem walk_known {p : Pos} (known : s.position = some p) (jobs : List Job) : s.walk jobs = jobs.foldl (s.walkOne c) (0, p) := by
  unfold State.walk
  rw [hc, known]

theorem walk_append {p q : Pos} {w : Nat} {jobs : List Job} {j : Job} (known : s.position = some p) (before : s.walk jobs = (w, q)) :
    s.walk (jobs ++ [j]) = s.walkOne c (w, q) j := by
  rw [walk_known hc known, List.foldl_append, ← walk_known hc known, before]
  rfl

end

theorem endPos_front {j : Job} (h : j.kind = .fetch ∨ j.slot = none) : j.endPos = Pos.front := by
  unfold Job.endPos
  rcases h with h | h
  · rw [h]
  · rw [h]
    cases j.kind <;> rfl

theorem endPos_slot {j : Job} {ad : SlotAddr} (kind : j.kind = .store) (slot : j.slot = some ad) : j.endPos = ad.pos := by
  unfold Job.endPos
  rw [kind, slot]

theorem walkOne_active {c : Config} {s : State} {j : Job} {wq : Nat × Pos} (active : j.active = true) :
    s.walkOne c wq j = (satAdd wq.1 (s.remaining j), j.endPos) := by
  unfold State.walkOne
  cases h : j.stage <;> simp_all [Job.active]

/-- With the active job, if any, first, the walk goes over the queue as it stands. -/
theorem backlog_eq {s : State} {j : Job} {rest : List Job} (jobs : s.queue.jobs = j :: rest) (inactive : ∀ k ∈ rest, k.active = false) :
    s.queue.jobs.filter Job.active ++ s.queue.jobs.filter (fun j => !j.active) = j :: rest
      ∧ (∀ n, j.num ≠ n ∨ j.active = false →
        s.queue.jobs.filter Job.active ++ upTo n (s.queue.jobs.filter (fun j => !j.active)) = upTo n (j :: rest)) := by
  have passive : rest.filter Job.active = [] := List.filter_eq_nil_iff.mpr fun k hk => by simp [inactive k hk]
  have others : rest.filter (fun j => !j.active) = rest := List.filter_eq_self.mpr fun k hk => by simp [inactive k hk]
  rw [jobs]
  cases first : j.active
  · simp [first, passive, others]
  · refine ⟨by simp [first, passive, others], fun n hn => ?_⟩
    have other : j.num ≠ n := hn.resolve_right (by simp)
    simp [first, passive, others, upTo, other]

theorem upTo_split {n : Nat} {k : Job} {ahead behind : List Job} (hk : k.num = n) (others : ∀ x ∈ ahead, x.num ≠ n) :
    upTo n (ahead ++ k :: behind) = ahead ++ [k] := by
  induction ahead with
  | nil => simp [upTo, hk]
  | cons x xs ih =>
    obtain ⟨first, rest⟩ := List.forall_mem_cons.mp others
    simp [upTo, first, ih rest]

/-! ## The loop (R95 to R97) -/

theorem loopTerm_le (s : State) : s.loopTerm ≤ 65535 := by
  unfold State.loopTerm
  split
  · exact Nat.min_le_right _ _
  · exact le_rfl

/-- The first FREE carrier after the index, counted from `m` on. -/
theorem freeSteps_found {f : Front} {n m k fuel : Nat} (low : m ≤ k) (high : k < m + fuel)
    (free : getAt ((f.index + k) % n) f.view = some .free)
    (taken : ∀ x, m ≤ x → x < k → getAt ((f.index + x) % n) f.view ≠ some .free) : f.freeSteps n m fuel = k := by
  induction fuel generalizing m with
  | zero => omega
  | succ fuel ih =>
    unfold Front.freeSteps
    by_cases here : m = k
    · subst here
      exact if_pos free
    · rw [if_neg (taken m le_rfl (by omega))]
      exact ih (by omega) (by omega) fun x hx => taken x (by omega)

theorem freeSteps_none {f : Front} {n m fuel : Nat} (taken : ∀ x, m ≤ x → x < m + fuel → getAt ((f.index + x) % n) f.view ≠ some .free) :
    f.freeSteps n m fuel = n := by
  induction fuel generalizing m with
  | zero => rfl
  | succ fuel ih =>
    unfold Front.freeSteps
    rw [if_neg (taken m le_rfl (by omega))]
    exact ih fun x hx hx' => taken x (by omega) (by omega)

theorem stepsTo_eq {f : Front} {n k carrier : Nat} (hk : k < n) (index : f.index < n) (at_carrier : (f.index + k) % n = carrier) :
    f.stepsTo n carrier = k := by
  unfold Front.stepsTo
  subst at_carrier
  rcases Nat.lt_or_ge (f.index + k) n with h | h
  · rw [Nat.mod_eq_of_lt h, show f.index + k + n - f.index = k + n by omega, Nat.add_mod_right, Nat.mod_eq_of_lt hk]
  · rw [Nat.mod_eq_sub_mod h, Nat.mod_eq_of_lt (a := f.index + k - n) (by omega), show f.index + k - n + n - f.index = k by omega, Nat.mod_eq_of_lt hk]

/-- Settles O37. -/
theorem estimatesAreSums : Obligations.EstimatesAreSums := by
  unfold Obligations.EstimatesAreSums
  intro c s hc
  have termOf (u : Nat) (known : s.front.pcs = some u) : s.loopTerm = satMul (s.front.freeSteps c.carriers 1 c.carriers) u := by
    unfold State.loopTerm
    rw [hc, known]
  refine ⟨fun q j ad slot => ⟨fun kind => ?_, fun kind => ?_⟩, fun q j kind slot => ?_, fun unknown => ?_, fun p known => ?_, fun lost => ?_,
    fun unknown => ?_, fun u known => ⟨fun k low high free taken => ?_, fun taken => ?_⟩, fun j w q backlog => ?_, fun carrier missing => ?_,
    fun carrier k u w q ad known best backlog few index at_carrier => ?_⟩
  · unfold service
    rw [kind, slot]
    exact satAdd_four _ _ _ _
  · unfold service
    rw [kind, slot]
    exact satAdd_four _ _ _ _
  · unfold service
    rw [kind, slot]
    rfl
  · have full (n : Nat) : satAdd 65535 n = 65535 := by unfold satAdd; omega
    refine ⟨?_, fun j => ⟨?_, ?_, ?_, ?_⟩⟩
    · unfold State.backlog
      rw [walk_unknown hc unknown]
    · unfold State.serviceEstimate
      rw [hc, unknown]
    · unfold State.placeEstimate
      rw [hc, unknown]
    · unfold State.currentEstimate
      simp only [unknown]
      exact full _
    · unfold State.holdEstimate State.backlog
      simp only [hc, walk_unknown hc unknown, full]
  · refine ⟨walk_known hc known [], fun empty => ?_, fun j => ⟨?_, fun away => ?_, fun ad kind slot => ?_⟩,
      fun jobs j w q e before ends => ?_, fun j rest jobs inactive => ?_⟩
    · unfold State.backlog
      rw [empty]
      exact walk_known hc known []
    · unfold State.serviceEstimate
      rw [hc, known]
    · unfold State.placeEstimate
      simp only [hc, known, endPos_front away]
      rfl
    · unfold State.placeEstimate
      simp only [hc, known, endPos_slot kind slot]
      rfl
    · have last : j.endPos = e := by
        rcases ends with ⟨away, rfl⟩ | ⟨kind, ad, slot, rfl⟩
        · exact endPos_front away
        · exact endPos_slot kind slot
      rw [walk_append hc known before]
      refine ⟨fun stage => ?_, fun stage => ?_, fun active => ?_⟩
      · unfold State.walkOne
        rw [stage]
      · unfold State.walkOne
        rcases stage with h | h <;> rw [h, last] <;> rfl
      · rw [walkOne_active active, last]
        rfl
    · obtain ⟨order, part⟩ := backlog_eq jobs inactive
      refine ⟨by unfold State.backlog; rw [order], fun ahead k behind split others => ⟨fun waiting => ?_, fun active => ?_, fun sent => ?_⟩⟩
      · unfold State.currentEstimate
        simp only [known, waiting]
        rw [part k.num ?_, split, upTo_split rfl others]
        · rfl
        · cases ahead with
          | nil =>
            obtain ⟨rfl, _⟩ := List.cons.inj split
            exact .inr (by simp [Job.active, waiting])
          | cons x xs =>
            obtain ⟨rfl, _⟩ := List.cons.inj split
            exact .inl (others j List.mem_cons_self)
      · unfold State.currentEstimate
        simp only [known]
        cases h : k.stage <;> simp_all [Job.active, satAdd]
      · unfold State.currentEstimate
        simp only [known, sent]
        unfold satAdd
        have := loopTerm_le s
        omega
  · unfold Front.pcs
    rcases lost with h | h | h
    · rw [h]
    · split <;> simp [h]
    · split <;> simp [h]
  · unfold State.loopTerm
    rw [hc, unknown]
  · rw [termOf u known, freeSteps_found low (by omega) free taken]
    rfl
  · rw [termOf u known, freeSteps_none fun x low high => taken x low (by omega)]
    rfl
  · unfold State.holdEstimate
    simp only [hc, backlog, satAdd_satAdd]
  · unfold State.bidCost
    rcases missing with h | h <;> simp only [hc, h]
    cases s.front.pcs <;> rfl
  · unfold State.bidCost
    simp only [hc, known, best, backlog, stepsTo_eq few index at_carrier]
    unfold satAdd satMul
    generalize k * u = steps
    show some _ = some (min (max (w + leg c q Pos.front) steps + c.fork + c.fork + leg c Pos.front ad.pos + s.fillPenalty c) 65535)
    congr 1
    omega

end Sys2Proof.Machine
end

section
/-! SUPPORT. The end of a cycle and its result (R9, R12, R25 to R27, R60 to R63). -/

namespace Sys2Proof.Machine

set_option Elab.async false

open Sys2Proof

/-! ## A record changed with its write (R6, R11, R12) -/

theorem of_slotRec {c : Config} {ad : SlotAddr} {r : SlotRec} {s : State} (hc : s.cfg = some c) (h : s.slotRec ad = some r) :
    namesRecord c ad = true ∧ getAt (slotIndex c ad) s.dir.records = some r := by
  unfold State.slotRec at h
  simp only [hc] at h
  by_cases names : namesRecord c ad = true
  · exact ⟨names, by rwa [if_pos names] at h⟩
  · rw [if_neg names] at h
    cases h

theorem unowed_of {d : Directory} {i : Nat} {r : SlotRec} (owed : d.firstOwed = none) (hr : getAt i d.records = some r) : r.owed = false :=
  findPlace_none.mp owed r (mem_of_getAt hr)

/-- The directory with a record changed and its write last on the list. -/
def Directory.written (ad : SlotAddr) (i : Nat) (st : SlotState) (bin : Nat) (job : Option Nat) (d : Directory) : Directory :=
  { d with
    records := setAt i ⟨st, bin, false⟩ d.records
    emptyCount := d.emptyCount + (if st = .empty then 1 else 0)
    writeList := d.writeList ++ [⟨ad, ⟨st, bin⟩, job, 0⟩] }

/-- A lasting state differing from the record's, in a slot neither EMPTY nor with a write pending, is written. -/
theorem change_written {ad : SlotAddr} {i bin : Nat} {job : Option Nat} {st : SlotState} {r : SlotRec} {d : Directory} (hr : getAt i d.records = some r)
    (owed : r.owed = false) (lasts : st ≠ .outbound ∧ st ≠ .inbound) (differs : r.lasting ≠ ⟨st, bin⟩) (full : r.state ≠ .empty)
    (room : d.writeList.length < 4) (free : d.hasPending ad = false) :
    Directory.change ad i st bin job d = d.written ad i st bin job := by
  have image : SlotRec.lasting ⟨st, bin, false⟩ = ⟨st, bin⟩ := by
    unfold SlotRec.lasting
    cases st <;> simp_all
  unfold Directory.change
  simp only [hr, owed]
  rw [if_neg (by rw [image]; exact differs.symm)]
  unfold Directory.oweWrite
  rw [if_pos (by simp [Directory.writeRoom, room])]
  have put : Directory.put i ⟨st, bin, false⟩ d = { d with
      records := setAt i ⟨st, bin, false⟩ d.records, emptyCount := d.emptyCount + (if st = .empty then 1 else 0) } := by
    unfold Directory.put
    simp [hr, full]
  rw [put, addWrite_new (by exact free), image]
  rfl

theorem requestChange_written {c : Config} {ad : SlotAddr} {job : Option Nat} {r : SlotRec} {src : SlotState → Bool} {st : SlotState} {bin : SlotRec → Nat}
    {s : State} (hc : s.cfg = some c) (here : s.slotRec ad = some r) (state : src r.state = true) (owed : s.dir.firstOwed = none)
    (lasts : st ≠ .outbound ∧ st ≠ .inbound) (differs : r.lasting ≠ ⟨st, bin r⟩) (full : r.state ≠ .empty)
    (room : s.dir.writeList.length < 4) (free : s.dir.hasPending ad = false) :
    requestChange ad src st bin job s = { s with dir := s.dir.written ad (slotIndex c ad) st (bin r) job } := by
  obtain ⟨_, hr⟩ := of_slotRec hc here
  unfold requestChange
  simp only [hc, here, state, if_true]
  exact congrArg (fun d => { s with dir := d }) (change_written hr (unowed_of owed hr) lasts differs full room free)

section
variable {c : Config} {ad : SlotAddr} {n : Nat} {r : SlotRec} {s : State} (hc : s.cfg = some c) (here : s.slotRec ad = some r)
  (owed : s.dir.firstOwed = none) (room : s.dir.writeList.length < 4) (free : s.dir.hasPending ad = false)
include hc here owed room free

theorem resultChange_picked (state : r.state = .outbound) : resultChange .pickVerified ad n s = { s with
    dir := s.dir.written ad (slotIndex c ad) .empty 0 (some n) } :=
  requestChange_written (src := (· == .outbound)) (st := .empty) (bin := fun _ => 0) hc here (by simp [state]) owed
    (by simp) (by simp [SlotRec.lasting, state]) (by simp [state]) room free

theorem resultChange_missing (state : r.state = .outbound) : resultChange .noBin ad n s = { s with
    dir := s.dir.written ad (slotIndex c ad) (.blocked .missing) r.bin (some n) } :=
  requestChange_written (src := (· == .outbound)) (st := .blocked .missing) (bin := (·.bin)) hc here (by simp [state]) owed
    (by simp) (by simp [SlotRec.lasting, state]) (by simp [state]) room free

theorem resultChange_placed (state : r.state = .inbound) : resultChange .placeVerified ad n s = { s with
    dir := s.dir.written ad (slotIndex c ad) .held r.bin (some n) } :=
  requestChange_written (src := (· == .inbound)) (st := .held) (bin := (·.bin)) hc here (by simp [state]) owed
    (by simp) (by simp [SlotRec.lasting, state]) (by simp [state]) room free

theorem resultChange_obstructed (state : r.state = .inbound) : resultChange .obstructed ad n s = { s with
    dir := s.dir.written ad (slotIndex c ad) (.blocked .obstructed) 0 (some n) } :=
  requestChange_written (src := (· == .inbound)) (st := .blocked .obstructed) (bin := fun _ => 0) hc here (by simp [state]) owed
    (by simp) (by simp [SlotRec.lasting, state]) (by simp [state]) room free

end

/-! ## The retract at its sensor -/

/-- The station as a fork action reaches its sensor. -/
def forkAt (f : ForkAction) (s : State) : State := forkDone (s.setSensors (setForkSensor f s.sensors))

theorem exec_forkSensor {now : Now} {f : ForkAction} {s a : State} (ha : a = s.arrive now) (hp : s.powered = true)
    (fork : a.crane.fork = some f) : exec (.forkSensorReached now) s = .next (settle (forkAt f a)) := by
  refine (whenOn_at ha hp).trans (congrArg _ ?_)
  unfold forkReached
  rw [fork]
  rfl

/-- With no step held and no write to enter or begin the step in progress goes on. -/
theorem progress_step {s t : State} (held : s.crane.held = none) (owed : s.dir.firstOwed = none)
    (writes : s.dir.writeList = [] ∨ s.dir.port ≠ .idle) (step : stepProgress s = some t) : progress s = some t := by
  unfold progress
  simp [finishHeld_none held, fillOwed_none owed, beginWrite_none writes, step]

/-- The cycle ended, out of a step. -/
def cycleEnded (s : State) : State :=
  { s with crane := { s.crane with mode := .idle, step := none, named := s.crane.named.map (fun n => { n with done := true }) } }

theorem cycleEnds_eq {s : State} (mode : s.crane.mode = .step) : cycleEnds s = cycleEnded s := by
  unfold cycleEnds State.onCrane
  simp only [mode, if_true]
  rfl

/-- A result is applied at once unless its slot meets a full write list. -/
theorem deliver_applied {r : StepResult} {st : CraneStep} {s : State} (mode : s.crane.mode = .step) (step : s.crane.step = some st)
    (room : ∀ ad, st.place = .slot ad → s.dir.writeRoom ad = true) : deliver r s = applyResult r st (cycleEnded s) := by
  have applies : ((st.place.slotOf.map (fun a => !s.dir.writeRoom a)).getD false) = false := by
    cases place : st.place with
    | slot ad => simp [Place.slotOf, room ad place]
    | intake => rfl
    | dispatch => rfl
  unfold deliver
  simp only [step, applies]
  rw [cycleEnds_eq mode]
  rfl

theorem deliver_held {r : StepResult} {st : CraneStep} {ad : SlotAddr} {s : State} (mode : s.crane.mode = .step) (step : s.crane.step = some st)
    (place : st.place = .slot ad) (full : s.dir.writeRoom ad = false) : deliver r s = { cycleEnded s with
      crane := { (cycleEnded s).crane with mode := .writeWait, held := some ⟨st, r⟩ } } := by
  unfold deliver
  simp only [step, place, Place.slotOf, Option.map_some, full]
  rw [cycleEnds_eq mode]
  rfl

theorem applyResult_slot {r : StepResult} {n : Nat} {kind : StepKind} {ad : SlotAddr} {phase : StepPhase} {j : Job} {s : State}
    (job : s.job n = some j) : applyResult r ⟨n, kind, .slot ad, phase⟩ s = resultJob r (.slot ad) n (resultChange r ad n s) := by
  unfold applyResult
  simp only [job]
  rfl

theorem applyResult_front {r : StepResult} {n : Nat} {kind : StepKind} {place : Place} {phase : StepPhase} {j : Job} {s : State}
    (job : s.job n = some j) (front : place.slotOf = none) : applyResult r ⟨n, kind, place, phase⟩ s = resultJob r place n s := by
  unfold applyResult
  simp only [job, front]

/-- The job's share of a verified pick. -/
theorem resultJob_picked {n : Nat} {place : Place} {j : Job} {s : State} (job : s.job n = some j) : resultJob .pickVerified place n s =
    updateJob n (fun k => { k with stage := .toPlace, pulledSince := none }) s := by
  unfold resultJob
  simp only [job]

theorem resultJob_missing {n : Nat} {place : Place} {j : Job} {s : State} (job : s.job n = some j) :
    resultJob .noBin place n s = failNow n .notFound s := by
  unfold resultJob
  simp only [job]

end Sys2Proof.Machine
end

section
/-! SUPPORT. The results of a cycle (R9, R12, R25 to R27, R60 to R63, R70, R92). -/

namespace Sys2Proof.Machine

set_option Elab.async false

open Sys2Proof

/-! ## Jobs changed -/

section
variable {n : Nat} {f g : Job → Job} {j : Job} {s : State} (num : ∀ k, (f k).num = k.num)
include num

theorem updateJob_job (job : s.job n = some j) : (updateJob n f s).job n = some (f j) := by
  have same : (fun k : Job => k.num == n) ∘ (fun k => if k.num = n then f k else k) = fun k => k.num == n := by
    funext k
    by_cases hk : k.num = n <;> simp [hk, num]
  have found : j.num = n := by simpa using List.find?_some job
  unfold State.job updateJob onJobs State.onQueue at *
  rw [List.find?_map, same, job]
  simp [found]

theorem updateJob_updateJob : updateJob n g (updateJob n f s) = updateJob n (fun k => g (f k)) s := by
  unfold updateJob onJobs State.onQueue
  simp only [List.map_map]
  congr 2
  refine List.map_congr_left fun k _ => ?_
  by_cases hk : k.num = n <;> simp [hk, num]

end

/-- Jobs of a number changed and then taken out are taken out. -/
theorem map_filter_others {n : Nat} {f : Job → Job} (num : ∀ k, (f k).num = k.num) (l : List Job) :
    (l.map (fun k => if k.num = n then f k else k)).filter (fun k => k.num != n) = l.filter (fun k => k.num != n) := by
  induction l with
  | nil => rfl
  | cons k ks ih => by_cases hk : k.num = n <;> simp [hk, num, ih]

/-! ## After an obstructed place (R62, R92) -/

section
variable {n : Nat} {j : Job} {s : State} (job : s.job n = some j)
include job

/-- With no EMPTY slot the STORE becomes a re-offer. -/
theorem carryOn_reoffer (full : s.nearestEmpty = none) : carryOn n s = updateJob n (fun k => { k with
    stage := .toPlace, slot := none, reoffer := true, start := some ⟨s.placeEstimate { j with slot := none }, s.msNow⟩ }) s := by
  have chosen : chooseSlot n s = updateJob n (fun k => { k with slot := none, reoffer := true }) s := by
    unfold chooseSlot
    simp only [job, full]
  unfold carryOn restartJob
  rw [chosen, updateJob_updateJob (by exact fun _ => rfl)]
  simp only [updateJob_job (f := fun k => Job.setStage .toPlace { k with slot := none, reoffer := true }) (fun _ => rfl) job]
  unfold startJob
  rw [updateJob_updateJob (by exact fun _ => rfl)]
  rfl

/-- Else the nearest EMPTY slot is reserved and the job's. -/
theorem carryOn_chosen {c : Config} {ad : SlotAddr} {q : SlotRec} (hc : s.cfg = some c) (best : s.nearestEmpty = some ad)
    (names : namesRecord c ad = true) (hq : getAt (slotIndex c ad) s.dir.records = some q) (empty : q.state = .empty) (bin : q.bin = 0) :
    carryOn n s = updateJob n (fun k => { k with
      stage := .toPlace, slot := some ad, start := some ⟨s.placeEstimate { j with slot := some ad }, s.msNow⟩ }) { s with dir := { s.dir with
        records := setAt (slotIndex c ad) { q with state := .inbound, bin := j.bin } s.dir.records
        emptyCount := s.dir.emptyCount - 1 } } := by
  have chosen : chooseSlot n s = updateJob n (fun k => { k with slot := some ad }) { s with dir := { s.dir with
        records := setAt (slotIndex c ad) { q with state := .inbound, bin := j.bin } s.dir.records
        emptyCount := s.dir.emptyCount - 1 } } := by
    unfold chooseSlot
    simp only [job, best]
    rw [reserveInbound_eq hc names rfl hq empty bin]
  unfold carryOn restartJob
  rw [chosen, updateJob_updateJob (by exact fun _ => rfl)]
  simp only [updateJob_job (f := fun k => Job.setStage .toPlace { k with slot := some ad }) (s := { s with dir := { s.dir with
        records := setAt (slotIndex c ad) { q with state := .inbound, bin := j.bin } s.dir.records
        emptyCount := s.dir.emptyCount - 1 } }) (fun _ => rfl) job]
  unfold startJob
  rw [updateJob_updateJob (by exact fun _ => rfl)]
  rfl

end

/-- A job with no slot to release fails: FAILED to its requester, out of the queue, its entry closed. -/
theorem failNow_unreleased {n : Nat} {o : FailOutcome} {j : Job} {s : State} (job : s.job n = some j) (stage : j.stage ≠ .toPick)
    (room : s.line.general.length < 8) (unreleased : releaseFor j s = s) :
    failNow n o s = { Queued (.failed j.bin j.tag o) (.station j.requester) s with
      queue := { s.queue with jobs := s.queue.jobs.filter (fun k => k.num != n) }
      offers := { s.offers with entries := s.offers.entries.filter (fun e => e.job != some n) } } := by
  rw [failNow_some job stage, unreleased, send_queued room]
  rfl

/-- A record just written stands in its new state alone. -/
theorem slotIs_written {c : Config} {ad : SlotAddr} {bin : Nat} {job : Option Nat} {st other : SlotState} {r : SlotRec} {s : State} (hc : s.cfg = some c)
    (here : s.slotRec ad = some r) (differs : st ≠ other) :
    ({ s with dir := s.dir.written ad (slotIndex c ad) st bin job } : State).slotIs ad other = false := by
  obtain ⟨names, hr⟩ := of_slotRec hc here
  unfold State.slotIs
  rw [slotRec_at (c := c) (by exact hc) names rfl]
  show ((getAt _ (setAt (slotIndex c ad) ⟨st, bin, false⟩ s.dir.records)).map SlotRec.state == some other) = false
  rw [getAt_setAt_same (lt_of_getAt hr)]
  simpa using differs

/-! ## The results -/

section
variable {n : Nat} {place : Place} {phase : StepPhase} {s : State}

/-- The verify of a pick with a bin on the fork begins the carry (R60, R63). -/
theorem verify_picked (fbn : s.sensors.fbn = true) :
    verify ⟨n, .pick, place, phase⟩ s = deliver .pickVerified { s with crane := { s.crane with carry := true } } :=
  if_pos fbn

theorem verify_missing (fbn : s.sensors.fbn = false) : verify ⟨n, .pick, place, phase⟩ s = deliver .noBin s := if_neg (by simp [fbn])

theorem verify_placed (fbn : s.sensors.fbn = false) : verify ⟨n, .place, place, phase⟩ s = deliver .placeVerified s := if_neg (by simp [fbn])

/-- A position that reads empty at the place there has lost its bin. -/
theorem setOwner_lost (empty : s.front.dispatch = false) : setOwner (.fetch n) s =
    failNow n .notFound { s with front := { s.front with owner := .none } } := if_neg (by simp [empty])

theorem dispatched_lost {j : Job} (job : s.job n = some j) (fetch : j.kind = .fetch) (lost : s.front.dispatch = false)
    (held : s.crane.held = none) (away : ∀ ad, j.slot = some ad → s.slotIs ad .outbound = false) (room : s.line.general.length < 8) :
    setOwner (.fetch n) (updateJob n (Job.setStage .dispatching) s) = { Queued (.failed j.bin j.tag .notFound) (.station j.requester) s with
      front := { s.front with owner := .none }
      queue := { s.queue with jobs := s.queue.jobs.filter (fun k => k.num != n) }
      offers := { s.offers with entries := s.offers.entries.filter (fun e => e.job != some n) } } := by
  rw [setOwner_lost (by exact lost)]
  have sent : ({ updateJob n (Job.setStage .dispatching) s with front := { s.front with owner := .none } } : State).job n
      = some (Job.setStage .dispatching j) := updateJob_job (s := s) (fun _ => rfl) job
  refine (failNow_unreleased sent (by exact (nomatch ·)) room (releaseFor_unheld held fun ad hx => ⟨away ad hx, fun store => ?_⟩)).trans ?_
  · cases fetch.symm.trans store
  · exact congrArg (fun l => { Queued (.failed j.bin j.tag .notFound) (.station j.requester) s with
      front := { s.front with owner := .none }
      queue := { s.queue with jobs := l }
      offers := { s.offers with entries := s.offers.entries.filter (fun e => e.job != some n) } })
      (map_filter_others (f := Job.setStage .dispatching) (fun _ => rfl) s.queue.jobs)

theorem writeRoom_of {d : Directory} {ad : SlotAddr} (few : d.writeList.length < 4) : d.writeRoom ad = true := by
  simp [Directory.writeRoom, few]

theorem no_writeRoom {d : Directory} {ad : SlotAddr} (full : 4 ≤ d.writeList.length) (free : d.hasPending ad = false) :
    d.writeRoom ad = false := by
  simp [Directory.writeRoom, free, full]

section
variable {j : Job} (job : s.job n = some j)
include job

theorem resultJob_obstructed : resultJob .obstructed place n s = carryOn n s := by
  unfold resultJob
  simp only [job]

/-- The owner of the dispatch position at a verified place there (R70). -/
theorem resultJob_dispatched : (j.kind = .fetch → resultJob .placeVerified .dispatch n s =
      setOwner (.fetch n) (updateJob n (Job.setStage .dispatching) s))
    ∧ (j.kind = .store → resultJob .placeVerified .dispatch n s = setOwner (.reOffer j.bin j.tag) (failNow n .reOffered s)) := by
  unfold resultJob
  simp only [job]
  constructor <;> intro h <;> simp only [h]

end

end

/-- A verified pick held for its write finishes with the first place on the list (R12). -/
theorem finishHeld_picked {c : Config} {ad : SlotAddr} {n : Nat} {j : Job} {r : SlotRec} {s : State} (hc : s.cfg = some c)
    (held : s.crane.held = some ⟨⟨n, .pick, .slot ad, .retract⟩, .pickVerified⟩) (mode : s.crane.mode = .writeWait) (job : s.job n = some j)
    (here : s.slotRec ad = some r) (state : r.state = .outbound) (owed : s.dir.firstOwed = none) (few : s.dir.writeList.length < 4)
    (free : s.dir.hasPending ad = false) : finishHeld s = some (updateJob n (fun k => { k with stage := .toPlace, pulledSince := none })
      { s with crane := { s.crane with held := none, mode := .idle }, dir := s.dir.written ad (slotIndex c ad) .empty 0 (some n) }) := by
  have holds : s.dir.holds = true := by
    unfold Directory.holds
    cases records : s.dir.records with
    | nil =>
      have := (of_slotRec hc here).2
      simp [records] at this
    | cons x xs => rfl
  unfold finishHeld
  simp only [hc, held, holds, Place.slotOf, Option.map_some, Option.getD_some, writeRoom_of few, Bool.and_true, if_true]
  rw [applyResult_slot (j := j) (by exact job), resultChange_picked (c := c) (r := r) (by exact hc) (by exact here) (by exact owed)
    (by exact few) (by exact free) state, resultJob_picked (j := j) (by exact job)]
  simp only [State.onCrane, mode, if_true]

/-- Settles O24. -/
theorem cycleResultsAreApplied : Obligations.CycleResultsAreApplied := by
  unfold Obligations.CycleResultsAreApplied
  intro now c j kind place phase s a b u ha hp hc job room owed hb
  subst hb
  refine ⟨fun mode step fork held writes stage => ?_, fun e rest ad r b0 b1 b2 b3 mode step held port list few others unnamed acks image here state
    settles => ?_⟩
  · have runs {t : State} (goes : stepProgress (forkAt .retract a) = some t) (settles : SettlesTo t u) :
        exec (.forkSensorReached now) s = .next u := by
      rw [exec_forkSensor ha hp fork]
      exact congrArg _ (settles.settle_of_progress (progress_step held owed writes goes))
    have retracted (hphase : phase = .retract) :
        stepProgress (forkAt .retract a) = some (verify ⟨j.num, kind, place, phase⟩ (forkAt .retract a)) := by
      have cfg : (forkAt .retract a).cfg = some c := hc
      have here : (forkAt .retract a).crane.step = some ⟨j.num, kind, place, phase⟩ := step
      unfold stepProgress
      simp only [cfg, here, hphase]
      rfl
    refine ⟨fun hkind hphase fbn => ⟨fun ad r hplace here state few free settles => ?_, fun hplace settles => ?_, fun ad hplace full free settles => ?_⟩,
      fun hkind hphase fbn => ⟨fun ad r hplace slot here state few free settles => ?_, fun ad r hplace store slot here state bin settles => ?_⟩,
      fun ad r d hkind hphase hplace store here state few free hd => ?_,
      fun hkind hphase hplace fbn => ⟨fun fetch occupied settles => ?_, fun fetch lost away settles => ?_, fun store slot occupied settles => ?_⟩⟩
    · subst hkind hplace
      refine runs ((retracted hphase).trans (congrArg some ?_)) settles
      rw [verify_picked (by exact fbn), deliver_applied (by exact mode) (by exact step) (fun _ _ => writeRoom_of (by exact few)),
        applyResult_slot (j := j) (by exact job), resultChange_picked (c := c) (r := r) (by exact hc) (by exact here) (by exact owed) (by exact few)
        (by exact free) state, resultJob_picked (j := j) (by exact job)]
      rfl
    · subst hkind hplace
      refine runs ((retracted hphase).trans (congrArg some ?_)) settles
      rw [verify_picked (by exact fbn), deliver_applied (by exact mode) (by exact step) (by exact fun _ h => nomatch h), applyResult_front (j := j) (by exact job) rfl,
        resultJob_picked (j := j) (by exact job)]
      rfl
    · subst hkind hplace hphase
      refine runs ((retracted rfl).trans (congrArg some ?_)) settles
      rw [verify_picked (by exact fbn), deliver_held (ad := ad) (by exact mode) (by exact step) rfl
        (by exact no_writeRoom full free)]
      rfl
    · subst hkind hplace
      refine runs ((retracted hphase).trans (congrArg some ?_)) settles
      rw [verify_missing (by exact fbn), deliver_applied (by exact mode) (by exact step) (fun _ _ => writeRoom_of (by exact few)),
        applyResult_slot (j := j) (by exact job), resultChange_missing (c := c) (r := r) (by exact hc) (by exact here) (by exact owed) (by exact few)
        (by exact free) state, resultJob_missing (j := j) (by exact job), failNow_unreleased (j := j) (by exact job) stage (by exact room) ?_]
      · rfl
      · refine releaseFor_unheld held fun x hx => ?_
        obtain rfl : ad = x := Option.some.inj (slot.symm.trans hx)
        exact ⟨slotIs_written (s := cycleEnded (forkAt .retract a)) hc here (nomatch ·),
          fun _ => slotIs_written (s := cycleEnded (forkAt .retract a)) hc here (nomatch ·)⟩
    · subst hkind hplace
      obtain ⟨names, hr⟩ := of_slotRec hc here
      refine runs ((retracted hphase).trans (congrArg some ?_)) settles
      rw [verify_missing (by exact fbn), deliver_applied (by exact mode) (by exact step) (by exact fun _ h => nomatch h),
        applyResult_front (j := j) (by exact job) rfl, resultJob_missing (j := j) (by exact job), failNow_some (j := j) (by exact job) stage,
        releaseFor_store (c := c) (by exact hc) slot store names rfl (by exact hr) state bin (by exact held), send_queued (by exact room)]
      rfl
    · subst hkind hplace hphase
      have goes : stepProgress (forkAt .retract a) = some (carryOn j.num { cycleEnded (forkAt .retract a) with dir := d }) := by
        have cfg : (forkAt .retract a).cfg = some c := hc
        have there : (forkAt .retract a).crane.step = some ⟨j.num, .place, .slot ad, .retractObstructed⟩ := step
        have delivered : deliver .obstructed (forkAt .retract a) = carryOn j.num { cycleEnded (forkAt .retract a) with dir := d } := by
          rw [deliver_applied (by exact mode) there (fun _ _ => writeRoom_of (by exact few)), applyResult_slot (j := j) (by exact job),
            resultChange_obstructed (c := c) (r := r) (by exact hc) (by exact here) (by exact owed) (by exact few) (by exact free) state,
            resultJob_obstructed (j := j) (by exact job), hd]
          rfl
        unfold stepProgress
        simp only [cfg, there]
        rw [← delivered]
        rfl
      refine ⟨fun e none_left he settles => ?_, fun e ad2 q best names hq empty bin he settles => ?_⟩
      · rw [carryOn_reoffer (j := j) (by exact job) (by exact none_left)] at goes
        rw [he] at settles
        exact runs goes settles
      · rw [carryOn_chosen (c := c) (j := j) (by exact job) (by exact hc) (by exact best) names (by exact hq) empty bin] at goes
        have count : d.emptyCount = a.dir.emptyCount := by rw [hd]
        rw [he, ← count] at settles
        exact runs goes settles
    · subst hkind hplace
      refine runs ((retracted hphase).trans (congrArg some ?_)) settles
      rw [verify_placed (by exact fbn), deliver_applied (by exact mode) (by exact step) (by exact fun _ h => nomatch h),
        applyResult_front (j := j) (by exact job) rfl, (resultJob_dispatched (j := j) (by exact job)).1 fetch]
      exact if_pos occupied
    · subst hkind hplace
      refine runs ((retracted hphase).trans (congrArg some ?_)) settles
      rw [verify_placed (by exact fbn), deliver_applied (by exact mode) (by exact step) (by exact fun _ h => nomatch h),
        applyResult_front (j := j) (by exact job) rfl, (resultJob_dispatched (j := j) (by exact job)).1 fetch]
      exact dispatched_lost (j := j) (by exact job) fetch lost held away room
    · subst hkind hplace
      refine runs ((retracted hphase).trans (congrArg some ?_)) settles
      rw [verify_placed (by exact fbn), deliver_applied (by exact mode) (by exact step) (by exact fun _ h => nomatch h),
        applyResult_front (j := j) (by exact job) rfl, (resultJob_dispatched (j := j) (by exact job)).2 store,
        failNow_unreleased (j := j) (by exact job) stage (by exact room) ?_]
      · exact if_pos occupied
      · unfold releaseFor
        rw [slot]
  · have ended (m : List Host.Cell) : verified c e (a.setMemory m) = { a with
        memory := m, dir := { a.dir with writeList := rest, port := .idle, attempt := 0 } } := by
      have none_waits : (a.setMemory m).committing e = none := by
        unfold State.committing
        rw [unnamed, Option.bind_none]
      unfold verified
      simp only [none_waits, acks, sendAcks]
      simp only [State.onDir, State.setMemory, Directory.endWrite, list, List.drop_succ_cons, List.drop_zero]
    have finishes : finishHeld { a with
        memory := Memory.setAll (imageAddress (slotIndex c e.slot)) [b0, b1, b2, b3] a.memory
        dir := { a.dir with writeList := rest, port := .idle, attempt := 0 } } = some (updateJob j.num
          (fun k => { k with stage := .toPlace, pulledSince := none }) { a with
          memory := Memory.setAll (imageAddress (slotIndex c e.slot)) [b0, b1, b2, b3] a.memory
          crane := { a.crane with held := none, mode := .idle }
          dir := Directory.written ad (slotIndex c ad) .empty 0 (some j.num) { a.dir with writeList := rest, port := .idle, attempt := 0 } }) := by
      refine finishHeld_picked (c := c) (r := r) hc (by exact held) (by exact mode) (by exact job) (by exact here) state (by exact owed)
        (by exact few) ?_
      exact List.any_eq_false.mpr fun x hx h => others x hx (eq_of_beq h)
    have runs : exec (.readbackDone now b0 b1 b2 b3) s = .next (settle { a with
        memory := Memory.setAll (imageAddress (slotIndex c e.slot)) [b0, b1, b2, b3] a.memory
        dir := { a.dir with writeList := rest, port := .idle, attempt := 0 } }) := by
      refine (whenOn_at ha hp).trans (congrArg _ ?_)
      unfold readback
      simp only [hc, list]
      rw [if_pos port, if_pos image, ended]
    rw [runs]
    refine congrArg _ (settles.settle_of_progress ?_)
    unfold progress
    rw [finishes]
    rfl

end Sys2Proof.Machine
end

section
/-! SUPPORT. The cycles as they go on (R25, R26, R59 to R62). -/

namespace Sys2Proof.Machine

set_option Elab.async false

open Sys2Proof

/-! ## Fork and steps -/

theorem beginFork_begins {c : Config} {f : ForkAction} {s : State} (hc : s.cfg = some c) (away : forkSensor s.sensors f = false) :
    beginFork f s = { s with crane := { s.crane with fork := some f, forkTimer := some (s.clock + 1000 * c.forkLimit) } } := by
  unfold beginFork
  simp only [hc, State.inMs, msec_eq]
  rw [if_neg (by simp [away])]
  rfl

/-- In a step the next one is taken in the same mode. -/
theorem takeStep_inStep {n : Nat} {kind : StepKind} {place : Place} {phase : StepPhase} {s : State} (mode : s.crane.mode = .step) :
    takeStep n kind place phase s = { s with crane := { s.crane with named := none, step := some ⟨n, kind, place, phase⟩ } } := by
  show { s with crane := { s.crane with mode := .step, named := none, step := some ⟨n, kind, place, phase⟩ } } = _
  rw [← mode]

theorem setPhase_step {phase : StepPhase} {st : CraneStep} {s : State} (step : s.crane.step = some st) :
    setPhase phase s = { s with crane := { s.crane with step := some { st with phase := phase } } } := by
  unfold setPhase State.onCrane
  simp only [step, Option.map_some]

theorem extend_cases (place : Place) : place.extend = .extendL ∨ place.extend = .extendR := by
  unfold Place.extend
  split
  · split
    · exact .inl rfl
    · exact .inr rfl
  · exact .inl rfl
  · exact .inr rfl

/-- The stage a job enters with its cycle's extend (R25, R26). -/
def StepKind.stage : StepKind → Stage
  | .movePick | .pick => .picking
  | .movePlace | .place => .placing

/-- The station with the extend of a cycle begun. -/
def extending (c : Config) (n : Nat) (kind : StepKind) (place : Place) (s : State) : State :=
  { s with
    crane := { s.crane with
      step := some ⟨n, kind, place, .extend⟩, fork := some place.extend, forkTimer := some (s.clock + 1000 * c.forkLimit) }
    queue := { s.queue with jobs := s.queue.jobs.map (fun k => if k.num = n then { k with stage := kind.stage } else k) } }

/-- With no obstruction reported at a slot the extend begins. -/
theorem beginExtend_begins {c : Config} {n : Nat} {kind : StepKind} {place : Place} {phase : StepPhase} {s : State} (hc : s.cfg = some c)
    (step : s.crane.step = some ⟨n, kind, place, phase⟩) (away : forkSensor s.sensors place.extend = false)
    (clear : kind = .place → (∀ ad, place = .slot ad → s.sensors.fpr = false)) :
    beginExtend ⟨n, kind, place, phase⟩ s = extending c n kind place s := by
  unfold beginExtend
  rw [if_neg ?_]
  · rw [setPhase_step (by exact step), beginFork_begins (c := c) (by exact hc) (by exact away)]
    cases kind <;> rfl
  · rintro ⟨hkind, hplace, fpr⟩
    cases place with
    | slot ad => rw [clear hkind ad rfl] at fpr; cases fpr
    | intake => cases hplace
    | dispatch => cases hplace

/-! ## The moves of a step completed (R59) -/

/-- The cycle of a step about to begin, its moves completed. -/
def beginning (n : Nat) (kind : StepKind) (place : Place) (s : State) : State :=
  { s with crane := { s.crane with named := none, step := some ⟨n, kind, place, .begin⟩ } }

section
variable {c : Config} {n : Nat} {place : Place} {s : State} (hc : s.cfg = some c)
include hc

/-- The checks at the beginning of a cycle (R60, R61). -/
theorem stepProgress_pick : stepProgress (beginning n .pick place s) =
    if s.sensors.fbn then some (forkFault .forkJam (beginning n .pick place s))
    else if place = .intake ∧ !s.front.intake then some (deliver .noBin (beginning n .pick place s))
    else some (beginExtend ⟨n, .pick, place, .begin⟩ (beginning n .pick place s)) := by
  have cfg : (beginning n .pick place s).cfg = some c := hc
  unfold stepProgress
  simp only [cfg]
  rfl

theorem stepProgress_place : stepProgress (beginning n .place place s) =
    if place = .dispatch ∧ s.front.dispatch then some (setPhase .waitEmpty (beginning n .place place s))
    else some (beginExtend ⟨n, .place, place, .begin⟩ (beginning n .place place s)) := by
  have cfg : (beginning n .place place s).cfg = some c := hc
  unfold stepProgress
  simp only [cfg]
  rfl

end

/-- With both moves completed the cycle of the step begins. -/
theorem progress_moved {c : Config} {n : Nat} {kind : StepKind} {place : Place} {s : State} (hc : s.cfg = some c) (held : s.crane.held = none)
    (owed : s.dir.firstOwed = none) (writes : s.dir.writeList = [] ∨ s.dir.port ≠ .idle) (mode : s.crane.mode = .step)
    (step : s.crane.step = some ⟨n, kind, place, .moving⟩) (done : s.crane.movesDone = true) :
    (kind = .movePick → progress s = some (beginning n .pick place s))
    ∧ (kind = .movePlace → progress s = some (beginning n .place place s)) := by
  constructor <;> rintro rfl <;> refine progress_step held owed writes ?_ <;> unfold stepProgress <;> simp only [hc, step, done, if_true] <;>
    exact congrArg some (takeStep_inStep mode)

/-- The last move of a step completed at rest. -/
def moved (axis : AxisName) (a : State) : State :=
  a.onAxis axis (fun _ => { a.axis axis with move := .none, target := none, dir := none })

theorem exec_moved {now : Now} {c : Config} {axis : AxisName} {goal : Nat} {s a : State} (ha : a = s.arrive now) (hp : s.powered = true)
    (hc : a.cfg = some c) (settling : (a.axis axis).move = .settling) (target : (a.axis axis).target = some goal)
    (undriven : (a.axis axis).duty = 0) (due : (a.axis axis).quietSince + 20000 ≤ a.clock)
    (inside : Machine.dist goal (a.axis axis).count ≤ c.window) : exec (.axisAtRest now axis) s = .next (settle (moved axis a)) := by
  refine (whenOn_at ha hp).trans (congrArg _ ?_)
  rw [rest_settling hc settling undriven due, moveRests_inside target inside]
  rfl

theorem moved_keeps (axis : AxisName) (a : State) : (moved axis a).crane.held = a.crane.held ∧ (moved axis a).crane.mode = a.crane.mode
    ∧ (moved axis a).crane.step = a.crane.step := by
  cases axis <;> exact ⟨rfl, rfl, rfl⟩

theorem moved_done {axis : AxisName} {a : State} (undriven : (a.axis axis).duty = 0)
    (other : ∀ ax, ax ≠ axis → (a.axis ax).move = .none ∧ (a.axis ax).duty = 0) : (moved axis a).crane.movesDone = true := by
  cases axis
  · obtain ⟨move, duty⟩ := other .lift (nomatch ·)
    have move : a.crane.lift.move = .none := move
    have duty : a.crane.lift.duty = 0 := duty
    have undriven : a.crane.travel.duty = 0 := undriven
    simp [Crane.movesDone, Crane.still, moved, State.onAxis, State.onCrane, Crane.onAxis, State.axis, Crane.axis, move, duty, undriven]
  · obtain ⟨move, duty⟩ := other .travel (nomatch ·)
    have move : a.crane.travel.move = .none := move
    have duty : a.crane.travel.duty = 0 := duty
    have undriven : a.crane.lift.duty = 0 := undriven
    simp [Crane.movesDone, Crane.still, moved, State.onAxis, State.onCrane, Crane.onAxis, State.axis, Crane.axis, move, duty, undriven]

/-- FORK_JAM found in RUN or HOMING by a crane not stopped (R54, R60). -/
theorem forkFault_faulted {f : FaultName} {s : State} (severe : f.severe = true) (station : s.station = .run ∨ s.station = .homing)
    (calm : s.fire.state = .calm) (mode : s.crane.mode ≠ .stopped) (clearing : s.crane.mode ≠ .clearing) (held : s.crane.held = none) :
    InFaulted f (forkFault f s) ∧ OnlyWrites (forkFault f s) := by
  obtain ⟨k, ended, kmode, kheld, _⟩ := endMotion_crane (s := { s with crane := { s.crane with fork := none, forkTimer := none } }) mode clearing
  have entered : forkFault f s = enterFaulted (recordFault f { s with crane := k }) := by
    show raise f (endMotion { s with crane := { s.crane with fork := none, forkTimer := none } }) = _
    rw [ended]
    exact raise_entered severe station
  rw [entered]
  obtain ⟨inf, _, writes⟩ := faulted_of_failsWork (f := f) (s := recordFault f { s with crane := k }) kmode (kheld.trans held) calm
    (failsWork_enterFaulted _) rfl (inSet_or_bit _ _) (inSet_or_bit _ _)
  exact ⟨inf, writes⟩

/-! ## The lift by Lo (R60, R61) -/

/-- The lift at creep, taken inside the window at once. -/
theorem requestMove_creeps {c : Config} {goal : Nat} {y : Axis} {s : State} (hc : s.cfg = some c) (move : s.crane.lift.move = .none)
    (homed : s.crane.lift.homed = true) (free : s.outputsHeld = false) (ready : s.sensors.drdy = true)
    (begins : (Machine.dist goal s.crane.lift.count ≤ c.window ∧ y = { s.crane.lift with reversals := 0 })
      ∨ (c.window < Machine.dist goal s.crane.lift.count ∧ y = { s.crane.lift with
        move := .driving, target := some goal, cap := 0, reversals := 0, firstMark := true, step := 0, duty := c.lift.duty.s0
        nextDuty := none, brake := false, stall := some (s.clock + 1000 * c.lift.stall.s0)
        dir := some (if s.crane.lift.count ≤ goal then .up else .down), outDir := (if s.crane.lift.count ≤ goal then .up else .down) })) :
    requestMove .lift goal 0 s = .taken { s with crane := { s.crane with lift := y } } := by
  have creep (d : Nat) : startStep (Config.axis c .lift) 0 d = 0 := by simp [startStep]
  unfold requestMove
  simp only [hc, ite_self]
  rw [if_neg (by simp [State.axis, Crane.axis, move, homed, State.axisHeld, free])]
  rcases begins with ⟨near, rfl⟩ | ⟨far, rfl⟩
  · exact if_pos near
  · rw [if_neg (by exact Nat.not_le.mpr far), if_neg (by simp [ready])]
    unfold Axis.startMove Axis.drive
    simp only [creep, stepValue, toward, msec_eq]
    rfl

/-- A STORE whose crane is in no step fails with its INBOUND slot EMPTY again. -/
theorem failNow_released_store {c : Config} {n i : Nat} {o : FailOutcome} {ad : SlotAddr} {j : Job} {r : SlotRec} {s : State} (hc : s.cfg = some c)
    (job : s.job n = some j) (mode : s.crane.mode ≠ .step) (slot : j.slot = some ad) (store : j.kind = .store) (names : namesRecord c ad = true)
    (hi : slotIndex c ad = i) (hr : getAt i s.dir.records = some r) (inbound : r.state = .inbound) (bin : r.bin = j.bin)
    (held : s.crane.held = none) (room : s.line.general.length < 8) :
    failNow n o s = { Queued (.failed j.bin j.tag o) (.station j.requester) s with
      dir := { s.dir with records := setAt i { r with state := .empty, bin := 0 } s.dir.records, emptyCount := s.dir.emptyCount + 1 }
      queue := { s.queue with jobs := s.queue.jobs.filter (fun k => k.num != n) }
      offers := { s.offers with entries := s.offers.entries.filter (fun e => e.job != some n) } } := by
  unfold failNow
  simp only [job]
  rw [releaseFor_store hc slot store names hi hr inbound bin held, send_queued (by exact room)]
  split
  · exact if_neg mode
  · rfl

theorem resultJob_committing {n : Nat} {ad : SlotAddr} {j : Job} {s : State} (job : s.job n = some j) :
    resultJob .placeVerified (.slot ad) n s = updateJob n (Job.setStage .committing) s := by
  unfold resultJob
  simp only [job]

/-- Settles O23. -/
theorem cyclesAreCarriedOut : Obligations.CyclesAreCarriedOut := by
  unfold Obligations.CyclesAreCarriedOut
  intro now c s a t ha hp hc
  refine ⟨fun j r ad mode step fork held fbn job port few others owed here state ht stays => ?_,
    fun st ad step phase kind place out off ht stays => ?_, fun held owed writes => ⟨?_, fun n u step occupied idle unowned away settles => ?_,
      fun n kind place f x y goal u step hkind fork hf hx move homed free off ready hgoal begins settles => ?_,
      fun n kind place x goal u step hx settling target undriven due inside off settles => ?_⟩, fun elsewhere => ?_⟩
  · have writes : a.dir.writeList = [] ∨ a.dir.port ≠ .idle := .inr (by rcases port with h | h <;> rw [h] <;> exact (nomatch ·))
    have free : a.dir.hasPending ad = false := by
      refine List.any_eq_false.mpr fun e he h => ?_
      refine others e ?_ (eq_of_beq h)
      unfold Directory.pendingWrites at he
      split at he
      · exact List.mem_of_mem_drop he
      · exact he
    have goes : stepProgress (forkAt .retract a) = some t := by
      have cfg : (forkAt .retract a).cfg = some c := hc
      have there : (forkAt .retract a).crane.step = some ⟨j.num, .place, .slot ad, .retract⟩ := step
      have verified : verify ⟨j.num, .place, .slot ad, .retract⟩ (forkAt .retract a) = t := by
        rw [verify_placed (by exact fbn), deliver_applied (by exact mode) there (fun _ _ => writeRoom_of (by exact few)),
          applyResult_slot (j := j) (by exact job), resultChange_placed (c := c) (r := r) (by exact hc) (by exact here) (by exact owed)
          (by exact few) (by exact free) state, resultJob_committing (j := j) (by exact job), ht]
        rfl
      unfold stepProgress
      simp only [cfg, there]
      rw [← verified]
      rfl
    rw [exec_forkSensor ha hp fork]
    exact congrArg _ (SettlesTo.settle_of_progress ⟨0, by omega, rfl, stays⟩ (progress_step held owed writes goes))
  · refine (whenOn_at ha hp).trans (congrArg _ ?_)
    have found : (a.setSensors { a.sensors with fpr := true }).crane.step = some st := step
    unfold obstruction
    simp only [found]
    rw [if_pos ⟨phase, kind, by rw [place]; rfl, Option.isSome_iff_ne_none.mpr out⟩, setPhase_step (st := st) (by exact step),
      beginFork_begins (c := c) (by exact hc) (by exact off), ht]
    exact settle_of_none (by rw [ht] at stays; exact stays)
  · intro n kind place axis x m out goal mode step fork hx settling target undriven due inside other hm hout
    subst hx
    have runs := exec_moved ha hp hc settling target undriven due inside
    obtain ⟨kheld, kmode, kstep⟩ := moved_keeps axis a
    obtain ⟨begins_pick, begins_place⟩ := progress_moved (s := moved axis a) hc (kheld.trans held) owed writes (kmode.trans mode) (kstep.trans step)
      (moved_done undriven other)
    have goes {cycle : StepKind} {v : State} (h : stepProgress (beginning n cycle place (moved axis a)) = some v) :
        progress (beginning n cycle place (moved axis a)) = some v := progress_step (kheld.trans held) owed writes h
    have extend : place.extend = out := by
      rw [hout]
      cases place with
      | slot ad => simp [Place.extend]
      | intake => rfl
      | dispatch => rfl
    refine ⟨fun cycle stage u left right which settles => ?_, fun hkind fbn station crane => ?_,
      fun j ad r u hkind hplace bare fbn job store slot here state bin room settles => ?_, fun u hkind hplace occupied settles => ?_⟩
    · have away : forkSensor a.sensors place.extend = false := by
        rw [extend]
        rcases extend_cases place with h | h <;> rw [extend] at h
        · rw [h]
          exact left h
        · rw [h]
          exact right h
      rw [runs]
      refine congrArg _ ?_
      rcases which with ⟨hkind, rfl, rfl, fbn, intake⟩ | ⟨hkind, rfl, rfl, dispatch, clear⟩
      · refine settles.settle_of_two (begins_pick hkind) (goes ((stepProgress_pick (s := moved axis a) hc).trans ?_))
        rw [if_neg (by exact ne_true_of_eq_false fbn), if_neg (by rintro ⟨h, off⟩; have full := intake h; simp_all [moved, State.onAxis, State.onCrane]),
          beginExtend_begins (c := c) (by exact hc) rfl (by exact away) (by exact fun h => nomatch h)]
        unfold extending
        rw [extend, hm]
        rfl
      · refine settles.settle_of_two (begins_place hkind) (goes ((stepProgress_place (s := moved axis a) hc).trans ?_))
        rw [if_neg (by rintro ⟨h, on⟩; have empty := dispatch h; simp_all [moved, State.onAxis, State.onCrane]),
          beginExtend_begins (c := c) (by exact hc) rfl (by exact away) (by exact fun _ ad h => clear ad h)]
        unfold extending
        rw [extend, hm]
        rfl
    · obtain ⟨inf, alone⟩ := forkFault_faulted (f := .forkJam) (s := beginning n .pick place (moved axis a)) rfl (.inl station)
        (crane.calm (.inl station)) (by rw [show (beginning n .pick place (moved axis a)).crane.mode = .step from kmode.trans mode]; exact (nomatch ·))
        (by rw [show (beginning n .pick place (moved axis a)).crane.mode = .step from kmode.trans mode]; exact (nomatch ·)) (kheld.trans held)
      obtain ⟨d, m, ends, _⟩ := alone.alone.settle_of_two (begins_pick hkind) (goes ((stepProgress_pick (s := moved axis a) hc).trans
        (if_pos (by exact fbn))))
      exact ⟨_, runs.trans (congrArg _ ends), inf.withDir d m⟩
    · rw [runs]
      subst hplace
      refine congrArg _ (settles.settle_of_two (begins_pick hkind) (goes ((stepProgress_pick (s := moved axis a) hc).trans ?_)))
      obtain ⟨names, hr⟩ := of_slotRec hc here
      have bmode : (beginning n .pick .intake (moved axis a)).crane.mode = .step := kmode.trans mode
      rw [if_neg (by exact ne_true_of_eq_false fbn), if_pos (by exact ⟨rfl, by simpa [moved, State.onAxis, State.onCrane] using bare⟩),
        deliver_applied bmode rfl (by exact fun _ h => nomatch h), applyResult_front (j := j) (by exact job) rfl,
        resultJob_missing (j := j) (by exact job), failNow_released_store (c := c) (j := j) (by exact hc) (by exact job) (by exact (nomatch ·)) slot
          store names rfl (by exact hr) state bin (by exact kheld.trans held) (by exact room), hm]
      rfl
    · rw [runs]
      subst hplace
      refine congrArg _ (settles.settle_of_two (begins_place hkind) (goes ((stepProgress_place (s := moved axis a) hc).trans ?_)))
      rw [if_pos (by exact ⟨rfl, occupied⟩), setPhase_step rfl, hm]
      rfl
  · have emptied : exec (.dispatchOccupancyChange now false) s = .next (settle { a with front := { a.front with dispatch := false } }) := by
      refine (whenOn_at ha hp).trans (congrArg _ ((dispatchChange_emptied occupied).trans ?_))
      rw [dispatchEmptied_bare (c := c) (by exact hc) (.inl (by exact idle)), if_pos (by exact unowned)]
    rw [emptied]
    refine congrArg _ (settles.settle_of_progress (progress_step held owed writes ?_))
    unfold stepProgress
    have cfg : ({ a with front := { a.front with dispatch := false } } : State).cfg = some c := hc
    simp only [cfg, step, Bool.false_eq_true, if_false]
    rw [beginExtend_begins (c := c) (by exact hc) (by exact step) (by exact away) (by exact fun _ _ h => nomatch h)]
    rfl
  · rw [exec_forkSensor ha hp fork]
    subst hx
    have taken : requestMove .lift goal 0 (forkAt f a) = .taken { forkAt f a with crane := { (forkAt f a).crane with lift := y } } := by
      refine requestMove_creeps (c := c) hc move homed ?_ ?_ begins
      · exact free
      · rcases hf with rfl | rfl <;> exact ready
    have lifts : beginLift c ⟨n, kind, place, .extend⟩ (forkAt f a) = { forkAt f a with crane := { (forkAt f a).crane with
        lift := y, step := some ⟨n, kind, place, .liftMove⟩, carry := if kind = .place then false else a.crane.carry } } := by
      unfold beginLift
      rcases hkind with rfl | rfl
      · have target : placeHeight c place.level = goal := by rw [hgoal]; rfl
        simp only [target, taken, insideStep]
        rw [setPhase_step (st := ⟨n, .pick, place, .extend⟩) (by exact step)]
        rfl
      · have target : pickHeight c place.level = goal := by rw [hgoal]; rfl
        simp only [target, taken, insideStep]
        rw [setPhase_step (st := ⟨n, .place, place, .extend⟩) (by exact step)]
        rfl
    refine congrArg _ (settles.settle_of_progress (progress_step held owed writes ?_))
    have cfg : (forkAt f a).cfg = some c := hc
    have there : (forkAt f a).crane.step = some ⟨n, kind, place, .extend⟩ := step
    unfold stepProgress
    simp only [cfg, there]
    rw [if_pos (by exact rfl), lifts]
    rcases hf with rfl | rfl <;> rfl
  · rw [exec_moved (axis := .lift) ha hp hc (by rw [hx] at settling; exact settling) (by rw [hx] at target; exact target)
      (by rw [hx] at undriven; exact undriven) (by rw [hx] at due; exact due) (by rw [hx] at inside; exact inside)]
    refine congrArg _ (settles.settle_of_progress (progress_step held owed writes ?_))
    have cfg : (moved .lift a).cfg = some c := hc
    have there : (moved .lift a).crane.step = some ⟨n, kind, place, .liftMove⟩ := step
    unfold stepProgress
    simp only [cfg, there]
    rw [if_pos (by rw [hx] at undriven; simp [moved, State.onAxis, State.onCrane, Crane.onAxis, State.axis, Crane.axis, undriven]), setPhase_step there,
      beginFork_begins (c := c) (by exact hc) (by exact off), hx]
    rfl
  · refine (whenOn_at ha hp).trans (congrArg _ ?_)
    unfold obstruction
    dsimp only
    split
    · rename_i st hst
      rw [if_neg ?_]
      · rfl
      · rintro ⟨phase, kind, slot, _⟩
        rcases elsewhere st hst with h | h | h | h
        · exact h phase
        · exact h kind
        · rw [h] at slot; cases slot
        · rw [h] at slot; cases slot
    · rfl

end Sys2Proof.Machine
end

section
/-! SUPPORT. The suspension record served as the station enters RUN (R38, R157, R171, R172). -/

namespace Sys2Proof.Machine

set_option Elab.async false

open Sys2Proof

/-! ## Steps given -/

theorem requestMove_taken {ax : AxisName} {goal cap : Nat} {s t : State} (h : requestMove ax goal cap s = .taken t) :
    ∃ k, t = { s with crane := k } := by
  rcases requestMove_cases ax goal cap s with h' | h' | h' | ⟨_, _, _, _, _, _, _, _, h'⟩ <;> rw [h'] at h <;> cases h <;> exact ⟨_, rfl⟩

theorem requestBoth_taken {travel lift cap : Nat} {s t : State} (h : requestBoth travel lift cap s = .taken t) : ∃ k, t = { s with crane := k } := by
  unfold requestBoth at h
  split at h
  · rename_i u hu
    obtain ⟨k, rfl⟩ := requestMove_taken hu
    obtain ⟨k', rfl⟩ := requestMove_taken h
    exact ⟨k', rfl⟩
  · split at h <;> cases h
  · cases h

/-- A step taken is the crane's alone. -/
theorem giveStep_taken {n : Nat} {kind : StepKind} {place : Place} {s t : State} (h : giveStep n kind place s = .taken t) :
    ∃ k, t = { s with crane := k } := by
  have retracts (kd : StepKind) : ∃ k, beginFork .retract (takeStep n kd place .openingRetract s) = { s with crane := k } := by
    unfold beginFork
    split
    · exact ⟨_, rfl⟩
    · split <;> exact ⟨_, rfl⟩
  have moves {kd : StepKind} {t l : Nat} {u : State} (h : requestBoth t l 3 (takeStep n kd place .moving s) = .taken u) :
      ∃ k, u = { s with crane := k } := by
    obtain ⟨k, rfl⟩ := requestBoth_taken h
    exact ⟨k, rfl⟩
  unfold giveStep at h
  split at h
  · cases h
  · split at h
    · cases h
    · split at h
      · cases h; exact ⟨_, rfl⟩
      · cases h; exact ⟨_, rfl⟩
      · split at h
        · cases h; exact retracts _
        · exact moves h
      · split at h
        · cases h; exact retracts _
        · exact moves h

/-! ## The record served -/

/-- The station back in CALM and in RUN, its record not yet served. -/
def resumed (a : State) : State :=
  { a with
    station := .run
    sensors := { a.sensors with sop := true }
    fire := { a.fire with state := .calm, allClear := false, shutter := none, deadline := none, forced := false
                          rehome := false, recordMark := false, startPoint := .none } }

/-- The shutter open, a station that neither loads nor homes serves its record. -/
theorem progress_serves {a : State} (idles : Idles a) (state : a.fire.state = .reopening) (station : a.station = .shutdown)
    (mild : hasSevere a.faults.current = false) (start : a.fire.startPoint = .none) (unforced : a.fire.forced = false)
    (marked : a.fire.rehome = false) : progress (a.setSensors { a.sensors with sop := true }) = some (serve (resumed a)) := by
  have opened : Idles (a.setSensors { a.sensors with sop := true }) :=
    ⟨idles.held, idles.owed, idles.writes, idles.step, idles.mode, idles.front, idles.clearing, idles.halting⟩
  have next := progress_opened opened state rfl
  unfold resume at next
  dsimp only at next
  rw [if_pos (by exact station), if_neg (by show ¬ a.fire.startPoint = _; rw [start]; exact (nomatch ·)), if_neg (by simpa using mild),
    if_neg (by simp [start, unforced, marked])] at next
  exact next

section
variable {c : Config} {r : Suspension} {j : Job} {b : State} (hc : b.cfg = some c) (record : b.faults.suspension = some r)
  (job : b.job r.job = some j)
include hc record job

theorem serve_quiet (kind : r.kind = .quiet) : serve b = { b with
    queue := { b.queue with jobs := requeue j b.queue.jobs }, faults := { b.faults with suspension := none } } := by
  unfold serve
  simp only [hc, record, kind, job]
  rfl

theorem serve_laden (kind : r.kind = .laden) : serve b =
    if !b.sensors.fbn then setRecord none (requestFail j.num r.cause.outcome b)
    else if !r.homed && b.craneMoved c r then raise .position b
    else if jammed r j then clearJam r j b
    else b := by
  unfold serve
  simp only [hc, record, kind, job]

end

/-- The STORE put back stands before the first waiting job, else first (R38). -/
theorem requeue_before {j x : Job} {jobs front back : List Job} (rest : jobs.filter (fun y => y.num != j.num) = front ++ x :: back)
    (waits : x.stage = .waiting) (before : ∀ y ∈ front, y.stage ≠ .waiting) :
    requeue j jobs = front ++ { j with stage := .waiting, start := none } :: x :: back := by
  unfold requeue
  simp only [rest]
  rw [insertBefore_append_cons _ (by simp [waits]) (fun y hy => by simpa using before y hy)]
  rfl

theorem requeue_first {j : Job} {jobs rest : List Job} (hrest : jobs.filter (fun y => y.num != j.num) = rest)
    (none_waits : ∀ y ∈ rest, y.stage ≠ .waiting) : requeue j jobs = { j with stage := .waiting, start := none } :: rest := by
  unfold requeue
  simp only [hrest]
  rw [insertBefore_eq_none _ fun y hy => by simpa using none_waits y hy]
  rfl

/-- A station in RUN with its crane stopped and nothing to write waits to give a LADEN job its step. -/
theorem progress_gives {b : State} {r : Suspension} {j : Job} (idles : Idles b) (mode : b.crane.mode = .stopped) (station : b.station = .run)
    (calm : b.fire.state = .calm) (record : b.faults.suspension = some r) (kind : r.kind = .laden) (job : b.job r.job = some j)
    (stage : j.stage = .toPlace ∨ j.stage = .placing) : progress b = some (giveServed r j b) := by
  have gives : serveGive b = some (giveServed r j b) := by
    unfold serveGive
    simp only [record, job]
    rw [if_pos (by simp [inService_of station calm, kind, Crane.free, mode, idles.step, idles.held]), if_pos stage]
  have closed : sealedByScl b = none := by
    unfold sealedByScl
    simp only [calm]
  have reopened : reopen b = none := by
    unfold reopen
    simp only [calm]
  have opens : opened b = none := if_neg (by simp [calm])
  rw [idles.progress_eq, closed, reopened, opens, gives]
  rfl

/-- The step taken, the job is in TO_PLACE with a new start estimate and the record NONE (R171). -/
theorem giveServed_taken {r : Suspension} {j k : Job} {b t : State} (job : b.job j.num = some j)
    (alone : ∀ x ∈ b.queue.jobs, x.num = j.num → x = j) (hk : k = j.setStage .toPlace)
    (gives : giveStep j.num (servedStep r j) k.placeAt { b with
      queue := { b.queue with jobs := b.queue.jobs.map (fun x => if x.num = j.num then k else x) } } = .taken t) :
    giveServed r j b = { t with
      queue := { t.queue with jobs := t.queue.jobs.map (fun x =>
        if x.num = j.num then { x with start := some ⟨t.placeEstimate k, b.clock / 1000⟩ } else x) }
      faults := { t.faults with suspension := none } } := by
  have staged : updateJob j.num (Job.setStage .toPlace) b = { b with
      queue := { b.queue with jobs := b.queue.jobs.map (fun x => if x.num = j.num then k else x) } } := by
    have same : b.queue.jobs.map (fun x => if x.num = j.num then Job.setStage .toPlace x else x) =
        b.queue.jobs.map (fun x => if x.num = j.num then k else x) := by
      refine List.map_congr_left fun x hx => ?_
      by_cases h : x.num = j.num
      · rw [if_pos h, if_pos h, alone x hx h, hk]
      · rw [if_neg h, if_neg h]
    unfold updateJob onJobs State.onQueue
    dsimp only
    rw [same]
  have place : j.placeAt = k.placeAt := by rw [hk]; rfl
  obtain ⟨crane, ht⟩ := giveStep_taken gives
  have found : t.job j.num = some k := by
    have := updateJob_job (f := Job.setStage .toPlace) (n := j.num) (by exact fun _ => rfl) job
    rw [staged, ← hk] at this
    rw [ht]
    exact this
  have clock : t.clock = b.clock := by rw [ht]
  rw [← clock]
  unfold giveServed
  simp only [staged, place, gives]
  unfold restartJob startJob State.msNow
  simp only [found]
  rfl

/-- The slot jammed by the fork is blocked, with its write, and the nearest EMPTY slot reserved (R171; log 41). -/
theorem clearJam_eq {c : Config} {r : Suspension} {j : Job} {ad ad2 : SlotAddr} {p q : SlotRec} {d : Directory} {b : State} (hc : b.cfg = some c)
    (job : b.job j.num = some j) (slot : j.slot = some ad) (here : b.slotRec ad = some p) (inbound : p.state = .inbound)
    (owed : b.dir.firstOwed = none) (room : b.dir.writeList.length < 4) (free : b.dir.hasPending ad = false)
    (hd : d = b.dir.written ad (slotIndex c ad) (.blocked .obstructed) 0 none) (best : ({ b with dir := d } : State).nearestEmpty = some ad2)
    (names : namesRecord c ad2 = true) (hq : getAt (slotIndex c ad2) d.records = some q) (empty : q.state = .empty) (bin : q.bin = 0) :
    clearJam r j b = { b with
      dir := { d with
        records := setAt (slotIndex c ad2) { q with state := .inbound, bin := j.bin } d.records, emptyCount := d.emptyCount - 1 }
      queue := { b.queue with jobs := b.queue.jobs.map (fun x =>
        if x.num = j.num then { x with stage := .toPlace, slot := some ad2 } else x) }
      faults := { b.faults with suspension := some { r with stage := .toPlace, done := false } } } := by
  have blocked : requestChange ad (· == .inbound) (.blocked .obstructed) (fun _ => 0) none b = { b with dir := d } := by
    rw [hd]
    exact requestChange_written (src := (· == .inbound)) (st := .blocked .obstructed) (bin := fun _ => 0) hc here (by simp [inbound]) owed
      (by simp) (by simp [SlotRec.lasting, inbound]) (by simp [inbound]) room free
  have found : ({ b with dir := d } : State).job j.num = some j := job
  unfold clearJam chooseSlot
  simp only [slot, blocked, found, best]
  rw [reserveInbound_eq (c := c) (by exact hc) names rfl (by exact hq) empty bin, updateJob_updateJob (by exact fun _ => rfl)]
  rfl

/-- Settles O49. -/
theorem recordIsServed : Obligations.RecordIsServed := by
  unfold Obligations.RecordIsServed
  intro now c r j s a b u ha hp hc state station mode step held clearing homing owed writes mild start unforced marked record names job alone hb
  have idles : Idles a := by
    refine ⟨held, owed, writes, step, ?_, by rw [homing]; exact (nomatch ·), clearing, fun hh => ?_⟩
    · rw [mode]
      exact ⟨(nomatch ·), (nomatch ·)⟩
    · cases state.symm.trans hh
  have hb' : b = resumed a := hb
  have cfg : b.cfg = some c := by
    rw [hb']
    exact (State.cfg_of_not_halted _ (by exact (nomatch ·))).trans ((State.cfg_of_not_halted a (by rw [station]; exact (nomatch ·))).symm.trans hc)
  have bjob : b.job r.job = some j := by
    rw [hb', names]
    exact job
  have brecord : b.faults.suspension = some r := by
    rw [hb']
    exact record
  have next := progress_serves idles state station mild start unforced marked
  rw [← hb'] at next
  have runs {v : State} (h : settle (a.setSensors { a.sensors with sop := true }) = v) : exec (.sopActive now) s = .next v :=
    (whenOn_at (act := fun t => settle (t.setSensors { t.sensors with sop := true })) ha hp).trans (congrArg _ h)
  have serves {v : State} (h : serve b = v) (settles : SettlesTo v u) : exec (.sopActive now) s = .next u :=
    runs (settles.settle_of_progress (next.trans (congrArg some h)))
  refine ⟨fun ahead behind k kind jobs others hk => ?_, fun kind fbn room pulls stage o t ho ht => ?_, fun kind fbn unhomed stage far => ?_,
    fun kind fbn near stage => ?_⟩
  · have rest : b.queue.jobs.filter (fun x => x.num != j.num) = ahead ++ behind := by
      have others' : ∀ l : List Job, (∀ x ∈ l, x.num ≠ j.num) → l.filter (fun x => x.num != j.num) = l :=
        fun l h => List.filter_eq_self.mpr fun x hx => by simpa using h x hx
      have split : b.queue.jobs = ahead ++ j :: behind := by rw [hb']; exact jobs
      rw [split, List.filter_append, List.filter_cons_of_neg (by simp), others' ahead fun x hx => others x (List.mem_append_left _ hx),
        others' behind fun x hx => others x (List.mem_append_right _ hx)]
    have served := serve_quiet cfg brecord bjob kind
    have faults : b.faults = a.faults := by rw [hb']; rfl
    have queue : b.queue = a.queue := by rw [hb']; rfl
    rw [faults] at served
    refine ⟨fun front x back split waits before settles => ?_, fun none_waits settles => ?_⟩
    · rw [requeue_before (rest.trans split) waits before, queue, ← hk] at served
      exact serves served settles
    · rw [requeue_first rest none_waits, queue, ← hk] at served
      exact serves served settles
  · have failed : serve b = setRecord none (failNow j.num r.cause.outcome b) := by
      have pulls' : b.front.pulling j.num = false := by rw [hb']; exact pulls
      rw [serve_laden cfg brecord bjob kind, if_pos (by rw [hb']; simp [resumed, fbn])]
      unfold requestFail
      rw [if_neg (by simp [pulls'])]
    have outcome : r.cause.outcome = o := by
      rw [ho]
      cases r.cause <;> rfl
    rw [outcome] at failed
    subst ht
    refine ⟨fun bare settles => ?_, fun ad q store slot here inbound bin settles => ?_⟩
    · have unreleased : releaseFor j b = b := by
        rcases bare with none_there | ⟨fetch, ad, slot, away⟩
        · unfold releaseFor
          rw [none_there]
        · refine releaseFor_unheld (by rw [hb']; exact held) fun x hx => ⟨?_, fun store => ?_⟩
          · obtain rfl : ad = x := Option.some.inj (slot.symm.trans hx)
            rw [slotIs_congr (s := a) (cfg.trans hc.symm) (by rw [hb']; rfl)]
            exact away
          · cases fetch.symm.trans store
      rw [failNow_unreleased (j := j) (by rw [← names]; exact bjob) stage (by rw [hb']; exact room) unreleased] at failed
      refine serves failed ?_
      rw [hb'] at settles ⊢
      exact settles
    · obtain ⟨named, hr⟩ := of_slotRec hc here
      rw [failNow_released_store (c := c) (j := j) cfg (by rw [← names]; exact bjob) (by rw [hb']; show a.crane.mode ≠ _; rw [mode]; exact (nomatch ·))
        slot store named rfl (r := q) (by rw [hb']; exact hr) inbound bin (by rw [hb']; exact held) (by rw [hb']; exact room)] at failed
      refine serves failed ?_
      rw [hb'] at settles ⊢
      exact settles
  · have raised : serve b = enterFaulted (recordFault .position b) := by
      rw [serve_laden cfg brecord bjob kind, if_neg (by rw [hb']; simp [resumed, fbn]), if_pos ?_]
      · exact raise_entered rfl (.inl (by rw [hb']; rfl))
      · rw [unhomed, hb']
        rcases far with h | h <;> simp [State.craneMoved, resumed, h]
    have bmode : (recordFault .position b).crane.mode = .stopped := by rw [hb']; exact mode
    obtain ⟨crane, stationed, fire, offers, faults⟩ := enterFaulted_stopped bmode
    have calm : b.fire.state = .calm := by rw [hb']; rfl
    have only : OnlyWrites (enterFaulted (recordFault .position b)) := by
      refine .of_idle_station ?_ ?_ ?_ ?_ ?_ (by rw [fire]; exact calm) (by rw [stationed]; exact (nomatch ·))
      all_goals rw [crane, hb']
      · exact held
      · exact step
      · exact idles.mode
      · exact idles.front
      · exact clearing
    have kept : (enterFaulted (recordFault .position b)).job j.num = some j := by
      have failing : disposeActive .fault .stationFault (faultStopped (recordFault .position b)) = faultStopped (recordFault .position b) :=
        disposeActive_unnamed (emergencyStop_unnamed (s := (recordFault .position b).setStation .faulted) (.inl bmode))
      have queue : (faultStopped (recordFault .position b)).queue = b.queue := by
        obtain ⟨k, hk⟩ := emergencyStop_crane ((recordFault .position b).setStation .faulted)
        unfold faultStopped
        rw [hk]
        rfl
      have bqueue : b.queue = a.queue := by rw [hb']; rfl
      show (failWaiting .stationFault (disposeActive .fault .stationFault (faultStopped (recordFault .position b)))).job j.num = some j
      rw [failing, failWaiting_job]
      · show (faultStopped _).queue.jobs.find? _ = _
        rw [queue, bqueue]
        exact job
      · rw [queue, bqueue]
        intro k hk same
        rw [alone k hk same]
        exact failable_of_stage (by rcases stage with h | h <;> simp [h])
    obtain ⟨d, m, settled, _⟩ := only.settle_of_progress (next.trans (congrArg some raised))
    refine ⟨_, runs settled, stationed, ?_, ?_, ?_, ?_, ?_, ?_, offers, ?_, kept⟩
    · show (enterFaulted _).fire.state = _; rw [fire]; exact calm
    · show inSet (enterFaulted _).faults.current _ = _; rw [faults]; exact inSet_or_bit _ _
    · show inSet (enterFaulted _).faults.accrued _ = _; rw [faults]; exact inSet_or_bit _ _
    · show (enterFaulted _).crane.mode = _; rw [crane]; exact bmode
    · show (enterFaulted _).crane.travel.homed = _; rw [crane]; rfl
    · show (enterFaulted _).crane.lift.homed = _; rw [crane]; rfl
    · show (enterFaulted _).faults.suspension = _; rw [faults]; exact brecord
  · have unmoved : serve b = if jammed r j then clearJam r j b else b := by
      rw [serve_laden cfg brecord bjob kind, if_neg (by rw [hb']; simp [resumed, fbn]), if_neg ?_]
      rw [hb']
      rcases near with h | ⟨travel, lift⟩
      · simp [h]
      · simp [State.craneMoved, resumed, Nat.not_lt.mpr travel, Nat.not_lt.mpr lift]
    refine ⟨fun k kd t unjammed hkd hk gives settles => ?_, fun ad ad2 p q d jam store slot here inbound room free hd best named hq empty bin settles => ?_⟩
    · rw [if_neg (by simp [unjammed])] at unmoved
      have bidles : Idles b := by
        rw [hb']
        exact ⟨held, owed, writes, step, idles.mode, idles.front, clearing, (nomatch ·)⟩
      have moves := progress_gives bidles (by rw [hb']; exact mode) (by rw [hb']; rfl) (by rw [hb']; rfl) brecord kind bjob stage
      rw [giveServed_taken (t := t) (by rw [← names]; exact bjob) (by rw [hb']; exact alone) hk
        (by rw [show servedStep r j = kd from hkd.symm, hb']; rw [hb'] at gives; exact gives)] at moves
      refine runs (settles.settle_of_two (next.trans (congrArg some unmoved)) ?_)
      rw [moves]
      rw [hb']
      rfl
    · have jammed' : jammed r j = true := by
        rcases stage with h | h <;> simp [jammed, jam, Job.isStore, store, slot, h]
      have bhere : b.slotRec ad = some p := by
        obtain ⟨named, hr⟩ := of_slotRec hc here
        exact (slotRec_at cfg named rfl).trans (by rw [hb']; exact hr)
      rw [if_pos jammed', clearJam_eq (c := c) (d := d) cfg (by rw [← names]; exact bjob) slot bhere inbound
        (by rw [hb']; exact owed) (by rw [hb']; exact room) (by rw [hb']; exact free) (by rw [hd, hb']; rfl) best named hq empty bin] at unmoved
      have count : d.emptyCount = a.dir.emptyCount := by rw [hd]
      refine serves unmoved ?_
      rw [count, hb']
      rw [hb'] at settles
      exact settles

end Sys2Proof.Machine
end

section
/-! SUPPORT. What a severe fault fails, releases and keeps (R145, R164 to R168). -/

namespace Sys2Proof.Machine

set_option Elab.async false

open Sys2Proof

/-! ## Slots released by failing (R35) -/

/-- `q` is the record `r` becomes when its job fails. -/
def SlotRec.Releases (r q : SlotRec) : Prop :=
  (r.state = .outbound ∧ q = { r with state := .held }) ∨ (r.state = .inbound ∧ q = { r with state := .empty, bin := 0 })

/-- A release changes no lasting image (R6). -/
theorem SlotRec.Releases.lasting {r q : SlotRec} (h : r.Releases q) : q.lasting = r.lasting := by
  rcases h with ⟨state, rfl⟩ | ⟨state, rfl⟩ <;> simp [SlotRec.lasting, state]

/-- A record released is not released again. -/
theorem SlotRec.Releases.final {r q x : SlotRec} (h : r.Releases q) : ¬ q.Releases x := by
  rcases h with ⟨_, rfl⟩ | ⟨_, rfl⟩ <;> rintro (⟨state, _⟩ | ⟨state, _⟩) <;> cases state

theorem SlotRec.Releases.unique {r q x : SlotRec} (h : r.Releases q) (k : r.Releases x) : x = q := by
  rcases h with ⟨hr, rfl⟩ | ⟨hr, rfl⟩ <;> rcases k with ⟨kr, rfl⟩ | ⟨kr, rfl⟩
  · rfl
  · cases hr.symm.trans kr
  · cases hr.symm.trans kr
  · rfl

/-- Of the directory `t` differs from `s` in records released, no more. -/
structure FreesSlots (s t : State) : Prop where
  writes : t.dir.writeList = s.dir.writeList
  port : t.dir.port = s.dir.port
  slots : ∀ i r, getAt i s.dir.records = some r → ∃ q, getAt i t.dir.records = some q ∧ (q = r ∨ r.Releases q)

theorem FreesSlots.of_dir {s t : State} (h : t.dir = s.dir) : FreesSlots s t := by
  refine ⟨by rw [h], by rw [h], fun i r hr => ⟨r, by rw [h]; exact hr, .inl rfl⟩⟩

theorem FreesSlots.trans {s t u : State} (h : FreesSlots s t) (k : FreesSlots t u) : FreesSlots s u := by
  refine ⟨k.writes.trans h.writes, k.port.trans h.port, fun i r hr => ?_⟩
  obtain ⟨q, hq, rq⟩ := h.slots i r hr
  obtain ⟨x, hx, qx⟩ := k.slots i q hq
  refine ⟨x, hx, ?_⟩
  rcases rq with rfl | rq
  · exact qx
  · rcases qx with rfl | qx
    · exact .inr rq
    · exact absurd qx rq.final

/-- A record neither OUTBOUND nor INBOUND stands. -/
theorem FreesSlots.stands {s t : State} {i : Nat} {r : SlotRec} (h : FreesSlots s t) (hr : getAt i s.dir.records = some r)
    (unreserved : ∀ q, ¬ r.Releases q) : getAt i t.dir.records = some r := by
  obtain ⟨q, hq, rfl | rq⟩ := h.slots i r hr
  · exact hq
  · exact absurd rq (unreserved q)

theorem requestChange_freesSlots {a : SlotAddr} {src : SlotState → Bool} {st : SlotState} {bin : SlotRec → Nat} {job : Option Nat} {s : State}
    (releases : ∀ r : SlotRec, src r.state = true → r.Releases { r with state := st, bin := bin r }) :
    FreesSlots s (requestChange a src st bin job s) := by
  rcases requestChange_cases a src st bin job s with hr | ⟨c, r, hc, hr, hsrc, he⟩
  · rw [hr]
    exact .of_dir rfl
  · obtain ⟨_, here⟩ := of_slotRec hc hr
    have change : Directory.change a (slotIndex c a) st (bin r) job s.dir = Directory.put (slotIndex c a) { r with state := st, bin := bin r } s.dir := by
      unfold Directory.change
      simp only [here]
      exact if_pos (releases r hsrc).lasting
    rcases put_cases (slotIndex c a) { r with state := st, bin := bin r } s.dir with ⟨gone, _⟩ | ⟨_, _, put⟩
    · rw [here] at gone
      cases gone
    · rw [he]
      unfold State.onDir
      rw [change, put]
      refine ⟨rfl, rfl, fun i x hx => ?_⟩
      by_cases hi : i = slotIndex c a
      · subst hi
        obtain rfl : r = x := Option.some.inj (here.symm.trans hx)
        exact ⟨_, getAt_setAt_same (lt_of_getAt here), .inr (releases r hsrc)⟩
      · exact ⟨x, (getAt_setAt_other hi).trans hx, .inl rfl⟩

theorem releaseFor_freesSlots {j : Job} {s : State} (unpicked : s.crane.heldPick j.num = false) : FreesSlots s (releaseFor j s) := by
  unfold releaseFor
  split
  · exact .of_dir rfl
  · rw [if_neg (by simp [unpicked])]
    unfold releaseSlot
    split
    · split
      · exact requestChange_freesSlots fun r hr => .inl ⟨eq_of_beq hr, rfl⟩
      · exact requestChange_freesSlots fun r hr => .inr ⟨eq_of_beq hr, rfl⟩
    · exact .of_dir rfl

/-! ## Work dismissed -/

/-- `t` is `s` with jobs failed whose picks are not held. -/
structure Dismisses (s t : State) : Prop where
  work : FailsWork s t
  drops : Drops s t
  frees : FreesSlots s t

theorem Dismisses.refl (s : State) : Dismisses s s := ⟨.refl s, .refl s, .of_dir rfl⟩

theorem Dismisses.trans {s t u : State} (h : Dismisses s t) (k : Dismisses t u) : Dismisses s u :=
  ⟨h.work.trans k.work, h.drops.trans k.drops, h.frees.trans k.frees⟩

theorem FailsWork.heldPick {s t : State} (h : FailsWork s t) (n : Nat) : t.crane.heldPick n = s.crane.heldPick n := by
  unfold Crane.heldPick
  rw [h.held]

theorem failNow_freesSlots {n : Nat} {o : FailOutcome} {s : State} (unpicked : s.crane.heldPick n = false) : FreesSlots s (failNow n o s) := by
  cases job : s.job n with
  | none =>
    rw [failNow_none job]
    exact .of_dir rfl
  | some j =>
    have num : j.num = n := by simpa using List.find?_some job
    have released := releaseFor_freesSlots (j := j) (s := s) (by rw [num]; exact unpicked)
    exact released.trans (.of_dir (failNow_dir job))

theorem dismisses_requestFail {n : Nat} {o : FailOutcome} {s : State} (unpicked : s.crane.heldPick n = false) :
    Dismisses s (requestFail n o s) := by
  refine ⟨failsWork_requestFail n o s, drops_requestFail n o s, ?_⟩
  rcases requestFail_cases n o s with ⟨_, h⟩ | ⟨_, h⟩ <;> rw [h]
  · exact .of_dir rfl
  · exact failNow_freesSlots unpicked

theorem dismisses_setRecord (r : Option Suspension) (s : State) : Dismisses s (setRecord r s) :=
  ⟨failsWork_setRecord r s, ⟨.refl _, fun _ h => h, fun _ h => h⟩, .of_dir rfl⟩

/-- One job looked at as the waiting work is failed. -/
def failOne (o : FailOutcome) (t : State) (j : Job) : State := if j.failable then requestFail j.num o t else t

theorem failOne_failable {o : FailOutcome} {j : Job} (t : State) (h : j.failable = true) : failOne o t j = requestFail j.num o t := if_pos h

theorem failOne_spared {o : FailOutcome} {j : Job} (t : State) (h : j.failable = false) : failOne o t j = t := if_neg (by simp [h])

theorem dismisses_failing {o : FailOutcome} (l : List Job) {s : State} (unpicked : ∀ k ∈ l, k.failable = true → s.crane.heldPick k.num = false) :
    Dismisses s (l.foldl (failOne o) s) := by
  induction l generalizing s with
  | nil => exact .refl s
  | cons k ks ih =>
    have first : Dismisses s (failOne o s k) := by
      cases fails : k.failable
      · rw [failOne_spared s fails]
        exact .refl s
      · rw [failOne_failable s fails]
        exact dismisses_requestFail (unpicked k List.mem_cons_self fails)
    exact first.trans (ih fun x hx fails => by
      rw [first.work.heldPick]
      exact unpicked x (List.mem_cons_of_mem _ hx) fails)

/-- The jobs failed at a loop of other numbers leave a job standing. -/
theorem failing_job {o : FailOutcome} {n : Nat} (l : List Job) (others : ∀ k ∈ l, k.failable = true → k.num ≠ n) (s : State) :
    (l.foldl (failOne o) s).job n = s.job n := by
  induction l generalizing s with
  | nil => rfl
  | cons k ks ih =>
    refine (ih (fun x hx => others x (List.mem_cons_of_mem _ hx)) _).trans ?_
    cases fails : k.failable
    · rw [failOne_spared s fails]
    · rw [failOne_failable s fails]
      exact requestFail_job o s (others k List.mem_cons_self fails).symm

/-! ## Room for every FAILED -/

/-- The general entries hold a frame for every job. -/
def FramesFit (s : State) : Prop := s.line.general.length + s.queue.jobs.length < 8

theorem FramesFit.failNow {n : Nat} {s : State} (h : FramesFit s) (o : FailOutcome) : FramesFit (failNow n o s) := by
  unfold FramesFit at h ⊢
  cases job : s.job n with
  | none => rwa [failNow_none job]
  | some j =>
    obtain ⟨queue, line, _⟩ := failNow_gone (o := o) job (by omega)
    have fewer : (s.queue.jobs.filter (fun k => k.num != n)).length < s.queue.jobs.length := by
      refine List.length_filter_lt_length_iff_exists.mpr ⟨j, List.mem_of_find?_eq_some job, ?_⟩
      simpa using List.find?_some job
    have more : (Machine.failNow n o s).line.general.length = s.line.general.length + 1 := by
      rw [line]
      simp [Queued]
    rw [queue, more]
    show s.line.general.length + 1 + (s.queue.jobs.filter (fun k => k.num != n)).length < 8
    omega

/-- With no action at the front no fail request waits. -/
theorem requestFail_now {n : Nat} {o : FailOutcome} {s : State} (idle : s.front.action = none) : requestFail n o s = failNow n o s := by
  unfold requestFail
  rw [if_neg (by simp [Front.pulling, idle])]

theorem FramesFit.failing {o : FailOutcome} (l : List Job) {s : State} (h : FramesFit s) (idle : s.front.action = none) :
    FramesFit (l.foldl (failOne o) s) := by
  induction l generalizing s with
  | nil => exact h
  | cons k ks ih =>
    cases fails : k.failable
    · rw [List.foldl_cons, failOne_spared s fails]
      exact ih h idle
    · rw [List.foldl_cons, failOne_failable s fails, requestFail_now idle]
      exact ih (h.failNow o) (by rw [(failsWork_failNow k.num o s).front]; exact idle)

/-! ## One job failed -/

/-- `q` is what the slot record `r` of the job becomes as it fails. -/
def Job.Frees (k : Job) (r q : SlotRec) : Prop :=
  (k.kind = .fetch ∧ r.state = .outbound ∧ q = { r with state := .held })
    ∨ (k.kind = .store ∧ r.state = .inbound ∧ q = { r with state := .empty, bin := 0 })

theorem Job.Frees.releases {k : Job} {r q : SlotRec} (h : k.Frees r q) : r.Releases q := by
  rcases h with ⟨_, state, eq⟩ | ⟨_, state, eq⟩
  · exact .inl ⟨state, eq⟩
  · exact .inr ⟨state, eq⟩

/-- `u` is `s` with the job failed: gone from the queue, its FAILED queued, its slot released. -/
structure Failed (o : FailOutcome) (k : Job) (s u : State) : Prop where
  gone : ∀ q ∈ u.queue.jobs, q.num ≠ k.num
  frame : ∃ x ∈ u.line.general, x.body = .failed k.bin k.tag o ∧ x.dest = .station k.requester
  slot : ∀ ad r q, k.slot = some ad → s.slotRec ad = some r → r.bin = k.bin → k.Frees r q → u.slotRec ad = some q

theorem failNow_failed {o : FailOutcome} {k : Job} {s : State} (job : s.job k.num = some k) (room : s.line.general.length < 8)
    (held : s.crane.held = none) : Failed o k s (failNow k.num o s) := by
  obtain ⟨queue, line, _⟩ := failNow_gone (o := o) job room
  refine ⟨fun q hq => ?_, ⟨newEntry s.line.nextOrder (.failed k.bin k.tag o) (.station k.requester) none, ?_, rfl, rfl⟩,
    fun ad r q slot here bin frees => ?_⟩
  · rw [queue] at hq
    simpa using (List.mem_filter.mp hq).2
  · rw [line]
    simp [Queued]
  · cases hc : s.cfg with
    | none =>
      unfold State.slotRec at here
      simp [hc] at here
    | some c =>
      obtain ⟨names, hr⟩ := of_slotRec hc here
      rw [slotRec_at (c := c) ((failsWork_failNow k.num o s).cfg.trans hc) names rfl, failNow_dir job]
      rcases frees with ⟨fetch, state, rfl⟩ | ⟨store, state, rfl⟩
      · rw [releaseFor_fetch hc slot fetch names rfl hr state bin held]
        exact getAt_setAt_same (lt_of_getAt hr)
      · rw [releaseFor_store hc slot store names rfl hr state bin held]
        exact getAt_setAt_same (lt_of_getAt hr)

/-- Between a slot's records in two states with one configuration. -/
theorem slotRec_of_getAt {s t : State} {ad : SlotAddr} {r : SlotRec} (cfg : t.cfg = s.cfg) (here : s.slotRec ad = some r) :
    ∃ i, getAt i s.dir.records = some r ∧ t.slotRec ad = getAt i t.dir.records := by
  cases hc : s.cfg with
  | none =>
    unfold State.slotRec at here
    simp [hc] at here
  | some c =>
    obtain ⟨names, hr⟩ := of_slotRec hc here
    exact ⟨_, hr, slotRec_at (cfg.trans hc) names rfl⟩

/-- Work dismissed before leaves the failing as it is: the slot is released either way. -/
theorem Failed.after {o : FailOutcome} {k : Job} {s t u : State} (h : Failed o k t u) (first : Dismisses s t) (then_ : Dismisses t u) :
    Failed o k s u := by
  refine ⟨h.gone, h.frame, fun ad r q slot here bin frees => ?_⟩
  obtain ⟨i, hr, there⟩ := slotRec_of_getAt first.work.cfg here
  obtain ⟨x, hx, rfl | released⟩ := first.frees.slots i r hr
  · exact h.slot ad x q slot (there.trans hx) bin frees
  · obtain rfl := frees.releases.unique released
    obtain ⟨i', hx', last⟩ := slotRec_of_getAt then_.work.cfg (there.trans hx)
    exact last.trans (then_.frees.stands hx' fun _ => frees.releases.final)

/-- Work dismissed afterwards brings nothing back. -/
theorem Failed.before {o : FailOutcome} {k : Job} {s t u : State} (h : Failed o k s t) (then_ : Dismisses t u) : Failed o k s u := by
  obtain ⟨x, hx, body⟩ := h.frame
  refine ⟨fun q hq => h.gone q (then_.drops.jobs.subset hq), ⟨x, then_.drops.frames x hx, body⟩, fun ad r q slot here bin frees => ?_⟩
  obtain ⟨i, hq, last⟩ := slotRec_of_getAt then_.work.cfg (h.slot ad r q slot here bin frees)
  exact last.trans (then_.frees.stands hq fun _ => frees.releases.final)

/-! ## The waiting work failed (R165) -/

theorem num_ne_of_nodup {k x : Job} {pre post : List Job} (distinct : ((pre ++ k :: post).map (·.num)).Nodup) (hx : x ∈ pre) : x.num ≠ k.num := by
  rw [List.map_append, List.nodup_append] at distinct
  exact distinct.2.2 x.num (List.mem_map_of_mem hx) k.num (by simp)

theorem job_of_mem {k : Job} {s : State} (distinct : (s.queue.jobs.map (·.num)).Nodup) (mem : k ∈ s.queue.jobs) : s.job k.num = some k := by
  obtain ⟨pre, post, split⟩ := List.append_of_mem mem
  unfold State.job
  rw [split] at distinct ⊢
  rw [List.find?_append, List.find?_eq_none.mpr fun x hx => by simpa using num_ne_of_nodup distinct hx]
  simp

theorem failWaiting_fails {o : FailOutcome} {k : Job} {s : State} (fit : FramesFit s) (idle : s.front.action = none) (held : s.crane.held = none)
    (distinct : (s.queue.jobs.map (·.num)).Nodup) (mem : k ∈ s.queue.jobs) (failable : k.failable = true) : Failed o k s (failWaiting o s) := by
  obtain ⟨pre, post, split⟩ := List.append_of_mem mem
  have unpicked {t : State} (h : t.crane.held = none) (l : List Job) : ∀ x ∈ l, x.failable = true → t.crane.heldPick x.num = false :=
    fun x _ _ => by simp [Crane.heldPick, h]
  have first : Dismisses s (pre.foldl (failOne o) s) := dismisses_failing pre (unpicked held pre)
  have there : (pre.foldl (failOne o) s).job k.num = some k :=
    (failing_job pre (fun x hx _ => num_ne_of_nodup (split ▸ distinct) hx) s).trans (job_of_mem distinct mem)
  have room : FramesFit (pre.foldl (failOne o) s) := fit.failing pre idle
  have heldThen : (pre.foldl (failOne o) s).crane.held = none := first.work.held.trans held
  have failed : Failed o k (pre.foldl (failOne o) s) (failOne o (pre.foldl (failOne o) s) k) := by
    rw [failOne_failable _ failable, requestFail_now (first.work.front ▸ idle)]
    exact failNow_failed there (by unfold FramesFit at room; omega) heldThen
  have this : Dismisses (pre.foldl (failOne o) s) (failOne o (pre.foldl (failOne o) s) k) :=
    dismisses_failing [k] (unpicked heldThen [k])
  have rest : Dismisses (failOne o (pre.foldl (failOne o) s) k) (post.foldl (failOne o) (failOne o (pre.foldl (failOne o) s) k)) :=
    dismisses_failing post (unpicked (this.work.held.trans heldThen) post)
  have whole : failWaiting o s = post.foldl (failOne o) (failOne o (pre.foldl (failOne o) s) k) := by
    show s.queue.jobs.foldl (failOne o) s = _
    rw [split, List.foldl_append, List.foldl_cons]
  rw [whole]
  exact (failed.before rest).after first (this.trans rest)

/-! ## The active job disposed of (R145) -/

/-- Disposing of the active job fails it, or is of the record alone. -/
theorem disposeActive_cases (cause : Cause) (o : FailOutcome) (s : State) : (∃ r, disposeActive cause o s = setRecord r s)
    ∨ ∃ j, s.job j.num = some j ∧ j.onCrane = true ∧ disposeActive cause o s = setRecord none (requestFail j.num o s) := by
  have same : s = setRecord s.faults.suspension s := rfl
  unfold disposeActive
  split
  · exact .inl ⟨_, same⟩
  · split
    · exact .inl ⟨_, same⟩
    · split
      · split
        · exact .inl ⟨_, rfl⟩
        · exact .inl ⟨_, same⟩
      · rename_i j job
        have found : s.job j.num = some j := (congrArg s.job (by simpa using List.find?_some job)).trans job
        split
        · split
          · exact .inl ⟨_, rfl⟩
          · exact .inl ⟨_, same⟩
        · rename_i on
          have active : j.onCrane = true := by simpa using on
          split
          · exact .inl ⟨_, rfl⟩
          · split
            · split
              · exact .inl ⟨_, rfl⟩
              · exact .inr ⟨j, found, active, rfl⟩
            · split
              · exact .inr ⟨j, found, active, rfl⟩
              · exact .inl ⟨_, rfl⟩

/-! ## The work of a station gone to FAULTED -/

theorem dismisses_failWaiting {o : FailOutcome} {s : State} (held : s.crane.held = none) : Dismisses s (failWaiting o s) :=
  dismisses_failing s.queue.jobs fun k _ _ => by simp [Crane.heldPick, held]

/-- The work disposed of as the station enters FAULTED. -/
def faultDisposed (w : State) : State := failWaiting .stationFault (disposeActive .fault .stationFault w)

theorem enterFaulted_disposed (s : State) : enterFaulted s = closeOffers (faultDisposed (faultStopped s)) := rfl

/-- Closing the offers takes no FAILED. -/
theorem closeOffers_frame {x : TxEntry} {s : State} (mem : x ∈ s.line.general) (other : x.isBidOrClaim = false) :
    x ∈ (closeOffers s).line.general := by
  refine List.mem_map.mpr ⟨x, List.mem_filter.mpr ⟨mem, by simp [other]⟩, if_neg (by simp [other])⟩

theorem failable_offCrane {k : Job} (h : k.failable = true) : k.onCrane = false := by
  cases stage : k.stage <;> simp_all [Job.failable, Job.waitingFetch, Job.onCrane, Job.active]

section
variable {w : State} (distinct : (w.queue.jobs.map (·.num)).Nodup)
include distinct

theorem eq_of_num {k x : Job} (hk : k ∈ w.queue.jobs) (hx : x ∈ w.queue.jobs) (num : x.num = k.num) : x = k := by
  have := job_of_mem distinct hk
  rw [← num, job_of_mem distinct hx] at this
  exact Option.some.inj this

/-- A job off the crane that is not waiting work stays. -/
theorem faultDisposed_keeps {k : Job} (mem : k ∈ w.queue.jobs) (spared : k.failable = false) (off : k.onCrane = false) :
    k ∈ (faultDisposed w).queue.jobs := by
  have job := job_of_mem distinct mem
  have sub : (disposeActive .fault .stationFault w).queue.jobs.Sublist w.queue.jobs ∧ (disposeActive .fault .stationFault w).job k.num = some k := by
    rcases disposeActive_cases .fault .stationFault w with ⟨r, eq⟩ | ⟨j, found, on, eq⟩ <;> rw [eq]
    · exact ⟨.refl _, job⟩
    · refine ⟨(drops_requestFail j.num _ w).jobs, (requestFail_job _ w fun num => ?_).trans job⟩
      rw [← num, job] at found
      rw [← Option.some.inj found, off] at on
      cases on
  have kept : (faultDisposed w).job k.num = some k :=
    (failWaiting_job fun x hx num => by rw [eq_of_num distinct mem (sub.1.subset hx) num]; exact spared).trans sub.2
  exact List.mem_of_find?_eq_some kept

variable (fit : FramesFit w) (idle : w.front.action = none) (held : w.crane.held = none)
include fit idle held

/-- The waiting work fails (R165). -/
theorem faultDisposed_waiting {k : Job} (mem : k ∈ w.queue.jobs) (failable : k.failable = true) :
    Failed .stationFault k w (faultDisposed w) := by
  rcases disposeActive_cases .fault .stationFault w with ⟨r, eq⟩ | ⟨j, found, on, eq⟩
  · have first := dismisses_setRecord r w
    unfold faultDisposed
    rw [eq]
    exact (failWaiting_fails (s := setRecord r w) fit idle held distinct mem failable).after first (dismisses_failWaiting held)
  · have first : Dismisses w (setRecord none (requestFail j.num .stationFault w)) :=
      (dismisses_requestFail (by simp [Crane.heldPick, held])).trans (dismisses_setRecord none _)
    have now := requestFail_now (n := j.num) (o := .stationFault) idle
    have fit' : FramesFit (setRecord none (requestFail j.num .stationFault w)) := by
      rw [now]
      exact fit.failNow .stationFault
    have there : k ∈ (setRecord none (requestFail j.num .stationFault w)).queue.jobs := by
      rw [now]
      show k ∈ (failNow j.num .stationFault w).queue.jobs
      rw [failNow_jobs, List.mem_filter]
      refine ⟨mem, by_contra fun same => ?_⟩
      have num : k.num = j.num := by simpa using same
      rw [← num, job_of_mem distinct mem] at found
      rw [← Option.some.inj found, failable_offCrane failable] at on
      cases on
    unfold faultDisposed
    rw [eq]
    exact (failWaiting_fails fit' (by rw [first.work.front]; exact idle) (first.work.held.trans held)
      ((first.drops.jobs.map _).nodup distinct) there failable).after first (dismisses_failWaiting (first.work.held.trans held))

omit distinct in
/-- The active job failed, no record stands (R166). -/
theorem faultDisposed_active {k : Job} (job : w.job k.num = some k)
    (eq : disposeActive .fault .stationFault w = setRecord none (requestFail k.num .stationFault w)) :
    Failed .stationFault k w (faultDisposed w) ∧ (faultDisposed w).faults.suspension = none := by
  rw [requestFail_now idle] at eq
  have heldThen : (setRecord none (failNow k.num .stationFault w)).crane.held = none := (failsWork_failNow k.num _ w).held.trans held
  unfold faultDisposed
  rw [eq, failWaiting_faults]
  have room : w.line.general.length < 8 := by
    unfold FramesFit at fit
    omega
  exact ⟨((failNow_failed job room held).before (dismisses_setRecord none _)).before (dismisses_failWaiting heldThen), rfl⟩

end

/-- The active job kept under a record (R165, R168). -/
theorem faultDisposed_records {w : State} {j : Job} {st : NamedStep} {kind : SuspKind} {r : StopReport} (job : w.job j.num = some j)
    (alone : ∀ k ∈ w.queue.jobs, k.num = j.num → k = j) (spared : j.failable = false)
    (eq : disposeActive .fault .stationFault w = formRecord kind j st .fault r w) :
    (faultDisposed w).job j.num = some j ∧ (faultDisposed w).faults.suspension = some
      { kind := kind, job := j.num, stage := j.stage, done := st.done, cause := .fault, travel := r.travel
        lift := r.lift, primary := w.primary, step := st.kind, homed := false } := by
  unfold faultDisposed
  rw [eq, failWaiting_faults, failWaiting_job fun k hk hn => by rw [alone k hk hn]; exact spared]
  exact ⟨job, rfl⟩

/-- The station stopped for FAULTED out of RUN, its report made, its work not yet disposed of. -/
structure FaultReported (a x w : State) : Prop where
  queue : w.queue = a.queue
  dir : w.dir = a.dir
  front : w.front = a.front
  cfg : w.cfg = a.cfg
  held : w.crane.held = a.crane.held
  stopped : w.crane.mode = .stopped
  frames : w.line.general.length = a.line.general.length
  report : ∃ homing, w.crane.report = some ⟨x.sensors.fbn, a.crane.travel.count, a.crane.lift.count, x.crane.toName, homing⟩

theorem MotionEnded.faultReported {a x : State} (ended : MotionEnded a x) (f : FaultName) (station : a.station = .run)
    (mode : x.crane.mode ≠ .stopped) : FaultReported a x (faultStopped (recordFault f x)) := by
  obtain ⟨k, eq, crane⟩ := faultStopped_crane (s := recordFault f x) mode
  have report := emergencyStop_reports (s := (recordFault f x).setStation .faulted) mode
  have reported : (faultStopped (recordFault f x)).crane.report = _ := report
  have general : (recordFault f x).line.general.length = a.line.general.length := by
    have : (recordFault f x).line.general.length = x.line.general.length := List.length_map _
    rw [this, ended.state]
  rw [eq] at reported ⊢
  refine ⟨?_, ?_, ?_, ?_, crane.held.trans ended.held, crane.mode, general, ?_⟩
  · show x.queue = _; rw [ended.state]
  · show x.dir = _; rw [ended.state]
  · show x.front = _; rw [ended.state]
  · rw [State.cfg_of_not_halted _ (by exact (nomatch ·)), State.cfg_of_not_halted a (by rw [station]; exact (nomatch ·))]
    show x.config = _
    rw [ended.state]
  · obtain ⟨travel, lift⟩ := ended.counts
    rw [← travel, ← lift]
    exact ⟨_, reported⟩

/-- FAULTED entered, before anything follows. -/
theorem inFaulted_entered {f : FaultName} {s : State} (mode : s.crane.mode ≠ .stopped) (current : inSet s.faults.current f = true)
    (accrued : inSet s.faults.accrued f = true) : InFaulted f (enterFaulted s) := by
  obtain ⟨k, hk, _⟩ := faultStopped_crane mode
  have fails := failsWork_enterFaulted s
  rw [hk] at fails
  have crane := enterFaulted_crane mode
  exact ⟨fails.station, by rw [fails.sets.1]; exact current, by rw [fails.sets.2]; exact accrued, crane.mode, crane.travel, crane.lift, crane.fork, rfl⟩

/-- A severe fault raised in RUN, the crane not yet stopped: the station in FAULTED with its work disposed of. -/
theorem MotionEnded.raised {a x : State} {f : FaultName} (ended : MotionEnded a x) (severe : f.severe = true) (station : a.station = .run)
    (still : CraneHeld a) (mode : a.crane.mode ≠ .stopped) :
    ∃ w, raise f x = closeOffers (faultDisposed w) ∧ FaultReported a x w ∧ InFaulted f (closeOffers (faultDisposed w))
      ∧ (closeOffers (faultDisposed w)).fire.state = .calm ∧ (closeOffers (faultDisposed w)).crane.clearing = none
      ∧ (a.crane.held = none → OnlyWrites (closeOffers (faultDisposed w))) := by
  have moving := ended.moving mode (still.unclearing (.inl station))
  have xstation : x.station = .run := by rw [ended.state]; exact station
  have calm : x.fire.state = .calm := by rw [ended.state]; exact still.calm (.inl station)
  have fire : (enterFaulted (recordFault f x)).fire = x.fire := by
    obtain ⟨k, hk, _⟩ := faultStopped_crane (s := recordFault f x) moving
    have fails := failsWork_enterFaulted (recordFault f x)
    rw [hk] at fails
    exact fails.fire
  exact ⟨faultStopped (recordFault f x), raise_entered severe (.inl xstation), ended.faultReported f station moving,
    inFaulted_entered (s := recordFault f x) moving (inSet_or_bit _ _) (inSet_or_bit _ _), (congrArg FireUnit.state fire).trans calm,
    (enterFaulted_crane (s := recordFault f x) moving).clearing,
    fun held => onlyWrites_enterFaulted (s := recordFault f x) moving (ended.held.trans held) calm⟩

theorem FaultReported.job {a x w : State} (h : FaultReported a x w) (n : Nat) : w.job n = a.job n := by
  unfold State.job
  rw [h.queue]

theorem FaultReported.slotRec {a x w : State} (h : FaultReported a x w) (ad : SlotAddr) : w.slotRec ad = a.slotRec ad := by
  unfold State.slotRec
  rw [h.cfg, h.dir]

theorem faultDisposed_primary (w : State) : (faultDisposed w).primary = w.primary :=
  congrArg primaryOf ((failsWork_disposeActive .fault .stationFault w).trans (failsWork_failWaiting .stationFault _)).sets.1

/-- A slot's record in the state where only writes have followed. -/
theorem slotIs_settled {e : State} {d : Directory} {m : List Host.Cell} {ad : SlotAddr} {q : SlotRec} (same : SameSlots e.dir d)
    (here : e.slotRec ad = some q) : ({ e with dir := d, memory := m } : State).slotIs ad q.state = true := by
  rw [same.slotIs]
  unfold State.slotIs
  simp [here]

/-- What a job failed in FAULTED leaves, the offers closed and the writes begun. -/
theorem Failed.settled {o : FailOutcome} {k : Job} {w u : State} {d : Directory} {m : List Host.Cell} (h : Failed o k w u)
    (same : SameSlots (closeOffers u).dir d) :
    (∀ q ∈ u.queue.jobs, q.num ≠ k.num)
      ∧ (∃ x ∈ (closeOffers u).line.general, x.body = .failed k.bin k.tag o ∧ x.dest = .station k.requester)
      ∧ ∀ ad r q, k.slot = some ad → w.slotRec ad = some r → r.bin = k.bin → k.Frees r q →
        ({ closeOffers u with dir := d, memory := m } : State).slotIs ad q.state = true := by
  obtain ⟨x, hx, body, dest⟩ := h.frame
  refine ⟨h.gone, ⟨x, closeOffers_frame hx (by simp [TxEntry.isBidOrClaim, body]), body, dest⟩, fun ad r q slot here bin frees => ?_⟩
  exact slotIs_settled same (h.slot ad r q slot here bin frees)

/-! ## The bin lost while its pick waits for a place on the write list (R63; log 20) -/

/-- With the write list full, a change of the slot's lasting image is owed. -/
theorem change_owed {ad : SlotAddr} {i bin : Nat} {st : SlotState} {job : Option Nat} {r : SlotRec} {d : Directory} (here : getAt i d.records = some r)
    (differs : SlotRec.lasting { r with state := st, bin := bin } ≠ r.lasting) (full : d.writeRoom ad = false) :
    getAt i (Directory.change ad i st bin job d).records = some ⟨st, bin, true⟩ ∧ (Directory.change ad i st bin job d).writeList = d.writeList
      ∧ (Directory.change ad i st bin job d).port = d.port := by
  unfold Directory.change
  simp only [here]
  rw [if_neg differs]
  unfold Directory.oweWrite
  rw [if_neg (by simp [full])]
  rcases put_cases i { r with state := st, bin := bin, owed := true } d with ⟨gone, _⟩ | ⟨_, _, put⟩
  · rw [here] at gone
    cases gone
  · rw [put]
    exact ⟨getAt_setAt_same (lt_of_getAt here), rfl, rfl⟩

/-- A station in FAULTED with a result held for a full write list under way waits. -/
theorem progress_heldFaulted {h : HeldStep} {ad : SlotAddr} {s : State} (station : s.station = .faulted) (calm : s.fire.state = .calm)
    (crane : s.crane.mode = .stopped ∧ s.crane.step = none ∧ s.crane.homing = none ∧ s.crane.clearing = none)
    (held : s.crane.held = some h) (place : h.step.place = .slot ad) (full : s.dir.writeRoom ad = false) (port : s.dir.port ≠ .idle) :
    progress s = none := by
  obtain ⟨mode, step, homing, clearing⟩ := crane
  have room : ¬ s.dir.writeList.length < 4 := by
    unfold Directory.writeRoom at full
    simp at full
    omega
  have waits : finishHeld s = none := by
    unfold finishHeld
    simp only [held]
    split
    · rename_i eq
      cases eq
      exact if_neg (by simp [place, Place.slotOf, full])
    · rfl
  have owed : fillOwed s = none := by
    unfold fillOwed
    split
    · exact if_neg room
    · rfl
  have cleared : clearProgress s = none := by
    unfold clearProgress
    simp only [clearing]
    split <;> simp_all
  have out : s.inService = false := by simp [State.inService, station]
  have off (p : Prop) (hs : s.inService = true) : p := by rw [out] at hs; cases hs
  unfold progress
  simp [waits, owed, beginWrite_none (s := s) (.inr port), stepProgress_none step,
    craneRests_none (s := s) (by rw [mode]; exact ⟨(nomatch ·), (nomatch ·)⟩), haltingReport, calm, cleared, homedAtFront, homing, sealedByScl,
    reopen, opened, serveGive_none (off _), nextStep_none (off _), selection_none (off _)]

/-- A FETCH whose verified pick is held fails as its bin is lost; its slot is EMPTY with its write owed. -/
theorem failNow_lost {o : FailOutcome} {c : Config} {ad : SlotAddr} {r : SlotRec} {k : Job} {s : State} (hc : s.cfg = some c)
    (job : s.job k.num = some k) (slot : k.slot = some ad) (here : s.slotRec ad = some r) (outbound : r.state = .outbound)
    (picked : s.crane.heldPick k.num = true) (full : s.dir.writeRoom ad = false) :
    getAt (slotIndex c ad) (failNow k.num o s).dir.records = some ⟨.empty, 0, true⟩
      ∧ (failNow k.num o s).dir.writeList = s.dir.writeList ∧ (failNow k.num o s).dir.port = s.dir.port := by
  obtain ⟨_, hr⟩ := of_slotRec hc here
  have released : releaseFor k s = s.onDir (Directory.change ad (slotIndex c ad) .empty 0 none) := by
    unfold releaseFor
    simp only [slot]
    rw [if_pos picked]
    unfold requestChange
    simp [hc, here, outbound]
  rw [failNow_dir job, released]
  exact change_owed hr (by simp [SlotRec.lasting, outbound]) full

theorem writeRoom_congr {d e : Directory} (writes : e.writeList = d.writeList) (port : e.port = d.port) (ad : SlotAddr) :
    e.writeRoom ad = d.writeRoom ad := by
  unfold Directory.writeRoom Directory.hasPending Directory.pendingWrites Directory.underWrite
  rw [writes, port]

/-- Its disposal: the job fails, with no record (R145, R166). -/
theorem disposeActive_lostHeld {cause : Cause} {o : FailOutcome} {s : State} {r : StopReport} {st : NamedStep} {h : HeldStep} {j : Job}
    (report : s.crane.report = some r) (named : r.step = some st) (job : s.job st.job = some j) (stage : j.stage = .picking)
    (held : s.crane.held = some h) (result : h.result = .pickVerified) (names : h.step.job = j.num) (lost : r.fbn = false) :
    disposeActive cause o s = setRecord none (requestFail j.num o s) := by
  unfold disposeActive
  simp only [report, named, job]
  rw [if_neg (by simp [Job.onCrane, Job.active, stage]), if_neg (by simp [Crane.heldPlace, held, result]),
    if_pos (by simp [State.pickVerified, Crane.heldPick, held, result, names]), if_neg (by simp [lost])]

/-- The bin of a held pick lost, the station goes to FAULTED: the FETCH is gone with its FAILED, its slot EMPTY with its write owed, and no
record stands; nothing is written. -/
theorem faultDisposed_lostHeld {c : Config} {ad : SlotAddr} {r : SlotRec} {j : Job} {w : State} (hc : w.cfg = some c) (job : w.job j.num = some j)
    (slot : j.slot = some ad) (here : w.slotRec ad = some r) (outbound : r.state = .outbound)
    (held : w.crane.held = some ⟨⟨j.num, .pick, .slot ad, .retract⟩, .pickVerified⟩) (full : w.dir.writeRoom ad = false)
    (room : w.line.general.length < 8) (disposal : disposeActive .fault .stationFault w = setRecord none (failNow j.num .stationFault w)) :
    (faultDisposed w).slotRec ad = some ⟨.empty, 0, true⟩ ∧ (faultDisposed w).dir.writeRoom ad = false
      ∧ (faultDisposed w).dir.port = w.dir.port ∧ (faultDisposed w).crane.held = w.crane.held ∧ (faultDisposed w).faults.suspension = none
      ∧ (∀ k ∈ (faultDisposed w).queue.jobs, k.num ≠ j.num)
      ∧ ∃ x ∈ (faultDisposed w).line.general, x.body = .failed j.bin j.tag .stationFault ∧ x.dest = .station j.requester := by
  obtain ⟨queue, line, _⟩ := failNow_gone (o := .stationFault) job room
  obtain ⟨owed, writes, port⟩ := failNow_lost (o := .stationFault) hc job slot here outbound (by simp [Crane.heldPick, held]) full
  have first := failsWork_failNow j.num .stationFault w
  have gone : ∀ k ∈ (failNow j.num .stationFault w).queue.jobs, k.num ≠ j.num := fun k hk => by
    rw [queue] at hk
    simpa using (List.mem_filter.mp hk).2
  have rest : Dismisses (setRecord none (failNow j.num .stationFault w)) (faultDisposed w) := by
    unfold faultDisposed
    rw [disposal]
    exact dismisses_failing _ fun k hk _ => by
      rw [(first.trans (failsWork_setRecord none _)).heldPick]
      simpa [Crane.heldPick, held] using (gone k hk).symm
  have cfg : (faultDisposed w).cfg = some c := (rest.work.cfg.trans first.cfg).trans hc
  have record := rest.frees.stands (i := slotIndex c ad) (r := ⟨.empty, 0, true⟩) owed (by rintro q (⟨h, _⟩ | ⟨h, _⟩) <;> cases h)
  refine ⟨(slotRec_at cfg (of_slotRec hc here).1 rfl).trans record, ?_, rest.frees.port.trans port, rest.work.held.trans first.held, ?_,
    fun k hk => gone k (rest.drops.jobs.subset hk),
    ⟨newEntry w.line.nextOrder (.failed j.bin j.tag .stationFault) (.station j.requester) none, rest.drops.frames _ ?_, rfl, rfl⟩⟩
  · exact (writeRoom_congr (rest.frees.writes.trans writes) (rest.frees.port.trans port) ad).trans full
  · unfold faultDisposed
    rw [disposal, failWaiting_faults]
    rfl
  · show _ ∈ (failNow j.num .stationFault w).line.general
    rw [line]
    simp [Queued]

/-- Settles O22. -/
theorem faultDisposesOfJobs : Obligations.FaultDisposesOfJobs := by
  unfold Obligations.FaultDisposesOfJobs
  intro now axis j st since s a ha hp station still job alone
  have settles {u : State} (only : OnlyWrites u) {v : State} (eq : v = u) :
      ∃ d m, settle v = { u with dir := d, memory := m } ∧ SameSlots u.dir d := by
    rw [eq]
    exact only.settle_eq
  refine ⟨fun mode step names stage fbn held _ stall late driven => ?_, fun i f raises mode held idle distinct fit => ?_,
    fun ad r mode step held carry fetch stage slot pulls here outbound full pending port room => ?_⟩
  · have row : RaisesSevere now a (.stallExpiry now axis) .stall := .inr (.inr (.inl ⟨axis, since, rfl, rfl, stall, late, driven⟩))
    obtain ⟨severe, x, run, ended, bin⟩ := row.raises ha hp still
    have unstopped : a.crane.mode ≠ .stopped := by rw [mode]; exact (nomatch ·)
    obtain ⟨w, raised, reported, faulted, _, _, only⟩ := ended.raised severe station still unstopped
    obtain ⟨d, m, settled, _⟩ := settles (only held) raised
    obtain ⟨homing, report⟩ := reported.report
    rw [ended.named (.inr mode) held st step] at report
    obtain ⟨kept, record⟩ := faultDisposed_records ((reported.job j.num).trans job) (by rw [reported.queue]; exact alone)
      (failable_of_stage (.inl stage))
      (disposeActive_laden report rfl (by show w.job st.job = _; rw [names, reported.job]; exact job) (.inl stage) (reported.held.trans held)
        ((bin (nomatch ·)).trans fbn))
    refine ⟨_, run, by rw [settled]; exact faulted.withDir d m, ?_, ?_⟩ <;> rw [settled]
    · exact kept
    · show (faultDisposed w).faults.suspension = some ⟨_, _, _, _, _, _, _, (faultDisposed w).primary, _, _⟩
      rw [record, stage, faultDisposed_primary]
      rfl
  · obtain ⟨severe, x, run, ended, _⟩ := raises.raises ha hp still
    obtain ⟨w, raised, reported, faulted, _, _, only⟩ := ended.raised severe station still mode
    obtain ⟨d, m, settled, same⟩ := settles (only held) raised
    have wfit : FramesFit w := by
      unfold FramesFit
      rw [reported.frames, reported.queue]
      simpa using fit
    have widle : w.front.action = none := by rw [reported.front]; exact idle
    have wheld := reported.held.trans held
    have wdistinct : (w.queue.jobs.map (·.num)).Nodup := by rw [reported.queue]; exact distinct
    refine ⟨_, run, by rw [settled]; exact faulted.withDir d m, fun k hk waits => ?_, fun k hk stays => ?_, fun stepping named names stage => ?_⟩ <;>
      rw [settled]
    · have failable : k.failable = true := by
        rcases waits with ⟨kind, stage⟩ | ⟨kind, stage⟩ <;> simp [Job.failable, Job.waitingFetch, Job.isFetch, Job.isStore, kind, stage]
      obtain ⟨gone, frame, slot⟩ := (faultDisposed_waiting wdistinct wfit widle wheld (by rw [reported.queue]; exact hk) failable).settled (m := m) same
      exact ⟨gone, frame, fun ad r there here bin => ⟨
        fun kind state => slot ad r _ there ((reported.slotRec ad).trans here) bin (.inl ⟨kind, state, rfl⟩),
        fun kind state => slot ad r _ there ((reported.slotRec ad).trans here) bin (.inr ⟨kind, state, rfl⟩)⟩⟩
    · refine faultDisposed_keeps wdistinct (by rw [reported.queue]; exact hk) ?_ ?_
      · rcases stays with ⟨kind, stage⟩ | ⟨kind, stage | stage⟩ <;>
          simp [Job.failable, Job.waitingFetch, Job.isFetch, Job.isStore, kind, stage]
      · rcases stays with ⟨_, stage⟩ | ⟨_, stage | stage⟩ <;> simp [Job.onCrane, Job.active, stage]
    · obtain ⟨homing, report⟩ := reported.report
      rw [ended.named (.inr stepping) held st named] at report
      have wjob : w.job j.num = some j := (reported.job j.num).trans job
      obtain ⟨fails, keeps⟩ := disposeActive_unpicked (cause := .fault) (o := .stationFault) report rfl
        (by show w.job st.job = _; rw [names]; exact wjob) stage wheld
      refine ⟨fun store => ?_, fun fetch => ?_⟩
      · obtain ⟨kept, record⟩ := faultDisposed_records wjob (by rw [reported.queue]; exact alone) (failable_of_stage (.inr (.inr stage))) (keeps store)
        refine ⟨kept, ?_⟩
        show (faultDisposed w).faults.suspension = some ⟨_, _, _, _, _, _, _, (faultDisposed w).primary, _, _⟩
        rw [record, faultDisposed_primary]
        rfl
      · obtain ⟨failed, record⟩ := faultDisposed_active wfit widle wheld wjob (fails fetch)
        obtain ⟨gone, frame, slot⟩ := failed.settled (m := m) same
        exact ⟨gone, record, frame, fun ad r there here bin state =>
          slot ad r _ there ((reported.slotRec ad).trans here) bin (.inl ⟨fetch, state, rfl⟩)⟩
  · obtain ⟨x, run, ended, lost⟩ := binLost_raises ha hp still carry
    obtain ⟨waits, unstepped⟩ := ended.waits mode step
    obtain ⟨w, raised, reported, faulted, calm, unclearing, _⟩ := ended.raised (f := .binLost) rfl station still (by rw [mode]; exact (nomatch ·))
    have wheld := reported.held.trans held
    have wjob : w.job j.num = some j := (reported.job j.num).trans job
    obtain ⟨homing, report⟩ := reported.report
    have named : x.crane.toName = some ⟨j.num, .pick, true⟩ := by
      unfold Crane.toName
      simp only [unstepped, waits, ended.held, held]
      rfl
    rw [named, lost] at report
    have disposal : disposeActive .fault .stationFault w = setRecord none (failNow j.num .stationFault w) := by
      rw [disposeActive_lostHeld report rfl wjob stage wheld rfl rfl rfl]
      unfold requestFail
      rw [if_neg (by rw [reported.front]; simp [pulls])]
    have fullNow : a.dir.writeRoom ad = false := by
      simp [Directory.writeRoom, pending, full]
    have hc : ∃ c, a.cfg = some c := by
      unfold State.slotRec at here
      cases hc : a.cfg with
      | none => simp [hc] at here
      | some c => exact ⟨c, rfl⟩
    obtain ⟨c, hc⟩ := hc
    obtain ⟨empty, fullThen, portThen, heldThen, record, gone, y, hy, body, dest⟩ := faultDisposed_lostHeld (reported.cfg.trans hc) wjob slot
      ((reported.slotRec ad).trans here) outbound wheld (by rw [reported.dir]; exact fullNow) (by rw [reported.frames]; exact room) disposal
    have settled : settle (raise .binLost x) = closeOffers (faultDisposed w) := by
      rw [raised]
      exact settle_of_none (progress_heldFaulted (ad := ad) faulted.station calm
        ⟨faulted.mode, faulted.fork.2.1, faulted.fork.2.2.1, unclearing⟩ (heldThen.trans wheld) rfl fullThen
        (by show (faultDisposed w).dir.port ≠ _; rw [portThen, reported.dir]; exact port))
    refine ⟨_, ⟨.empty, 0, true⟩, run, by rw [settled]; exact faulted, ?_, ?_, rfl, rfl, rfl, ?_, ?_⟩ <;> rw [settled]
    · exact record
    · exact empty
    · exact gone
    · exact ⟨y, closeOffers_frame hy (by simp [TxEntry.isBidOrClaim, body]), body, dest⟩

end Sys2Proof.Machine
end
